-- ==== Sys2Proof/Word.lean ====
section
/-! DEFINITION. The words of the ND-3P model: a byte of either serial link, a 32-bit sample number, the
three components, the two detectors, and the containers indexed by them. -/

namespace Sys2Proof

/-- One byte of the sample link or of the control port. -/
abbrev Byte := BitVec 8

/-- A sample number: the digitizer's 32-bit frame sequence number, wrapping modulo 2^32 (0.5.2). -/
abbrev Sample := BitVec 32

/-- One value for each of the components Z, N and E. -/
structure Trio (α : Type) where
  z : α
  n : α
  e : α
  deriving DecidableEq, Repr, Inhabited

/-- The same function applied to each component. -/
def Trio.map {α β : Type} (f : α → β) (t : Trio α) : Trio β := ⟨f t.z, f t.n, f t.e⟩

/-- The three components as a list, Z first. -/
def Trio.toList {α : Type} (t : Trio α) : List α := [t.z, t.n, t.e]

/-- The two detectors: the Z Detector and the H Detector (0.2). -/
inductive Det where
  | z
  | h
  deriving DecidableEq, Repr, Inhabited

/-- One value for each detector, Z before H (11.3). -/
structure Pair (α : Type) where
  z : α
  h : α
  deriving DecidableEq, Repr, Inhabited

/-- The value of one detector. -/
def Pair.get {α : Type} (p : Pair α) : Det → α
  | .z => p.z
  | .h => p.h

/-- The value of one detector replaced. -/
def Pair.set {α : Type} (p : Pair α) (w : Det) (x : α) : Pair α :=
  match w with
  | .z => { p with z := x }
  | .h => { p with h := x }

/-- The same function applied to both detectors' values. -/
def Pair.map {α β : Type} (f : α → β) (p : Pair α) : Pair β := ⟨f p.z, f p.h⟩

end Sys2Proof
end

