-- ==== Sys2Proof/Syntax.lean ====
section
/-! DEFINITION. The commands of the ND-3P: one constructor for each row of spec/opcode_table.json, in the
table's order. A row that is a request carries the request frame's own bytes: its level, its tag and its
body; its kind code is fixed by the row (R171). -/

namespace Sys2Proof

/-- The baud rate of the control port that the two strap inputs select (11.6). -/
inductive Baud where
  | b115200
  | b230400
  | b460800
  | b921600
  deriving DecidableEq, Repr, Inhabited

/-- What every request frame carries beside its kind and body (R166), and the level of the PROTECT line
sampled when the request is taken (R143). -/
structure Req where
  /-- originator level, offset 3 of the frame -/
  level : Byte
  /-- tag chosen by the host, offset 5 of the frame -/
  tag : Byte
  /-- PROTECT at the moment the request is taken: true for high -/
  protect : Bool
  deriving DecidableEq, Repr, Inhabited

/-- One constructor per row of spec/opcode_table.json. `tick` is the 10 MHz local clock at the event. -/
inductive Instr where
  /-- SAMPLE_FRAME (R1): bytes of the sample link; their last byte arrives at `tick`. -/
  | sampleFrame (bytes : List Byte) (tick : Nat)
  /-- WARMUP_COMPLETION (R33) -/
  | warmupCompletion
  /-- AUTO_CLOSE (R64), at the report of detector `w` -/
  | autoClose (w : Det)
  /-- BLANKING_END (R57) -/
  | blankingEnd
  /-- WARMUP_PAUSE_END (R58) -/
  | warmupPauseEnd
  /-- ENTRY_EXPIRY (R109) -/
  | entryExpiry
  /-- TRIAL_EXPIRY (R165) -/
  | trialExpiry
  /-- LINK_LOSS (R6) -/
  | linkLoss
  /-- PULSE_EDGE (R114) at `tick` -/
  | pulseEdge (tick : Nat)
  /-- MISSING_PULSE (R115) -/
  | missingPulse
  /-- ONSET_SEARCH (R84) -/
  | onsetSearch
  /-- POLARIZATION (R87) -/
  | polarization
  /-- PEAKS_AND_COUNTS (R89) -/
  | peaksAndCounts
  /-- REFINEMENT_COMPLETION (R72) -/
  | refinementCompletion
  /-- PICK_ADMISSION (R129) -/
  | pickAdmission
  /-- NOTICE_ADMISSION (R130) -/
  | noticeAdmission
  /-- STORE_SAVE_COMPLETION (R150) -/
  | storeSaveCompletion
  /-- POWER_ON (R151), with the baud rate that the straps select -/
  | powerOn (straps : Baud)
  /-- RESET_LINE (R175): the line goes low (`low` true) or is released, with the baud rate the straps select -/
  | resetLine (low : Bool) (straps : Baud)
  /-- RESET_TAKES_EFFECT (R172) -/
  | resetTakesEffect
  /-- CONTROL_FRAME_DISCARD (R167): bytes arrive at the control port's receiver; PROTECT stands as given -/
  | controlFrameDiscard (bytes : List Byte) (protect : Bool)
  /-- CONTROL_FRAME_ABANDONED (R167): a silence longer than 20 character times; PROTECT stands as given -/
  | controlFrameAbandoned (protect : Bool)
  /-- REPLY_COMPLETE (R168) -/
  | replyComplete
  /-- UNKNOWN_KIND (R169): a request frame of kind `kind` -/
  | unknownKind (r : Req) (kind : Byte) (body : List Byte)
  /-- STATUS, kind 0x01 (R170) -/
  | status (r : Req) (body : List Byte)
  /-- COLLECT, kind 0x02 (R133) -/
  | collect (r : Req) (body : List Byte)
  /-- CHAIN HOLD, kind 0x03 (R46) -/
  | chainHold (r : Req) (body : List Byte)
  /-- CHAIN RUN, kind 0x04, mode LEARN (R45) -/
  | chainRunLearn (r : Req) (body : List Byte)
  /-- CHAIN RUN, kind 0x04, mode RESTORE (R36) -/
  | chainRunRestore (r : Req) (body : List Byte)
  /-- CHAIN RUN, kind 0x04, mode IMMEDIATE (R35) -/
  | chainRunImmediate (r : Req) (body : List Byte)
  /-- BLANK, kind 0x05 (R54) -/
  | blank (r : Req) (body : List Byte)
  /-- SLOT CLOSE, kind 0x06 (R65) -/
  | slotClose (r : Req) (body : List Byte)
  /-- SLOT FORCE, kind 0x07 (R75) -/
  | slotForce (r : Req) (body : List Byte)
  /-- PROFILE READ, kind 0x08 (R139) -/
  | profileRead (r : Req) (body : List Byte)
  /-- PROFILE WRITE, kind 0x09 (R140) -/
  | profileWrite (r : Req) (body : List Byte)
  /-- PROFILE SELECT, kind 0x0A (R142) -/
  | profileSelect (r : Req) (body : List Byte)
  /-- PROFILE LOCK, kind 0x0B (R144) -/
  | profileLock (r : Req) (body : List Byte)
  /-- STATION READ, kind 0x0C (R146) -/
  | stationRead (r : Req) (body : List Byte)
  /-- STATION WRITE, kind 0x0D (R147) -/
  | stationWrite (r : Req) (body : List Byte)
  /-- GATE READ, kind 0x0E (R157) -/
  | gateRead (r : Req) (body : List Byte)
  /-- GATE WRITE, kind 0x0F (R158) -/
  | gateWrite (r : Req) (body : List Byte)
  /-- ADJUST, kind 0x10, mode SET (R162) -/
  | adjustSet (r : Req) (body : List Byte)
  /-- ADJUST, kind 0x10, mode TRY (R161) -/
  | adjustTry (r : Req) (body : List Byte)
  /-- REVERT, kind 0x11 (R164) -/
  | revert (r : Req) (body : List Byte)
  /-- FLOOR, kind 0x12 (R154) -/
  | floor (r : Req) (body : List Byte)
  /-- TIME LABEL, kind 0x13 (R116) -/
  | timeLabel (r : Req) (body : List Byte)
  /-- SNAPSHOT TAKE, kind 0x14 (R37) -/
  | snapshotTake (r : Req) (body : List Byte)
  /-- SNAPSHOT READ, kind 0x15 (R38) -/
  | snapshotRead (r : Req) (body : List Byte)
  /-- SNAPSHOT WRITE, kind 0x16 (R39) -/
  | snapshotWrite (r : Req) (body : List Byte)
  /-- STORE SAVE, kind 0x17 (R148) -/
  | storeSave (r : Req) (body : List Byte)
  /-- RESET, kind 0x18 (R172) -/
  | reset (r : Req) (body : List Byte)
  /-- POWER_LOSS (R150) -/
  | powerLoss
  deriving DecidableEq, Repr

end Sys2Proof
end

