-- ==== Sys2Proof/Decode.lean ====
section
/-! DEFINITION. The command that a table word spells. spec/opcode_table.json gives no row of the ND-3P any bits
(every row's "fields" is empty), so no word spells a command. -/

namespace Sys2Proof

/-- The command spelt by the low `nbits` bits of `w` in the opcode table's numbering: none, because no row of
this block's table has bits. -/
def decodeTableWord (_nbits _w : Nat) : Option Instr := none

end Sys2Proof
end

