-- ==== Sys2Proof/Machine/Types.lean ====
section
/-! DEFINITION. The plain-data types of the ND-3P's blocks (0.2), chapter by chapter. -/

namespace Sys2Proof.Machine

/-! ## Settings (chapters 9 and 10) -/

/-- The three sample positions of a sample frame (chapter 1). -/
inductive LinkPos where
  | a
  | b
  | c
  deriving DecidableEq, Repr, Inhabited

/-- The parameters of a profile entry that are held once per detector (9.1). -/
structure DetParams where
  /-- STA shift a -/
  sta : Nat
  /-- LTA shift c -/
  lta : Nat
  /-- ON threshold, in sixteenths -/
  on : Nat
  /-- OFF threshold, in sixteenths -/
  off : Nat
  /-- onset level, in sixteenths -/
  ons : Nat
  /-- floor F -/
  floor : Nat
  deriving DecidableEq, Repr, Inhabited

/-- One profile entry: 32 parameters and the level attribute (9.1). -/
structure Profile where
  /-- high-pass shift h -/
  hp : Nat
  /-- CF scale s -/
  cf : Nat
  /-- block shift b -/
  blk : Nat
  /-- the per-detector parameters -/
  det : Pair DetParams
  /-- window Lw -/
  lw : Nat
  /-- minimum window Lmin -/
  lmin : Nat
  /-- separation Dsep -/
  dsep : Nat
  /-- backtrack span Lb -/
  lb : Nat
  /-- onset smoothing shift o -/
  osm : Nat
  /-- polarization shift p -/
  pol : Nat
  /-- recentre tail T -/
  tail : Nat
  /-- warm-up block count W -/
  warm : Nat
  /-- P share limit v_p -/
  vp : Nat
  /-- S share limit v_s -/
  vs : Nat
  snrA : Nat
  snrB : Nat
  snrC : Nat
  riseA : Nat
  riseB : Nat
  smin : Nat
  smax : Nat
  /-- entry level -/
  level : Nat
  deriving DecidableEq, Repr, Inhabited

/-- The 33 items of a profile entry by name (9.1). -/
inductive Item where
  | hp
  | cf
  | blk
  | sta (w : Det)
  | lta (w : Det)
  | on (w : Det)
  | off (w : Det)
  | ons (w : Det)
  | floor (w : Det)
  | lw
  | lmin
  | dsep
  | lb
  | osm
  | pol
  | tail
  | warm
  | vp
  | vs
  | snrA
  | snrB
  | snrC
  | riseA
  | riseB
  | smin
  | smax
  | level
  deriving DecidableEq, Repr, Inhabited

/-- The lock states that the Settings Store can hold for an object; POWER is stored as one of them (R149). -/
inductive BaseLock where
  /-- OPEN -/
  | opened
  /-- LINE -/
  | line
  /-- FIXED -/
  | fixed
  deriving DecidableEq, Repr, Inhabited

/-- The lock of one object (9.3). An object's power lock mark is set exactly while its state is POWER (R145). -/
inductive Lock where
  /-- OPEN, LINE or FIXED -/
  | base (l : BaseLock)
  /-- POWER, with its underlying state -/
  | power (under : BaseLock)
  deriving DecidableEq, Repr, Inhabited

/-- The station record (9.4). -/
structure Station where
  rate : Nat
  /-- the link position that carries each component -/
  map : Trio LinkPos
  /-- polarity, true for inverted -/
  inverted : Trio Bool
  /-- trim gain g -/
  trim : Trio Nat
  /-- clip level -/
  clip : Trio Nat
  /-- group delay gd in µs -/
  gd : Nat
  /-- gap limit G -/
  gap : Nat
  autostart : Bool
  /-- default profile -/
  dflt : Fin 8
  strict : Bool
  deriving DecidableEq, Repr, Inhabited

/-- One adjustment gate, its fields as carried by GATE WRITE (R157, R158, 11.3). -/
structure Gate where
  valid : Bool
  level : Nat
  setLevel : Nat
  /-- 0..7 for an entry, 8 for ACTIVE -/
  target : Nat
  /-- item identifier of the target parameter -/
  param : Nat
  low : Nat
  high : Nat
  /-- maximum trial duration in samples -/
  dur : Nat
  deriving DecidableEq, Repr, Inhabited

/-- One Revert Stack entry (R161). -/
structure Trial where
  entry : Fin 8
  item : Item
  old : Nat
  new : Nat
  /-- the invoker's effective level -/
  level : Nat
  expiry : Sample
  deriving DecidableEq, Repr, Inhabited

/-- The three working tables with their locks (0.2.2, 9.3). -/
structure Settings where
  profiles : Vector Profile 8
  /-- the active pointer -/
  active : Fin 8
  profileLock : Vector Lock 8
  station : Station
  stationLock : Lock
  gates : Vector Gate 16
  gateLock : Lock
  deriving DecidableEq, Repr, Inhabited

/-- The image held by the Settings Store (9.5). -/
structure Image where
  profiles : Vector Profile 8
  profileLock : Vector BaseLock 8
  station : Station
  stationLock : BaseLock
  gates : Vector Gate 16
  gateLock : BaseLock
  deriving DecidableEq, Repr, Inhabited

/-- The Settings Store (9.5). -/
structure Store where
  image : Image
  /-- the completion mark -/
  mark : Bool
  /-- the image being written while the store is WRITING; none while it is IDLE -/
  writing : Option Image
  /-- store defaulted -/
  defaulted : Bool
  deriving DecidableEq, Repr, Inhabited

/-! ## Sample Intake, Conditioner and History Ring (chapter 1) -/

/-- Link state. -/
inductive LinkState where
  | up
  | down
  deriving DecidableEq, Repr, Inhabited

/-- A raw sample frame: sequence number, whole status field and the three raw samples (R173). -/
structure RawFrame where
  seq : Sample
  status : Byte
  a : Int
  b : Int
  c : Int
  deriving DecidableEq, Repr, Inhabited

/-- The Sample Intake's state (1.1). -/
structure Intake where
  link : LinkState
  /-- expected sequence number, or NONE -/
  expected : Option Sample
  /-- last accepted raw frame -/
  lastRaw : Option RawFrame
  /-- silence timer: the tick it was last started at, or none while it does not run -/
  silence : Option Nat
  bad : Nat
  stale : Nat
  filled : Nat
  gaps : Nat
  /-- bytes of a sync pattern or frame partly received (R1, R10) -/
  rx : List Byte
  deriving DecidableEq, Repr, Inhabited

/-- A conditioned frame (R16). -/
structure Conditioned where
  n : Sample
  d : Trio Int
  clip : Trio Bool
  filled : Bool
  recentre : Bool
  deriving DecidableEq, Repr, Inhabited

/-- A History Ring entry: a conditioned frame without its recentre flag (1.3). -/
structure RingEntry where
  n : Sample
  d : Trio Int
  clip : Trio Bool
  filled : Bool
  deriving DecidableEq, Repr, Inhabited

/-! ## Detectors and Chain Controller (chapters 2 and 3) -/

/-- Detector states (3.3). -/
inductive DetState where
  | off
  | warming
  | quiet
  | triggered
  | blanked
  deriving DecidableEq, Repr, Inhabited

/-- One detector's state (0.2, chapter 2). -/
structure Detector where
  st : DetState
  /-- STA, at 256 times CF units -/
  sta : Nat
  /-- LTA, at 256 times CF units -/
  lta : Nat
  blkSum : Nat
  blkCount : Nat
  owed : Nat
  /-- forced-baseline mark -/
  forced : Bool
  /-- learn sum -/
  learn : Nat
  /-- pending lost-trigger count -/
  pendLost : Nat
  deriving DecidableEq, Repr, Inhabited

/-- Chain states (3.1). -/
inductive ChainState where
  | hold
  | warmup
  | run
  | resync
  deriving DecidableEq, Repr, Inhabited

/-- Record 1 of a snapshot (2.6). -/
structure Header where
  rate : Nat
  map : Trio LinkPos
  hp : Nat
  cf : Nat
  blk : Nat
  sta : Pair Nat
  lta : Pair Nat
  deriving DecidableEq, Repr, Inhabited

/-- STA and LTA of one detector, as snapshot records 5 and 6 hold them. -/
structure Averages where
  sta : Nat
  lta : Nat
  deriving DecidableEq, Repr, Inhabited

/-- The seven records of a snapshot (2.6). -/
structure Snapshot where
  header : Header
  mean : Trio Int
  avg : Pair Averages
  /-- record count of record 7 -/
  count : Nat
  /-- sample number at capture -/
  sample : Sample
  deriving DecidableEq, Repr, Inhabited

/-- State of the snapshot output buffer (R37). -/
inductive ExportState where
  | empty
  | pending
  | ready
  deriving DecidableEq, Repr, Inhabited

/-- State of the snapshot import (R39). -/
inductive ImportState where
  | idle
  | importing (k : Nat)
  | valid
  | invalid
  deriving DecidableEq, Repr, Inhabited

/-- The Chain Controller's state (chapter 3). -/
structure Chain where
  st : ChainState
  /-- warm-up block count k -/
  k : Nat
  /-- blanking end sample -/
  blankEnd : Option Sample
  /-- warm-up pause end sample -/
  pauseEnd : Option Sample
  /-- autostart arming -/
  armed : Bool
  expSt : ExportState
  expBuf : Snapshot
  impSt : ImportState
  impBuf : Snapshot
  deriving DecidableEq, Repr, Inhabited

/-! ## Slots, refinement and picks (chapters 4 and 5) -/

/-- Slot states (chapter 4). -/
inductive SlotState where
  | free
  /-- OPEN -/
  | opened
  | closed
  | refining
  | done
  deriving DecidableEq, Repr, Inhabited

/-- Slot classes. -/
inductive SlotClass where
  | z
  | h
  | forced
  deriving DecidableEq, Repr, Inhabited

/-- Phase calls (R88). -/
inductive Phase where
  | p
  | s
  | unknown
  deriving DecidableEq, Repr, Inhabited

/-- The basis of a phase call (R88). -/
inductive Basis where
  | polar
  | context
  | none
  deriving DecidableEq, Repr, Inhabited

/-- Roles given at admission (R100). -/
inductive Role where
  | none
  | p
  | sMeasured
  | sInferred
  deriving DecidableEq, Repr, Inhabited

/-- Time states (7.5). -/
inductive TimeState where
  | neverSet
  | locked
  | holdover
  | unlocked
  deriving DecidableEq, Repr, Inhabited

/-- The flags of a pick record (R95). -/
structure Flags where
  searchLimit : Bool := false
  historyShort : Bool := false
  truncated : Bool := false
  gap : Bool := false
  baselineForced : Bool := false
  polClipped : Bool := false
  contextCall : Bool := false
  timeStep : Bool := false
  blanked : Bool := false
  noEnergy : Bool := false
  deriving DecidableEq, Repr, Inhabited

/-- The parameters copied into a slot at its opening (4.1). -/
structure SlotParams where
  lw : Nat
  lmin : Nat
  dsep : Nat
  lb : Nat
  osm : Nat
  pol : Nat
  ons : Nat
  vp : Nat
  vs : Nat
  snrA : Nat
  snrB : Nat
  snrC : Nat
  riseA : Nat
  riseB : Nat
  smin : Nat
  smax : Nat
  deriving DecidableEq, Repr, Inhabited

/-- The six polarization sums (R87). -/
structure Sums where
  zz : Int
  nn : Int
  ee : Int
  zn : Int
  ze : Int
  ne : Int
  deriving DecidableEq, Repr, Inhabited

/-- A peak and its offset from the onset (R89). -/
structure Peak where
  mag : Nat
  offset : Nat
  deriving DecidableEq, Repr, Inhabited

/-- The pick record (R94). `seq`, `role` and `group` are given at admission. -/
structure PickRecord where
  seq : Option (BitVec 32)
  cls : SlotClass
  call : Phase
  basis : Basis
  profile : Fin 8
  trigger : Sample
  onset : Sample
  secs : Nat
  us : Nat
  timeSt : TimeState
  missed : Nat
  rise : Nat
  snr : Nat
  weight : Nat
  share : Option Nat
  sums : Option Sums
  peaks : Option (Trio Peak)
  clips : Nat
  fills : Nat
  retrig : Nat
  lost : Nat
  flags : Flags
  group : Option (BitVec 8)
  role : Role
  deriving DecidableEq, Repr, Inhabited

/-- One slot record (4.1). -/
structure Slot where
  st : SlotState
  cls : SlotClass
  trigger : Sample
  close : Sample
  /-- LTA at trigger -/
  ltaTrig : Nat
  /-- peak SNR -/
  peak : Nat
  retrig : Nat
  /-- lost count carried in -/
  lost : Nat
  profile : Fin 8
  params : SlotParams
  flags : Flags
  /-- search start (pin), or none -/
  pin : Option Sample
  /-- completion order, or none -/
  order : Option (BitVec 32)
  record : Option PickRecord
  deriving DecidableEq, Repr, Inhabited

/-- The Slot Table (chapter 4) with its record of each detector's most recent opening and its
cumulative lost-trigger counters (3.5). -/
structure SlotTable where
  slots : Vector Slot 8
  /-- the refinement queue, head first -/
  queue : List (Fin 8)
  recent : Pair (Option (Fin 8 × Sample))
  lost : Pair Nat
  deriving DecidableEq, Repr, Inhabited

/-- Results of stage 1 (R84, R85). -/
structure OnsetResult where
  onset : Sample
  rise : Nat
  searchLimit : Bool
  deriving DecidableEq, Repr, Inhabited

/-- Results of stage 2 (R86, R87). -/
structure PolResult where
  sums : Option Sums
  share : Option Nat
  polClipped : Bool
  noEnergy : Bool
  truncated : Bool
  deriving DecidableEq, Repr, Inhabited

/-- Results of stage 3 (R89, R90). -/
structure PeakResult where
  peaks : Option (Trio Peak)
  clips : Nat
  fills : Nat
  deriving DecidableEq, Repr, Inhabited

/-- The Refinement Unit with a slot in hand (5.1). -/
structure RefineUnit where
  slot : Fin 8
  /-- the CF scale latched at the take (R80) -/
  cf : Nat
  onset : Option OnsetResult
  pol : Option PolResult
  peaks : Option PeakResult
  deriving DecidableEq, Repr, Inhabited

/-! ## Association Table (chapter 6) -/

/-- One association entry (R99). -/
structure Entry where
  /-- OPEN -/
  opened : Bool
  group : BitVec 8
  pSeq : BitVec 32
  pOnset : Sample
  pSecs : Nat
  pUs : Nat
  smin : Nat
  smax : Nat
  created : BitVec 32
  deriving DecidableEq, Repr, Inhabited

/-- The Association Table: its entries and its creation order count (R99). -/
structure Assoc where
  entries : Vector Entry 8
  created : BitVec 32
  deriving DecidableEq, Repr, Inhabited

/-! ## Time Base (chapter 7) -/

/-- A pulse capture (7.1). -/
structure Capture where
  sp : Sample
  /-- ticks into the sample, δ -/
  delta : Nat
  lp : Option Nat
  deriving DecidableEq, Repr, Inhabited

/-- The Time Base's state (7.1). -/
structure TimeBase where
  st : TimeState
  /-- last pulse edge -/
  lastEdge : Option Nat
  /-- last pulse label -/
  lastLabel : Option Nat
  /-- pending label -/
  pendLabel : Option Nat
  capture : Option Capture
  missed : Nat
  /-- missing-pulse timer: the tick of its next expiry, or none while it is stopped -/
  timer : Option Nat
  /-- TIME_STEP mark -/
  step : Bool
  /-- last accepted frame: sequence number and arrival tick -/
  lastFrame : Option (Sample × Nat)
  deriving DecidableEq, Repr, Inhabited

/-! ## Report Queue and Notice Set (chapter 8) -/

/-- The three resets (0.3). -/
inductive ResetKind where
  | powerOn
  | line
  | request
  deriving DecidableEq, Repr, Inhabited

/-- A notice's data; its constructor is the notice's key (R132). -/
inductive NoticeData where
  | linkDown (n : Sample)
  | longGap (expected arriving : Sample)
  | warmupDone (n : Sample)
  | baselineForced (w : Det) (n : Sample)
  | timeState (st : TimeState) (missed : Nat)
  | storeDefaulted (kind : ResetKind)
  | trialExpired (entry : Fin 8) (item : Item) (value : Nat)
  deriving DecidableEq, Repr, Inhabited

/-- A pending notice (R131). -/
structure PendingNotice where
  /-- first-occurrence date -/
  date : BitVec 32
  /-- newest sample at the first occurrence -/
  first : Option Sample
  count : Nat
  data : NoticeData
  deriving DecidableEq, Repr, Inhabited

/-- A group record (R105). -/
structure GroupRecord where
  group : BitVec 8
  pSeq : BitVec 32
  sSeq : BitVec 32
  role : Role
  samples : Nat
  us : Int
  deriving DecidableEq, Repr, Inhabited

/-- A notice record (R130). -/
structure NoticeRecord where
  count : Nat
  first : Option Sample
  data : NoticeData
  deriving DecidableEq, Repr, Inhabited

/-- A record of the Report Queue (R126). -/
inductive Record where
  | pick (p : PickRecord)
  | group (g : GroupRecord)
  | notice (n : NoticeRecord)
  deriving DecidableEq, Repr, Inhabited

/-- A waiting item (R127): a slot in DONE or a pending notice, the latter by its key's code. -/
inductive Waiting where
  | pick (i : Fin 8)
  | notice (k : Fin 8)
  deriving DecidableEq, Repr, Inhabited

/-- The Report Queue and the Notice Set (8.1, 8.3). -/
structure Reports where
  queue : List Record
  /-- pick sequence counter -/
  pickSeq : BitVec 32
  /-- group id counter -/
  groupId : BitVec 8
  /-- waiting count -/
  waiting : BitVec 32
  /-- blocked indication (R135) -/
  blocked : Bool
  /-- the pending notice of each key, by the key's code (R173) -/
  notices : Vector (Option PendingNotice) 8
  deriving DecidableEq, Repr, Inhabited

/-! ## Control Port and lines (chapter 11) -/

/-- Reply status codes (R169). -/
inductive Status where
  | done
  | busy
  | level
  | locked
  | needsHold
  | needsRun
  | state
  | range
  | conflict
  | empty
  | full
  | notFound
  | mismatch
  | late
  | noSnapshot
  | unknownKind
  | badLength
  deriving DecidableEq, Repr, Inhabited

/-- The reply of the request in progress: what R169 puts into its frame. -/
structure Reply where
  /-- effective level -/
  level : Nat
  /-- request kind + 0x80 -/
  kind : Byte
  tag : Byte
  status : Status
  /-- bit 0 of the indication byte -/
  clamped : Bool
  data : List Byte
  deriving DecidableEq, Repr, Inhabited

/-- The Control Port's state (R166): its receiver, the request in progress, the discard counter. -/
structure Port where
  /-- the request in progress, by its reply -/
  busy : Option Reply
  /-- discarded control frames -/
  discarded : Nat
  /-- bytes of a sync pair or frame partly received -/
  rx : List Byte
  /-- a first sync byte has been received and a silence longer than 20 character times has fallen behind it (R167) -/
  cut : Bool
  deriving DecidableEq, Repr, Inhabited

/-- A reset that has been asked for and has not yet taken effect (R152, R172). -/
structure PendingReset where
  kind : ResetKind
  /-- the reply's last byte has been sent, or the RESET line has been released -/
  released : Bool
  deriving DecidableEq, Repr, Inhabited

end Sys2Proof.Machine
end

