-- ==== Sys2Proof/Config.lean ====
section
/-! DEFINITION. What the part fixes once (0.5.6, 0.5.7 and the constants of the chapters), and the free
values: what the guide leaves open and the machine nevertheless decides. A free value has no body, so no
proof can rest on which value it takes. -/

namespace Sys2Proof.Config

/-- History Ring capacity in frames (R18). -/
def ringCap : Nat := 16384

/-- Report Queue capacity in records (R126). -/
def queueCap : Nat := 32

/-- Revert Stack capacity in entries (R163). -/
def stackCap : Nat := 8

/-- Owed blocks per detector (R29, R30). -/
def owedCap : Nat := 8

/-- Silence that takes the sample link down: 250 ms in ticks (R6). -/
def silenceTicks : Nat := 2500000

/-- An edge closer than this to the last accepted one is spurious: 0.9 s in ticks (R114). -/
def spuriousTicks : Nat := 9000000

/-- First missing pulse: 1.1 s in ticks (R115). -/
def missingTicks : Nat := 11000000

/-- One second in ticks (0.4). -/
def secondTicks : Nat := 10000000

/-- Missing pulses that unlock the Time Base (R115). -/
def unlockCount : Nat := 600

/-- Margin of an association entry's limit, the largest backtrack span (R109). -/
def entryMargin : Nat := 2048

/-- The largest trial duration (R157, R165). -/
def trialMax : Nat := 16777215

/-- Time labels run modulo 2^40 (R116). -/
def labelMod : Nat := 2 ^ 40

/-- Free value (log 3): which of the orders that R16, R55, R63, R97 and R165 leave open the part takes at its
k-th open choice. Safe: a claim holds for every value. -/
opaque race : Nat → Nat

/-- Free value (log 4): the image, part old and part new, that a power loss during a save leaves in the
Settings Store (R150), from the old image, the new one and a count. Safe: no reset loads it. -/
opaque tornImage : Machine.Image → Machine.Image → Nat → Machine.Image

end Sys2Proof.Config
end

