-- ==== Sys2Proof/Machine/Arith.lean ====
section
/-! DEFINITION. The guide's arithmetic conventions (0.5.2, 0.5.3) and its byte order (chapter 11). -/

namespace Sys2Proof.Machine

/-- The distance from sample m to sample n: n − m modulo 2^32, read as a signed number (0.5.2). -/
def distance (m n : Sample) : Int := (n - m).toInt

/-- Of two sample numbers, the later by signed distance (R54, R56, R58). -/
def later (m n : Sample) : Sample := if 0 ≤ distance m n then n else m

/-- Of two sample numbers, the earlier by signed distance (R65). -/
def earlier (m n : Sample) : Sample := if 0 ≤ distance m n then m else n

/-- The sample k after n, modulo 2^32. -/
def after (n : Sample) (k : Nat) : Sample := n + BitVec.ofNat 32 k

/-- The sample k before n, modulo 2^32. -/
def before (n : Sample) (k : Nat) : Sample := n - BitVec.ofNat 32 k

/-- Saturation to 0..65,535 (R9). -/
def sat16 (x : Nat) : Nat := min x 65535

/-- Saturation to 0..255 (R59, R131). -/
def sat8 (x : Nat) : Nat := min x 255

/-- Saturation to the 24-bit range (R12, R14, R15). -/
def sat24 (x : Int) : Int := max (-8388608) (min x 8388607)

/-- floor(x / 2^n): a right shift of a signed value (0.5.3). -/
def shr (x : Int) (n : Nat) : Int := x / (2 ^ n : Nat)

/-- The update of R23 and R27: old + floor((target − old) / 2^shift). -/
def approach (old target shift : Nat) : Nat := ((old : Int) + shr ((target : Int) - old) shift).toNat

/-- Is n the last sample of its baseline block (R25)? -/
def isBlockEnd (b : Nat) (n : Sample) : Bool := n.toNat % 2 ^ b == 2 ^ b - 1

/-- The sample period of a station rate in µs (0.5.2). -/
def periodUs (rate : Nat) : Nat := 1000000 / rate

/-- k bytes of a number, most significant first (chapter 11). -/
def be : Nat → Nat → List Byte
  | 0, _ => []
  | k + 1, x => BitVec.ofNat 8 (x / 256 ^ k) :: be k x

/-- k bytes of a signed number in two's complement, most significant first. -/
def beInt (k : Nat) (x : Int) : List Byte := be k (x % (256 ^ k : Nat)).toNat

/-- The unsigned number that bytes spell, most significant first. -/
def unbe (bs : List Byte) : Nat := bs.foldl (fun acc b => acc * 256 + b.toNat) 0

/-- The signed number that bytes spell in two's complement, most significant first. -/
def unbeInt (bs : List Byte) : Int :=
  let x := unbe bs
  if x < 256 ^ bs.length / 2 then x else (x : Int) - (256 ^ bs.length : Nat)

/-- The bytes of a body or frame from offset `off` on, `len` of them. -/
def slice (bs : List Byte) (off len : Nat) : List Byte := (bs.drop off).take len

/-- An unsigned field of a body or frame. -/
def field (bs : List Byte) (off len : Nat) : Nat := unbe (slice bs off len)

/-- A signed field of a body or frame. -/
def fieldInt (bs : List Byte) (off len : Nat) : Int := unbeInt (slice bs off len)

/-- One bit of the CRC-16 register's step: x^16 + x^12 + x^5 + 1 (R166). -/
def crcBit (c : Nat) : Nat := if c < 32768 then 2 * c else Nat.xor (2 * c % 65536) 0x1021

/-- One byte taken into the CRC-16 register, most significant bit first (R166). -/
def crcByte (c : Nat) (b : Byte) : Nat :=
  crcBit (crcBit (crcBit (crcBit (crcBit (crcBit (crcBit (crcBit (Nat.xor c (b.toNat * 256)))))))))

/-- CRC-16 with initial value 0xFFFF and no final inversion (R166). -/
def crc16 (bs : List Byte) : Nat := bs.foldl crcByte 0xFFFF

/-- A table of eight rewritten entry by entry. -/
def mapEight {α β : Type} (f : Fin 8 → α → β) (v : Vector α 8) : Vector β 8 :=
  #v[f 0 v[0], f 1 v[1], f 2 v[2], f 3 v[3], f 4 v[4], f 5 v[5], f 6 v[6], f 7 v[7]]

/-- The numbers 0 to 7, of slots, entries, profile entries and notice keys. -/
def eight : List (Fin 8) := [0, 1, 2, 3, 4, 5, 6, 7]

/-- An entry, slot or key number carried as a number 0..7. -/
def toFin8 (x : Nat) : Option (Fin 8) := if h : x < 8 then some ⟨x, h⟩ else none

end Sys2Proof.Machine
end

