-- ==== Sys2Proof/Machine/Factory.lean ====
section
/-! DEFINITION. Factory defaults (9.1, 9.4, R151, R157) and the blank records that a reset leaves. -/

namespace Sys2Proof.Machine

/-- The factory profile entry: every item at the default of 9.1, level 1 (R151). -/
def factoryProfile : Profile where
  hp := 12
  cf := 4
  blk := 5
  det := ⟨⟨3, 6, 64, 24, 32, 16⟩, ⟨4, 6, 72, 28, 36, 16⟩⟩
  lw := 1024
  lmin := 128
  dsep := 64
  lb := 256
  osm := 2
  pol := 6
  tail := 2000
  warm := 256
  vp := 160
  vs := 80
  snrA := 160
  snrB := 64
  snrC := 32
  riseA := 4
  riseB := 16
  smin := 20
  smax := 3000
  level := 1

/-- The factory station record (9.4). -/
def factoryStation : Station where
  rate := 100
  map := ⟨.a, .b, .c⟩
  inverted := ⟨false, false, false⟩
  trim := ⟨32768, 32768, 32768⟩
  clip := ⟨8000000, 8000000, 8000000⟩
  gd := 0
  gap := 4
  autostart := true
  dflt := 0
  strict := true

/-- The factory gate: not valid, other fields 0, target ACTIVE, parameter θon Z, identifier 7 (R157, 11.3). -/
def factoryGate : Gate := ⟨false, 0, 0, 8, 7, 0, 0, 0⟩

/-- The factory image: what a reset loads when the completion mark is missing (R151). -/
def factoryImage : Image where
  profiles := Vector.replicate 8 factoryProfile
  profileLock := Vector.replicate 8 .opened
  station := factoryStation
  stationLock := .opened
  gates := Vector.replicate 16 factoryGate
  gateLock := .opened

/-- A snapshot buffer without contents. -/
def blankSnapshot : Snapshot :=
  ⟨⟨0, ⟨.a, .b, .c⟩, 0, 0, 0, ⟨0, 0⟩, ⟨0, 0⟩⟩, ⟨0, 0, 0⟩, ⟨⟨0, 0⟩, ⟨0, 0⟩⟩, 0, 0⟩

/-- The parameters of a FREE slot, which have no meaning (4.1). -/
def blankParams : SlotParams := ⟨0, 0, 0, 0, 0, 0, 0, 0, 0, 0, 0, 0, 0, 0, 0, 0⟩

/-- A FREE slot. Its fields have no meaning and are set afresh when it opens (4.1). -/
def freeSlot : Slot where
  st := .free
  cls := .z
  trigger := 0
  close := 0
  ltaTrig := 0
  peak := 0
  retrig := 0
  lost := 0
  profile := 0
  params := blankParams
  flags := {}
  pin := none
  order := none
  record := none

/-- A FREE association entry. Its fields have no meaning (R99). -/
def freeEntry : Entry := ⟨false, 0, 0, 0, 0, 0, 0, 0, 0⟩

/-- A detector after any reset: OFF, every average and count 0 (R42, R43). -/
def resetDetector : Detector := ⟨.off, 0, 0, 0, 0, 0, false, 0, 0⟩

/-- The Sample Intake after any reset (R10). -/
def resetIntake : Intake := ⟨.down, none, none, none, 0, 0, 0, 0, []⟩

/-- The Chain Controller after any reset (R42, R43). -/
def resetChain : Chain := ⟨.hold, 0, none, none, true, .empty, blankSnapshot, .idle, blankSnapshot⟩

/-- The Slot Table after any reset (R61, R79). -/
def resetTable : SlotTable := ⟨Vector.replicate 8 freeSlot, [], ⟨none, none⟩, ⟨0, 0⟩⟩

/-- The Association Table after any reset (R112). -/
def resetAssoc : Assoc := ⟨Vector.replicate 8 freeEntry, 0⟩

/-- The Time Base after power-on and the RESET line (R113). -/
def resetTime : TimeBase := ⟨.neverSet, none, none, none, none, 0, none, false, none⟩

/-- The Report Queue and Notice Set after any reset (R136). -/
def resetReports : Reports := ⟨[], 0, 0, 0, false, Vector.replicate 8 none⟩

/-- The Control Port after any reset (R167). -/
def resetPort : Port := ⟨none, 0, [], false⟩

/-- The working tables as loaded from an image, no power lock mark set; the active pointer is the loaded
default profile (R151). -/
def loadImage (im : Image) : Settings where
  profiles := im.profiles
  active := im.station.dflt
  profileLock := #v[.base im.profileLock[0], .base im.profileLock[1], .base im.profileLock[2],
    .base im.profileLock[3], .base im.profileLock[4], .base im.profileLock[5], .base im.profileLock[6],
    .base im.profileLock[7]]
  station := im.station
  stationLock := .base im.stationLock
  gates := im.gates
  gateLock := .base im.gateLock

end Sys2Proof.Machine
end

