-- ==== Sys2Proof/Machine/State.lean ====
section
/-! DEFINITION. The whole state of the ND-3P as plain data, and the state right after reset. -/

namespace Sys2Proof.Machine

/-- Reasons a command could stop the block with a fault. The guide gives the ND-3P none: every event and every
request has its effect or its refusal reply, so no meaning raises one and this type has no constructor (safe). -/
inductive Fault
  deriving DecidableEq, Repr

/-- Reasons a command could have no meaning in the model. -/
inductive Refusal where
  /-- An arm of exec that has no meaning yet, by its mnemonic. No arm raises it (safe). -/
  | notModelled (mnemonic : String)
  deriving DecidableEq, Repr

/-- The tests that the newest conditioned frame brings and that have not been made yet (log 2). The frame's own event
sets them and makes them, so that each is made once for each frame and none without one. -/
structure Due where
  /-- the completion test of a block just counted (R33) -/
  completion : Bool := false
  /-- the expiry tests of the Association Table (R109) -/
  entries : Bool := false
  /-- the expiry tests of the Revert Stack (R165) -/
  trials : Bool := false
  deriving DecidableEq, Repr

/-- The machine: every piece of state the guide gives the part (0.2), the model's own fields last. -/
structure State where
  /-- local clock in ticks since power-on (R113) -/
  clock : Nat
  intake : Intake
  /-- DC means of the Conditioner; none for unset (R15) -/
  dc : Trio (Option Int)
  /-- History Ring, oldest entry first (1.3) -/
  ring : List RingEntry
  /-- newest sample, or none before the first frame since the last reset (R17) -/
  newest : Option Sample
  det : Pair Detector
  chain : Chain
  table : SlotTable
  /-- Refinement Unit: none while idle (R71) -/
  unit : Option RefineUnit
  assoc : Assoc
  time : TimeBase
  reports : Reports
  settings : Settings
  /-- Revert Stack, top first (R163) -/
  revert : List Trial
  store : Store
  /-- link floor (R153) -/
  floor : Nat
  port : Port
  /-- strapped baud rate as last read (11.6) -/
  baud : Baud
  /-- strap inputs -/
  straps : Baud
  /-- PROTECT input as last sampled, true for high (R143) -/
  protect : Bool
  /-- RESET input held low (R175) -/
  resetLow : Bool
  /-- a reset asked for and not yet in effect (R152, R172) -/
  resetPending : Option PendingReset
  /-- supply present (R150) -/
  power : Bool
  /-- the model's own: the newest frame's tests still to be made (log 2) -/
  due : Due
  /-- the model's own: how many free values have been drawn (log 3) -/
  choices : Nat
  /-- the model's own: commands waiting, first in, first out -/
  pending : List Instr
  deriving DecidableEq, Repr

/-- The state right after a power-on reset that finds the factory image in the Settings Store with its
completion mark set (log 1), nothing waiting. -/
def State.reset : State where
  clock := 0
  intake := resetIntake
  dc := ⟨none, none, none⟩
  ring := []
  newest := none
  det := ⟨resetDetector, resetDetector⟩
  chain := resetChain
  table := resetTable
  unit := none
  assoc := resetAssoc
  time := resetTime
  reports := resetReports
  settings := loadImage factoryImage
  revert := []
  store := ⟨factoryImage, true, none, false⟩
  floor := 0
  port := resetPort
  baud := .b115200
  straps := .b115200
  protect := false
  resetLow := false
  resetPending := none
  power := true
  due := {}
  choices := 0
  pending := []

end Sys2Proof.Machine
end

