-- ==== Sys2Proof/Machine/Ops.lean ====
section
/-! DEFINITION. Named readings and updates of the state that every block's rules share. -/

namespace Sys2Proof.Machine

/-- A slot of the Slot Table. -/
def State.slot (s : State) (i : Fin 8) : Slot := s.table.slots[i]

/-- One slot replaced. -/
def State.setSlot (s : State) (i : Fin 8) (x : Slot) : State :=
  { s with table := { s.table with slots := s.table.slots.set i x } }

/-- The whole set of slots rewritten slot by slot. -/
def State.mapSlots (s : State) (f : Fin 8 → Slot → Slot) : State :=
  { s with table := { s.table with slots := mapEight f s.table.slots } }

/-- A detector. -/
def State.detector (s : State) (w : Det) : Detector := s.det.get w

/-- One detector replaced. -/
def State.setDet (s : State) (w : Det) (d : Detector) : State := { s with det := s.det.set w d }

/-- The active profile entry, which the picking chain reads (R137). -/
def State.active (s : State) : Profile := s.settings.profiles[s.settings.active]

/-- The active entry's parameters of one detector. -/
def State.params (s : State) (w : Det) : DetParams := s.active.det.get w

/-- One profile entry replaced. -/
def State.setProfile (s : State) (e : Fin 8) (p : Profile) : State :=
  { s with settings := { s.settings with profiles := s.settings.profiles.set e p } }

/-- One association entry replaced. -/
def State.setEntry (s : State) (i : Fin 8) (x : Entry) : State :=
  { s with assoc := { s.assoc with entries := s.assoc.entries.set i x } }

/-- The pending notice of one key replaced. -/
def State.setNotice (s : State) (k : Fin 8) (x : Option PendingNotice) : State :=
  { s with reports := { s.reports with notices := s.reports.notices.set k x } }

/-- The ATTN line: high while the Report Queue holds a record (R134), and the part has power. -/
def State.attn (s : State) : Bool := s.power && !s.reports.queue.isEmpty

/-- Do two sample numbers agree, when both exist? -/
def isAt (x : Option Sample) (n : Sample) : Bool := x == some n

/-- A free value drawn at an open choice, and the state that has drawn it (log 3). -/
def State.draw (s : State) : Nat × State := (Config.race s.choices, { s with choices := s.choices + 1 })

/-- The numbers of the slots in a given state, in slot order. -/
def State.slotsIn (s : State) (st : SlotState) : List (Fin 8) := eight.filter fun i => (s.slot i).st == st

end Sys2Proof.Machine
end

