-- ==== Sys2Proof/Machine/Flags.lean ====
section
/-! DEFINITION. The flags of a pick (R95): each is raised by its causes, stands once, and is never cleared
during refinement. -/

namespace Sys2Proof.Machine

/-- The flags of two sources together. -/
def Flags.union (a b : Flags) : Flags where
  searchLimit := a.searchLimit || b.searchLimit
  historyShort := a.historyShort || b.historyShort
  truncated := a.truncated || b.truncated
  gap := a.gap || b.gap
  baselineForced := a.baselineForced || b.baselineForced
  polClipped := a.polClipped || b.polClipped
  contextCall := a.contextCall || b.contextCall
  timeStep := a.timeStep || b.timeStep
  blanked := a.blanked || b.blanked
  noEnergy := a.noEnergy || b.noEnergy

/-- Does a flag that forces weight 3 stand (R92)? -/
def Flags.forcesThree (f : Flags) : Bool := f.historyShort || f.gap || f.polClipped || f.baselineForced

/-- A slot with further flags raised. -/
def Slot.raise (x : Slot) (f : Flags) : Slot := { x with flags := x.flags.union f }

/-- The flags as the ten bits 23..14 of the PICK record, SEARCH_LIMIT the highest (R173). -/
def Flags.bits (f : Flags) : Nat :=
  [f.searchLimit, f.historyShort, f.truncated, f.gap, f.baselineForced, f.polClipped, f.contextCall,
    f.timeStep, f.blanked, f.noEnergy].foldl (fun acc b => 2 * acc + b.toNat) 0

end Sys2Proof.Machine
end

