-- ==== Sys2Proof/Machine/Detect.lean ====
section
/-! DEFINITION. Characteristic functions, averages, baseline blocks and the detectors' threshold tests
(chapter 2, and R50 to R53 of chapter 3), as functions of one detector. -/

namespace Sys2Proof.Machine

/-- The CF value of a detector at CF scale s (R21). -/
def cfValue (w : Det) (s : Nat) (d : Trio Int) : Nat :=
  match w with
  | .z => (shr d.z s * shr d.z s).toNat
  | .h => (shr d.n s * shr d.n s + shr d.e s * shr d.e s).toNat

/-- The bound of a detector's STA and LTA under CF scale s (R27). -/
def avgBound (w : Det) (s : Nat) : Nat :=
  match w with
  | .z => 2 ^ (54 - 2 * s)
  | .h => 2 ^ (55 - 2 * s)

/-- The effective LTA (R24). -/
def effLta (p : DetParams) (d : Detector) : Nat := max d.lta (max (256 * p.floor) 1)

/-- The detector's ratio in sixteenths, capped (R24). -/
def ratioOf (p : DetParams) (d : Detector) : Nat := min (16 * d.sta / effLta p d) 65535

/-- The ON condition (R51, R52). -/
def onMet (p : DetParams) (d : Detector) : Bool := decide (p.on * effLta p d ≤ 16 * d.sta)

/-- The OFF condition (R53). -/
def offMet (p : DetParams) (d : Detector) : Bool := decide (16 * d.sta < p.off * effLta p d)

/-- Leaving TRIGGERED, or entering it: owed count 0 and mark clear (R28). -/
def Detector.clearOwed (d : Detector) : Detector := { d with owed := 0, forced := false }

/-- The block sum and count return to 0 (R26). -/
def Detector.endBlock (d : Detector) : Detector := { d with blkSum := 0, blkCount := 0 }

/-- The block's mean (R25). -/
def Detector.mean (d : Detector) : Nat := d.blkSum / d.blkCount

/-- A block applied to the LTA (R27). -/
def Detector.applyBlock (d : Detector) (c : Nat) : Detector :=
  { d with lta := approach d.lta (256 * d.mean) c }

/-- A CF value taken into the STA and the block (R22 steps 2 and 3, R23). -/
def Detector.take (d : Detector) (a e : Nat) : Detector :=
  { d with sta := approach d.sta (256 * e) a, blkSum := d.blkSum + e, blkCount := d.blkCount + 1 }

/-- A frame that is not processed: averages, block sum and count are held, a block end is discarded (R26, R34). -/
def Detector.hold (d : Detector) (last : Bool) : Detector := if last then d.endBlock else d

/-- A detector in QUIET or TRIGGERED goes to BLANKED (R55, R56). -/
def Detector.toBlanked (d : Detector) : Detector :=
  match d.st with
  | .quiet => { d with st := .blanked }
  | .triggered => { d.clearOwed with st := .blanked }
  | _ => d

/-- A detector goes to OFF (R50). -/
def Detector.toOff (d : Detector) : Detector := { d.endBlock.clearOwed with st := .off }

/-- The LEARN set-up (R32). -/
def Detector.toWarming (d : Detector) : Detector :=
  { d.endBlock.clearOwed with st := .warming, sta := 0, lta := 0, learn := 0 }

/-- The entry test (R51). -/
def Detector.enterRun (p : DetParams) (d : Detector) : Detector :=
  { d.clearOwed with st := if onMet p d then .triggered else .quiet }

/-- Settlement of a block that ends while TRIGGERED (R26, R29, R30). -/
def Detector.settleTriggered (d : Detector) (c : Nat) : Detector :=
  if d.forced then (d.applyBlock c).endBlock
  else if d.owed < Config.owedCap then { d.endBlock with owed := d.owed + 1 }
  else { (d.applyBlock c).endBlock with forced := true }

/-- What one detector does with one frame: its new state, the ratio it reports with the effective LTA behind
it, whether the frame is an ON crossing, and whether it forced the baseline. -/
structure DetOut where
  det : Detector
  ratio : Nat
  eff : Nat
  crossed : Bool
  forcedNow : Bool
  deriving DecidableEq, Repr

/-- An outcome without crossing or forced baseline, its ratio formed from the detector as it now stands. -/
def plainOut (p : DetParams) (d : Detector) : DetOut := ⟨d, ratioOf p d, effLta p d, false, false⟩

/-- A QUIET detector processes a frame: R22, then the ON test (R52). -/
def quietStep (p : DetParams) (e : Nat) (last : Bool) (d : Detector) : DetOut :=
  let d := d.take p.sta e
  let d := if last then (d.applyBlock p.lta).endBlock else d
  if onMet p d then ⟨{ d.clearOwed with st := .triggered }, ratioOf p d, effLta p d, true, false⟩
  else plainOut p d

/-- A TRIGGERED detector processes a frame: R22, then the OFF test (R53). -/
def triggeredStep (p : DetParams) (e : Nat) (last : Bool) (d : Detector) : DetOut :=
  let forcedNow := last && !d.forced && !decide (d.owed < Config.owedCap)
  let d := d.take p.sta e
  let d := if last then d.settleTriggered p.lta else d
  let out := plainOut p (if offMet p d then { d.clearOwed with st := .quiet } else d)
  { out with forcedNow := forcedNow }

/-- A WARMING detector processes a frame; a block that ends adds its mean to the learn sum (R33). -/
def warmingStep (p : DetParams) (e : Nat) (last : Bool) (d : Detector) : DetOut :=
  let d := d.take p.sta e
  plainOut p (if last then { d.endBlock with learn := d.learn + d.mean } else d)

/-- What a detector does with a conditioned frame (R22). `paused` says that the Chain Controller holds a
warm-up pause (R34, R58). -/
def detStep (w : Det) (prof : Profile) (paused : Bool) (f : Conditioned) (d : Detector) : DetOut :=
  let p := prof.det.get w
  let last := isBlockEnd prof.blk f.n
  let e := cfValue w prof.cf f.d
  match d.st with
  | .off => plainOut p d
  | .blanked => plainOut p (d.hold last)
  | .warming => if paused || f.recentre then plainOut p (d.hold last) else warmingStep p e last d
  | .quiet => if f.recentre then plainOut p (d.toBlanked.hold last) else quietStep p e last d
  | .triggered => if f.recentre then plainOut p (d.toBlanked.hold last) else triggeredStep p e last d

/-- STA and LTA brought down to the bound of CF scale s (R27). -/
def Detector.bound (w : Det) (s : Nat) (d : Detector) : Detector :=
  { d with sta := min d.sta (avgBound w s), lta := min d.lta (avgBound w s) }

end Sys2Proof.Machine
end

