-- ==== Sys2Proof/Machine/Operands.lean ====
section
/-! DEFINITION. What a request's operands name: the items of a profile entry and of the station record, their
identifiers, ranges and classes, the constraints that bind them, gate fields and snapshot records (9.1, 9.4,
R138, R157, 11.3, R173). -/

namespace Sys2Proof.Machine

/-! ## Profile items (9.1) -/

/-- The value of an item. -/
def Profile.get (p : Profile) : Item → Nat
  | .hp => p.hp
  | .cf => p.cf
  | .blk => p.blk
  | .sta w => (p.det.get w).sta
  | .lta w => (p.det.get w).lta
  | .on w => (p.det.get w).on
  | .off w => (p.det.get w).off
  | .ons w => (p.det.get w).ons
  | .floor w => (p.det.get w).floor
  | .lw => p.lw
  | .lmin => p.lmin
  | .dsep => p.dsep
  | .lb => p.lb
  | .osm => p.osm
  | .pol => p.pol
  | .tail => p.tail
  | .warm => p.warm
  | .vp => p.vp
  | .vs => p.vs
  | .snrA => p.snrA
  | .snrB => p.snrB
  | .snrC => p.snrC
  | .riseA => p.riseA
  | .riseB => p.riseB
  | .smin => p.smin
  | .smax => p.smax
  | .level => p.level

/-- The entry with one item's value replaced. -/
def Profile.put (p : Profile) (i : Item) (v : Nat) : Profile :=
  match i with
  | .hp => { p with hp := v }
  | .cf => { p with cf := v }
  | .blk => { p with blk := v }
  | .sta w => { p with det := p.det.set w { p.det.get w with sta := v } }
  | .lta w => { p with det := p.det.set w { p.det.get w with lta := v } }
  | .on w => { p with det := p.det.set w { p.det.get w with on := v } }
  | .off w => { p with det := p.det.set w { p.det.get w with off := v } }
  | .ons w => { p with det := p.det.set w { p.det.get w with ons := v } }
  | .floor w => { p with det := p.det.set w { p.det.get w with floor := v } }
  | .lw => { p with lw := v }
  | .lmin => { p with lmin := v }
  | .dsep => { p with dsep := v }
  | .lb => { p with lb := v }
  | .osm => { p with osm := v }
  | .pol => { p with pol := v }
  | .tail => { p with tail := v }
  | .warm => { p with warm := v }
  | .vp => { p with vp := v }
  | .vs => { p with vs := v }
  | .snrA => { p with snrA := v }
  | .snrB => { p with snrB := v }
  | .snrC => { p with snrC := v }
  | .riseA => { p with riseA := v }
  | .riseB => { p with riseB := v }
  | .smin => { p with smin := v }
  | .smax => { p with smax := v }
  | .level => { p with level := v }

/-- The 33 items in identifier order: the order of 9.1, Z before H, the entry level last (11.3). -/
def allItems : List Item :=
  [.hp, .cf, .blk, .sta .z, .sta .h, .lta .z, .lta .h, .on .z, .on .h, .off .z, .off .h, .ons .z, .ons .h,
    .floor .z, .floor .h, .lw, .lmin, .dsep, .lb, .osm, .pol, .tail, .warm, .vp, .vs, .snrA, .snrB, .snrC,
    .riseA, .riseB, .smin, .smax, .level]

/-- The item that an identifier names (11.3). -/
def itemOf (id : Nat) : Option Item := allItems[id]?

/-- The identifier of an item (11.3). -/
def Item.id (i : Item) : Nat := allItems.idxOf i

/-- The lower end of an item's range (9.1). -/
def Item.lo : Item → Nat
  | .hp => 4
  | .cf => 0
  | .blk => 2
  | .sta _ => 1
  | .lta _ => 1
  | .on _ => 24
  | .off _ => 16
  | .ons _ => 16
  | .floor _ => 0
  | .lw => 64
  | .lmin => 16
  | .dsep => 8
  | .lb => 16
  | .osm => 0
  | .pol => 3
  | .tail => 0
  | .warm => 16
  | .vp => 1
  | .vs => 0
  | .snrA => 16
  | .snrB => 16
  | .snrC => 16
  | .riseA => 0
  | .riseB => 0
  | .smin => 0
  | .smax => 1
  | .level => 0

/-- The upper end of an item's range (9.1). -/
def Item.hi : Item → Nat
  | .hp => 16
  | .cf => 8
  | .blk => 8
  | .sta _ => 8
  | .lta _ => 10
  | .on _ => 1023
  | .off _ => 1022
  | .ons _ => 1023
  | .floor _ => 16777215
  | .lw => 12272
  | .lmin => 8192
  | .dsep => 8192
  | .lb => 2048
  | .osm => 4
  | .pol => 10
  | .tail => 65535
  | .warm => 4096
  | .vp => 256
  | .vs => 255
  | .snrA => 65535
  | .snrB => 65535
  | .snrC => 65535
  | .riseA => 2048
  | .riseB => 2048
  | .smin => 65534
  | .smax => 65535
  | .level => 3

/-- Does a value lie in an item's range? -/
def Item.inRange (i : Item) (v : Nat) : Bool := decide (i.lo ≤ v) && decide (v ≤ i.hi)

/-- Is an item structural (9.1)? -/
def Item.structural : Item → Bool
  | .hp => true
  | .cf => true
  | .blk => true
  | .sta _ => true
  | .lta _ => true
  | _ => false

/-- Is an item live: any parameter that is not structural; the entry level is no parameter (0.4, 9.1)? -/
def Item.live (i : Item) : Bool := !i.structural && i != .level

/-- The class of an item; the entry level counts as class 0 (9.1, R140). -/
def Item.cls : Item → Nat
  | .hp => 0
  | .cf => 0
  | .blk => 0
  | .sta _ => 0
  | .lta _ => 0
  | .vp => 2
  | .vs => 2
  | .snrA => 2
  | .snrB => 2
  | .snrC => 2
  | .riseA => 2
  | .riseB => 2
  | .smin => 2
  | .smax => 2
  | .level => 0
  | _ => 1

/-- The constraints of one detector's parameters (R138). -/
def DetParams.consistent (p : DetParams) : Bool := decide (p.off < p.on) && decide (p.ons ≤ p.on)

/-- The cross-constraints of an entry (R138). -/
def Profile.consistent (p : Profile) : Bool :=
  p.det.z.consistent && p.det.h.consistent && decide (p.lmin ≤ p.lw) && decide (p.dsep ≤ p.lmin) &&
  decide (p.lb + p.lw ≤ 12288) && decide (2 ^ p.pol ≤ p.lw) && decide (p.vs < p.vp) &&
  decide (p.snrC ≤ p.snrB) && decide (p.snrB ≤ p.snrA) && decide (p.riseA ≤ p.riseB) &&
  decide (p.smin < p.smax)

/-- Does every item lie in its range? -/
def Profile.inRange (p : Profile) : Bool := allItems.all fun i => i.inRange (p.get i)

/-- The 33 values of an entry in identifier order. -/
def Profile.values (p : Profile) : List Nat := allItems.map p.get

/-- An entry written from 33 values in identifier order. -/
def Profile.ofValues (p : Profile) (vs : List Nat) : Profile :=
  (allItems.zip vs).foldl (fun p iv => p.put iv.1 iv.2) p

/-- Do two entries differ in a structural item (R140, R142)? -/
def structuralDiffer (p q : Profile) : Bool := allItems.any fun i => i.structural && p.get i != q.get i

/-- The interval that the entry's other values leave a parameter (R160). -/
def Profile.interval (p : Profile) : Item → Nat × Nat
  | .on w => (max ((p.det.get w).off + 1) (p.det.get w).ons, Item.hi (.on w))
  | .off w => (Item.lo (.off w), (p.det.get w).on - 1)
  | .ons w => (Item.lo (.ons w), (p.det.get w).on)
  | .lw => (max p.lmin (2 ^ p.pol), 12288 - p.lb)
  | .lmin => (p.dsep, p.lw)
  | .dsep => (Item.lo .dsep, p.lmin)
  | .lb => (Item.lo .lb, 12288 - p.lw)
  | .pol => (Item.lo .pol, Nat.log2 p.lw)
  | .vp => (p.vs + 1, Item.hi .vp)
  | .vs => (Item.lo .vs, p.vp - 1)
  | .snrA => (p.snrB, Item.hi .snrA)
  | .snrB => (p.snrC, p.snrA)
  | .snrC => (Item.lo .snrC, p.snrB)
  | .riseA => (Item.lo .riseA, p.riseB)
  | .riseB => (p.riseA, Item.hi .riseB)
  | .smin => (Item.lo .smin, p.smax - 1)
  | .smax => (p.smin + 1, Item.hi .smax)
  | i => (i.lo, i.hi)

/-- A value brought to the nearer end of an interval if it lies outside. -/
def clampTo (lo hi : Int) (v : Int) : Int := if v < lo then lo else if hi < v then hi else v

/-- The two clamping steps of R160: the gate's bounds, then the interval of the entry's other values. -/
def clampValue (g : Gate) (p : Profile) (i : Item) (v : Int) : Nat :=
  (clampTo (p.interval i).1 (p.interval i).2 (clampTo g.low g.high v)).toNat

/-! ## Station record items (9.4) -/

/-- The code of a link position (11.3). -/
def LinkPos.code : LinkPos → Nat
  | .a => 0
  | .b => 1
  | .c => 2

/-- The link position of a code. -/
def posOf (x : Nat) : Option LinkPos :=
  match x with
  | 0 => some .a
  | 1 => some .b
  | 2 => some .c
  | _ => none

/-- The map's value: the position of Z, plus 4 times that of N, plus 16 times that of E (11.3). -/
def mapCode (m : Trio LinkPos) : Nat := m.z.code + 4 * m.n.code + 16 * m.e.code

/-- The map that a value spells, if each of its positions is A, B or C. -/
def mapOf (v : Nat) : Option (Trio LinkPos) :=
  if v < 64 then
    match posOf (v % 4), posOf (v / 4 % 4), posOf (v / 16) with
    | some z, some n, some e => some ⟨z, n, e⟩
    | _, _, _ => none
  else none

/-- Does the map assign each component to one position and each position once (R12, R147)? -/
def mapOneToOne (m : Trio LinkPos) : Bool := m.z != m.n && m.z != m.e && m.n != m.e

/-- The five station rates (9.4). -/
def rates : List Nat := [50, 100, 200, 250, 500]

/-- The 16 values of the station record in identifier order (9.4, 11.3). -/
def Station.values (st : Station) : List Nat :=
  [st.rate, mapCode st.map, st.inverted.z.toNat, st.inverted.n.toNat, st.inverted.e.toNat,
    st.trim.z, st.trim.n, st.trim.e, st.clip.z, st.clip.n, st.clip.e, st.gd, st.gap, st.autostart.toNat,
    st.dflt.val, st.strict.toNat]

/-- Does a value lie in the range of station item `id` (9.4)? False for an unknown identifier. -/
def stationInRange (id v : Nat) : Bool :=
  match id with
  | 0 => rates.contains v
  | 1 => (mapOf v).isSome
  | 2 => decide (v ≤ 1)
  | 3 => decide (v ≤ 1)
  | 4 => decide (v ≤ 1)
  | 5 => decide (16384 ≤ v) && decide (v ≤ 49152)
  | 6 => decide (16384 ≤ v) && decide (v ≤ 49152)
  | 7 => decide (16384 ≤ v) && decide (v ≤ 49152)
  | 8 => decide (1 ≤ v) && decide (v ≤ 8388607)
  | 9 => decide (1 ≤ v) && decide (v ≤ 8388607)
  | 10 => decide (1 ≤ v) && decide (v ≤ 8388607)
  | 11 => decide (v ≤ 65535)
  | 12 => decide (v ≤ 16)
  | 13 => decide (v ≤ 1)
  | 14 => decide (v ≤ 7)
  | 15 => decide (v ≤ 1)
  | _ => false

/-- The station record with item `id` written. -/
def Station.put (st : Station) (id v : Nat) : Station :=
  match id with
  | 0 => { st with rate := v }
  | 1 => { st with map := (mapOf v).getD st.map }
  | 2 => { st with inverted := { st.inverted with z := v == 1 } }
  | 3 => { st with inverted := { st.inverted with n := v == 1 } }
  | 4 => { st with inverted := { st.inverted with e := v == 1 } }
  | 5 => { st with trim := { st.trim with z := v } }
  | 6 => { st with trim := { st.trim with n := v } }
  | 7 => { st with trim := { st.trim with e := v } }
  | 8 => { st with clip := { st.clip with z := v } }
  | 9 => { st with clip := { st.clip with n := v } }
  | 10 => { st with clip := { st.clip with e := v } }
  | 11 => { st with gd := v }
  | 12 => { st with gap := v }
  | 13 => { st with autostart := v == 1 }
  | 14 => { st with dflt := (toFin8 v).getD st.dflt }
  | 15 => { st with strict := v == 1 }
  | _ => st

/-- The station record written item by item. -/
def Station.putAll (st : Station) (ivs : List (Nat × Nat)) : Station :=
  ivs.foldl (fun st iv => st.put iv.1 iv.2) st

/-- Values of 4 bytes each from offset `off` on. -/
def fields4 (body : List Byte) (off count : Nat) : List Nat :=
  (List.range count).map fun i => field body (off + 4 * i) 4

/-! ## Gate fields (R157, 11.3) -/

/-- The gate fields that a GATE WRITE body carries after the gate number. -/
def gateOf (body : List Byte) : Gate where
  valid := field body 1 1 == 1
  level := field body 2 1
  setLevel := field body 3 1
  target := field body 4 1
  param := field body 5 1
  low := field body 6 4
  high := field body 10 4
  dur := field body 14 3

/-- A gate's fields laid out as the GATE WRITE body (R174). -/
def gateBytes (k : Nat) (g : Gate) : List Byte :=
  be 1 k ++ be 1 g.valid.toNat ++ be 1 g.level ++ be 1 g.setLevel ++ be 1 g.target ++ be 1 g.param ++
    be 4 g.low ++ be 4 g.high ++ be 3 g.dur

/-- The range check of a valid gate (R158 check 4). -/
def Gate.inRange (g : Gate) : Bool :=
  decide (g.level ≤ 3) && decide (g.setLevel ≤ 3) && decide (g.target ≤ 8) && decide (1 ≤ g.dur) &&
  decide (g.dur ≤ Config.trialMax) &&
  match itemOf g.param with
  | some i => i.inRange g.low && i.inRange g.high
  | none => false

/-- The consistency check of a valid gate (R158 check 5). -/
def Gate.consistent (g : Gate) : Bool :=
  ((itemOf g.param).map Item.live).getD false && decide (g.setLevel ≤ g.level) && decide (g.low ≤ g.high)

/-! ## Snapshot records (2.6, R40, R173) -/

/-- The 16-byte field of snapshot record k. -/
def Snapshot.bytes (sn : Snapshot) (k : Nat) : List Byte :=
  let h := sn.header
  match k with
  | 1 => be 2 h.rate ++ be 1 (mapCode h.map) ++ be 1 h.hp ++ be 1 h.cf ++ be 1 h.blk ++ be 1 h.sta.z ++
      be 1 h.sta.h ++ be 1 h.lta.z ++ be 1 h.lta.h ++ be 6 0
  | 2 => beInt 4 sn.mean.z ++ be 12 0
  | 3 => beInt 4 sn.mean.n ++ be 12 0
  | 4 => beInt 4 sn.mean.e ++ be 12 0
  | 5 => be 8 sn.avg.z.sta ++ be 8 sn.avg.z.lta
  | 6 => be 8 sn.avg.h.sta ++ be 8 sn.avg.h.lta
  | 7 => be 1 sn.count ++ be 4 sn.sample.toNat ++ be 11 0
  | _ => be 16 0

/-- The header that record 1's field carries; its map is the one given. -/
def headerOf (r : List Byte) (map : Trio LinkPos) : Header :=
  ⟨field r 0 2, map, field r 3 1, field r 4 1, field r 5 1, ⟨field r 6 1, field r 7 1⟩,
    ⟨field r 8 1, field r 9 1⟩⟩

/-- Are a header's values legal (R40)? R40 asks of the map that it assign Z, N and E each to one link position; that two
components on one position fail this check too is the model's reading (DESIGN CHOICE, log 27). -/
def Header.legal (h : Header) : Bool :=
  rates.contains h.rate && mapOneToOne h.map && Item.inRange .hp h.hp && Item.inRange .cf h.cf &&
  Item.inRange .blk h.blk && Item.inRange (.sta .z) h.sta.z && Item.inRange (.sta .h) h.sta.h &&
  Item.inRange (.lta .z) h.lta.z && Item.inRange (.lta .h) h.lta.h

/-- Is a DC mean in the 24-bit range? -/
def meanLegal (m : Int) : Bool := decide (-8388608 ≤ m) && decide (m ≤ 8388607)

end Sys2Proof.Machine
end

