-- ==== Sys2Proof/Machine/Reports.lean ====
section
/-! DEFINITION. Arrival association (chapter 6), the Report Queue's arbiter and the Notice Set (chapter 8).
The arbiter's attempts are made in the event that brings them about (R128, R131). -/

namespace Sys2Proof.Machine

/-! ## Association (chapter 6) -/

/-- Is an entry a candidate for an S at onset q (R103)? -/
def Entry.candidate (e : Entry) (q : Sample) : Bool :=
  e.opened && decide ((e.smin : Int) ≤ distance e.pOnset q) && decide (distance e.pOnset q ≤ e.smax)

/-- Is entry f to be chosen before entry e for an S at onset q: the later P onset, then the more recent
creation order (R103)? -/
def Entry.preferred (q : Sample) (e f : Entry) : Bool :=
  decide (distance f.pOnset q < distance e.pOnset q) ||
    (distance f.pOnset q == distance e.pOnset q && decide (0 < distance e.created f.created))

/-- The best of the listed entries under a preference, or none: the one preferred to every other where there is one. The
scan keeps the best so far, so where none is preferred to every other the list's order decides (log 30). -/
def bestOf (s : State) (prefer : Entry → Entry → Bool) (is : List (Fin 8)) : Option (Fin 8) :=
  is.foldl (fun best i =>
    match best with
    | none => some i
    | some j => if prefer s.assoc.entries[j] s.assoc.entries[i] then some i else some j) none

/-- The entry that an S at onset q completes (R103). -/
def State.candidate (s : State) (q : Sample) : Option (Fin 8) :=
  bestOf s (Entry.preferred q) (eight.filter fun i => s.assoc.entries[i].candidate q)

/-- Does a pick seek a match: an S, or an UNKNOWN of class H (R100)? -/
def PickRecord.seeks (p : PickRecord) : Bool :=
  p.call == .s || (p.call == .unknown && p.cls == .h)

/-- The entry that a pick would complete (R107). -/
def State.completes (s : State) (p : PickRecord) : Option (Fin 8) :=
  if p.seeks then s.candidate p.onset else none

/-- Is entry f to be evicted before entry e: the older P onset, then the older creation order (R102)? -/
def Entry.older (e f : Entry) : Bool :=
  decide (0 < distance f.pOnset e.pOnset) ||
    (f.pOnset == e.pOnset && decide (0 < distance f.created e.created))

/-- The entry that a new P takes: the lowest-numbered FREE one (R101), else the evicted one (R102).
P onsets of three numberings can lie each older than the next in a ring, and two can lie exactly 2^31 apart; R102 and 0.5.2
then name no oldest, and the scan in entry order decides (DESIGN CHOICE, log 30). -/
def State.entryForP (s : State) : Fin 8 :=
  match eight.find? fun i => !s.assoc.entries[i].opened with
  | some i => i
  | none => (bestOf s Entry.older eight).getD 0

/-- Creates the association entry of a pick called P (R99, R101). -/
def createEntry (p : PickRecord) (seq : BitVec 32) (smin smax : Nat) (s : State) : State :=
  let e : Entry := ⟨true, s.reports.groupId, seq, p.onset, p.secs, p.us, smin, smax, s.assoc.created⟩
  let s := s.setEntry s.entryForP e
  { s with
    assoc := { s.assoc with created := s.assoc.created + 1 }
    reports := { s.reports with groupId := s.reports.groupId + 1 } }

/-- The group record of a completed group (R105). -/
def groupRecord (e : Entry) (p : PickRecord) (seq : BitVec 32) (role : Role) : GroupRecord where
  group := e.group
  pSeq := e.pSeq
  sSeq := seq
  role := role
  samples := (distance e.pOnset p.onset).toNat
  us := ((p.secs : Int) - e.pSecs) * 1000000 + ((p.us : Int) - e.pUs)

/-- Frees one association entry. -/
def freeEntryAt (j : Fin 8) (s : State) : State := s.setEntry j freeEntry

/-- Appends records to the tail of the Report Queue (R126). -/
def enqueue (rs : List Record) (s : State) : State :=
  { s with reports := { s.reports with queue := s.reports.queue ++ rs } }

/-- The association of a pick that has just received its sequence number, and its entry into the queue, its
group record directly behind it (R100, R104, R108, R129). -/
def associate (p : PickRecord) (seq : BitVec 32) (smin smax : Nat) (s : State) : State :=
  let p := { p with seq := some seq }
  if p.call = .p then
    enqueue [.pick { p with role := .p, group := some s.reports.groupId }] (createEntry p seq smin smax s)
  else
    match s.completes p with
    | some j =>
      let e := s.assoc.entries[j]
      let role : Role := if p.call = .s then .sMeasured else .sInferred
      enqueue [.pick { p with role := role, group := some e.group }, .group (groupRecord e p seq role)]
        (freeEntryAt j s)
    | none => enqueue [.pick { p with role := .none, group := none }] s

/-! ## The arbiter (8.1, 8.2) -/

/-- Is item f older than item e, by the dates they carry (R127)? -/
def olderDate (e f : BitVec 32) : Bool := decide (0 < distance f e)

/-- The waiting items with their dates: DONE slots and pending notices (R127). -/
def State.waitingItems (s : State) : List (BitVec 32 × Waiting) :=
  (eight.filterMap fun i =>
    if (s.slot i).st = .done then (s.slot i).order.map fun d => (d, .pick i) else none) ++
  (eight.filterMap fun k => s.reports.notices[k].map fun p => (p.date, .notice k))

/-- The oldest waiting item (R127). -/
def State.oldestWaiting (s : State) : Option Waiting :=
  (s.waitingItems.foldl (fun best x =>
    match best with
    | none => some x
    | some y => if olderDate y.1 x.1 then some x else some y) none).map (·.2)

/-- How many places a waiting item needs (R128). -/
def State.placesFor (s : State) : Waiting → Nat
  | .pick i =>
    match (s.slot i).record with
    | some p => if (s.completes p).isSome then 2 else 1
    | none => 1
  | .notice _ => 1

/-- Free places of the Report Queue. -/
def State.places (s : State) : Nat := Config.queueCap - s.reports.queue.length

/-- Admits the pick of a DONE slot (R129). -/
def admitPick (i : Fin 8) (s : State) : State :=
  let x := s.slot i
  match x.record with
  | none => s
  | some p =>
    let seq := s.reports.pickSeq
    let s := { s with reports := { s.reports with pickSeq := seq + 1, blocked := false } }
    (associate p seq x.params.smin x.params.smax s).setSlot i freeSlot

/-- Admits a pending notice and clears its key (R130). -/
def admitNotice (k : Fin 8) (s : State) : State :=
  match s.reports.notices[k] with
  | none => s
  | some p =>
    let s := { s with reports := { s.reports with blocked := false } }
    enqueue [.notice ⟨p.count, p.first, p.data⟩] (s.setNotice k none)

/-- Admits a waiting item. -/
def admitItem (w : Waiting) (s : State) : State :=
  match w with
  | .pick i => admitPick i s
  | .notice k => admitNotice k s

/-- An attempt that finds too few places: nothing is admitted; the blocked indication is set for a completing
pick with one place free (R128, R135). -/
def blockedAttempt (w : Waiting) (s : State) : State :=
  if s.placesFor w = 2 ∧ s.places = 1 then { s with reports := { s.reports with blocked := true } } else s

/-- Admission attempts, one after each admission, until nothing waits or the oldest item does not fit (R128).
At most 16 items wait: 8 slots and 8 notices. -/
def attempts : Nat → State → State
  | 0, s => s
  | fuel + 1, s =>
    match s.oldestWaiting with
    | none => s
    | some w => if s.placesFor w ≤ s.places then attempts fuel (admitItem w s) else blockedAttempt w s

/-- The admission attempts of one event (R128). -/
def admitAll (s : State) : State := attempts 16 s

/-! ## The Notice Set (8.3) -/

/-- The code of a notice's key (R173). -/
def NoticeData.key : NoticeData → Fin 8
  | .linkDown _ => 0
  | .longGap _ _ => 1
  | .warmupDone _ => 2
  | .baselineForced .z _ => 3
  | .baselineForced .h _ => 4
  | .timeState _ _ => 5
  | .storeDefaulted _ => 6
  | .trialExpired _ _ _ => 7

/-- The next value of the waiting count taken as a date (R127). -/
def State.takeDate (s : State) : State :=
  { s with reports := { s.reports with waiting := s.reports.waiting + 1 } }

/-- A notice enters the Notice Set: it becomes pending with a date, or it coalesces into the pending notice of its
key (R131). -/
def post (d : NoticeData) (s : State) : State :=
  match s.reports.notices[d.key] with
  | none => (s.setNotice d.key (some ⟨s.reports.waiting, s.newest, 1, d⟩)).takeDate
  | some p => s.setNotice d.key (some { p with count := sat8 (p.count + 1), data := d })

/-- A block raises a notice: one that becomes pending is followed by an admission attempt, one that coalesces is not
(R131). -/
def raise (d : NoticeData) (s : State) : State :=
  match s.reports.notices[d.key] with
  | none => admitAll (post d s)
  | some _ => post d s

/-! ## Expiry of association entries (6.4) -/

/-- The limit of an entry: its P onset plus its smax plus 2,048 (R109). -/
def Entry.limit (e : Entry) : Sample := after e.pOnset (e.smax + Config.entryMargin)

/-- Does a slot in progress hold an entry with limit x (R109)? -/
def State.holdsLimit (s : State) (x : Sample) : Bool :=
  eight.any fun i => (s.slot i).st != .free && decide (distance x (s.slot i).trigger ≤ 0)

/-- Does an OPEN entry expire at newest sample n (R109)? -/
def State.expires (s : State) (n : Sample) (e : Entry) : Bool :=
  e.opened && decide (0 < distance e.limit n) && !s.holdsLimit e.limit

/-- Expiry of entries at newest sample n (R109). -/
def expireEntries (n : Sample) (s : State) : State :=
  { s with assoc := { s.assoc with
    entries := mapEight (fun _ e => if s.expires n e then freeEntry else e) s.assoc.entries } }

/-- Entries whose P onset is newer than the newest sample n are freed (R110). -/
def freeRenumbered (n : Sample) (s : State) : State :=
  { s with assoc := { s.assoc with
    entries := mapEight (fun _ e => if e.opened && decide (0 < distance n e.pOnset) then freeEntry else e)
      s.assoc.entries } }

/-- The Association Table's expiry tests of a frame whose newest sample is n, made once (R109). -/
def entryTests (n : Sample) (s : State) : State :=
  if s.due.entries then expireEntries n { s with due := { s.due with entries := false } } else s

/-! ## Meanings. While the blocked indication stands, the attempts have stopped until COLLECT or the next item that
begins to wait (R128), so the two admissions then change nothing. -/

/-- Does the part have power, and have the attempts not stopped at a blocked pick (R128)? -/
def State.attempting (s : State) : Bool := s.power && !s.reports.blocked

/-- PICK_ADMISSION (R129): the arbiter's attempt, taken when the oldest waiting item is a pick. -/
def execPickAdmission (s : State) : Host.Outcome State Fault Refusal :=
  .next <|
    if s.attempting then
      match s.oldestWaiting with
      | some (.pick i) =>
        if s.placesFor (.pick i) ≤ s.places then admitPick i s else blockedAttempt (.pick i) s
      | _ => s
    else s

/-- NOTICE_ADMISSION (R130): the arbiter's attempt, taken when the oldest waiting item is a notice. -/
def execNoticeAdmission (s : State) : Host.Outcome State Fault Refusal :=
  .next <|
    if s.attempting then
      match s.oldestWaiting with
      | some (.notice k) =>
        if s.placesFor (.notice k) ≤ s.places then admitNotice k s else blockedAttempt (.notice k) s
      | _ => s
    else s

/-- ENTRY_EXPIRY (R109), at the newest sample, where the frame's tests are still due: no entry expires without a
frame (log 2). -/
def execEntryExpiry (s : State) : Host.Outcome State Fault Refusal :=
  .next <|
    match s.power, s.newest with
    | true, some n => entryTests n s
    | _, _ => s

end Sys2Proof.Machine
end

