-- ==== Sys2Proof/Machine/Layout.lean ====
section
/-! DEFINITION. The byte layouts of records and reply data (R173, R174). -/

namespace Sys2Proof.Machine

/-! ## Codes (R169, R173, R174) -/

/-- The code of a reply status (R169). -/
def Status.code : Status → Nat
  | .done => 0x00
  | .busy => 0x01
  | .level => 0x02
  | .locked => 0x03
  | .needsHold => 0x04
  | .needsRun => 0x05
  | .state => 0x06
  | .range => 0x07
  | .conflict => 0x08
  | .empty => 0x09
  | .full => 0x0A
  | .notFound => 0x0B
  | .mismatch => 0x0C
  | .late => 0x0D
  | .noSnapshot => 0x0E
  | .unknownKind => 0x0F
  | .badLength => 0x10

/-- Chain state codes. -/
def ChainState.code : ChainState → Nat
  | .hold => 0
  | .warmup => 1
  | .run => 2
  | .resync => 3

/-- Detector state codes. -/
def DetState.code : DetState → Nat
  | .off => 0
  | .warming => 1
  | .quiet => 2
  | .triggered => 3
  | .blanked => 4

/-- Slot state codes. -/
def SlotState.code : SlotState → Nat
  | .free => 0
  | .opened => 1
  | .closed => 2
  | .refining => 3
  | .done => 4

/-- Slot class codes. -/
def SlotClass.code : SlotClass → Nat
  | .z => 0
  | .h => 1
  | .forced => 2

/-- Time state codes. -/
def TimeState.code : TimeState → Nat
  | .neverSet => 0
  | .locked => 1
  | .holdover => 2
  | .unlocked => 3

/-- Phase call codes. -/
def Phase.code : Phase → Nat
  | .p => 0
  | .s => 1
  | .unknown => 2

/-- Basis codes. -/
def Basis.code : Basis → Nat
  | .polar => 0
  | .context => 1
  | .none => 2

/-- Role codes. -/
def Role.code : Role → Nat
  | .none => 0
  | .p => 1
  | .sMeasured => 2
  | .sInferred => 3

/-- Codes of the snapshot output state. -/
def ExportState.code : ExportState → Nat
  | .empty => 0
  | .pending => 1
  | .ready => 2

/-- Codes of the snapshot import state. -/
def ImportState.code : ImportState → Nat
  | .idle => 0
  | .importing k => k
  | .valid => 7
  | .invalid => 8

/-- Reset kind codes. -/
def ResetKind.code : ResetKind → Nat
  | .powerOn => 0
  | .line => 1
  | .request => 2

/-- Lock state codes of the states that have no underlying state. -/
def BaseLock.code : BaseLock → Nat
  | .opened => 0
  | .line => 1
  | .fixed => 3

/-- Lock state code. -/
def Lock.code : Lock → Nat
  | .base b => b.code
  | .power _ => 2

/-- The underlying state of a lock: for POWER its own, otherwise the lock state again (R174). -/
def Lock.under : Lock → BaseLock
  | .base b => b
  | .power b => b

/-- Lock state and underlying state, 1 byte each (R174). -/
def Lock.bytes (l : Lock) : List Byte := be 1 l.code ++ be 1 l.under.code

/-- Eight flag bits as a number, bit 0 first. -/
def bitsOf (bs : List Bool) : Nat := bs.foldr (fun b acc => b.toNat + 2 * acc) 0

/-! ## Records (R173) -/

/-- The six sums in order. -/
def Sums.toList (c : Sums) : List Int := [c.zz, c.nn, c.ee, c.zn, c.ze, c.ne]

/-- Do the sums, shifted by k, all lie in −512..511 (R173)? -/
def Sums.fits (c : Sums) (k : Nat) : Bool :=
  c.toList.all fun x => decide (-512 ≤ shr x k) && decide (shr x k ≤ 511)

/-- The common shift of the sums: the least k in 0..48 that fits (R173). -/
def Sums.shift (c : Sums) : Nat := ((List.range 49).find? c.fits).getD 48

/-- The nine bytes of the sums (R173). -/
def Sums.bytes (c : Sums) : List Byte :=
  let k := c.shift
  be 9 (c.toList.foldl (fun acc x => acc * 1024 + (shr x k % 1024).toNat) k * 64)

/-- A peak's magnitude and offset. -/
def Peak.bytes (p : Peak) : List Byte := be 3 p.mag ++ be 2 p.offset

/-- The PICK record (R173). -/
def PickRecord.bytes (p : PickRecord) : List Byte :=
  be 1 (64 + 32 * p.share.isSome.toNat + 16 * p.sums.isSome.toNat + 8 * p.peaks.isSome.toNat + 2 * p.weight) ++
  be 1 (64 * p.cls.code + 16 * p.call.code + 4 * p.basis.code + p.role.code) ++
  be 1 (32 * p.profile.val + 8 * p.timeSt.code + 4 * (p.share.getD 0 / 256)) ++
  be 4 (p.seq.getD 0).toNat ++ be 4 p.trigger.toNat ++ be 5 p.secs ++ be 3 p.us ++ be 2 p.missed ++
  be 3 (p.flags.bits * 16384 + p.rise) ++ be 2 p.snr ++ be 2 p.clips ++ be 2 p.fills ++ be 1 p.retrig ++
  be 2 p.lost ++ be 1 (p.group.getD 0).toNat ++
  (match p.share with | some v => be 1 v | none => []) ++
  (match p.sums with | some c => c.bytes | none => []) ++
  (match p.peaks with | some t => t.z.bytes ++ t.n.bytes ++ t.e.bytes | none => [])

/-- The GROUP record (R173). -/
def GroupRecord.bytes (g : GroupRecord) : List Byte :=
  be 1 (128 + 16 * g.role.code) ++ be 1 g.group.toNat ++ be 4 g.pSeq.toNat ++ be 4 g.sSeq.toNat ++
    be 2 g.samples ++ beInt 8 g.us

/-- A notice's data, 8 bytes, left-aligned (R173). -/
def NoticeData.bytes : NoticeData → List Byte
  | .linkDown n => be 4 n.toNat ++ be 4 0
  | .longGap e a => be 4 e.toNat ++ be 4 a.toNat
  | .warmupDone n => be 4 n.toNat ++ be 4 0
  | .baselineForced _ n => be 4 n.toNat ++ be 4 0
  | .timeState st m => be 1 st.code ++ be 2 m ++ be 5 0
  | .storeDefaulted k => be 1 k.code ++ be 7 0
  | .trialExpired e i v => be 1 e.val ++ be 1 i.id ++ be 4 v ++ be 2 0

/-- The NOTICE record (R173). -/
def NoticeRecord.bytes (n : NoticeRecord) : List Byte :=
  be 1 (192 + 32 * n.first.isSome.toNat) ++ be 1 n.data.key.val ++ be 1 n.count ++
    be 4 (n.first.getD 0).toNat ++ n.data.bytes

/-- A record of the Report Queue on the wire (R173). -/
def Record.bytes : Record → List Byte
  | .pick p => p.bytes
  | .group g => g.bytes
  | .notice n => n.bytes

/-! ## Reply data (R174) -/

/-- One slot of the STATUS reply: fields that do not apply are 0 (R78, R174). -/
def Slot.statusBytes (x : Slot) : List Byte :=
  let used := x.st != .free
  let opened := x.st == .opened
  be 1 x.st.code ++ be 1 (if used then x.cls.code else 0) ++ be 4 (if used then x.trigger.toNat else 0) ++
    be 4 (if opened then x.close.toNat else 0) ++ be 2 (if opened then x.peak else 0)

/-- A detector's state and current ratio (R24, R174). -/
def detectorBytes (p : DetParams) (d : Detector) : List Byte := be 1 d.st.code ++ be 2 (ratioOf p d)

/-- The refinement queue of the STATUS reply (R174). -/
def queueBytes (q : List (Fin 8)) : List Byte :=
  be 1 q.length ++ ((q.map fun i => BitVec.ofNat 8 i.val) ++ be 8 0).take 8

/-- The pending notice keys as bits (R174). -/
def pendingKeys (s : State) : Nat := bitsOf (eight.map fun k => s.reports.notices[k].isSome)

/-- The STATUS reply data, 150 bytes (R170, R174). -/
def statusBytes (s : State) : List Byte :=
  be 1 s.chain.st.code ++ detectorBytes (s.params .z) s.det.z ++ detectorBytes (s.params .h) s.det.h ++
  eight.flatMap (fun i => (s.slot i).statusBytes) ++
  queueBytes s.table.queue ++ be 1 ((s.unit.map (·.slot.val)).getD 255) ++
  be 1 s.reports.queue.length ++ be 1 (s.slotsIn .done).length ++ be 1 (pendingKeys s) ++
  be 1 (bitsOf [s.reports.blocked]) ++
  be 1 s.time.st.code ++ be 1 (bitsOf [s.time.lastLabel.isSome]) ++ be 5 (s.time.lastLabel.getD 0) ++
  be 2 s.time.missed ++
  be 1 (bitsOf [s.store.writing.isSome, s.store.defaulted]) ++
  be 1 (bitsOf [s.intake.link == .up, s.newest.isSome]) ++ be 4 (s.newest.getD 0).toNat ++
  be 1 s.floor ++ be 1 s.revert.length ++ be 1 s.chain.expSt.code ++ be 1 s.chain.impSt.code ++
  be 2 s.table.lost.z ++ be 2 s.table.lost.h ++ be 2 s.intake.stale ++ be 2 s.intake.bad ++
  be 2 s.intake.filled ++ be 2 s.intake.gaps ++ be 2 s.port.discarded

/-- The PROFILE READ reply data, 136 bytes (R139, R174). -/
def profileBytes (s : State) (e : Fin 8) : List Byte :=
  be 1 e.val ++ be 1 (decide (s.settings.active = e)).toNat ++ s.settings.profileLock[e].bytes ++
    s.settings.profiles[e].values.flatMap (be 4)

/-- The STATION READ reply data, 66 bytes (R146, R174). -/
def stationBytes (s : State) : List Byte :=
  s.settings.stationLock.bytes ++ s.settings.station.values.flatMap (be 4)

/-- The GATE READ reply data, 19 bytes (R157, R174). -/
def gateReadBytes (s : State) (k : Fin 16) : List Byte :=
  gateBytes k.val s.settings.gates[k] ++ s.settings.gateLock.bytes

/-- The bytes of a reply frame (R166, R169). -/
def Reply.frame (r : Reply) : List Byte :=
  let body := be 1 r.status.code ++ be 1 r.clamped.toNat ++ r.data
  let mid := be 1 body.length ++ be 1 r.level ++ [r.kind, r.tag] ++ body
  [0xC3, 0x3C] ++ mid ++ be 2 (crc16 mid)

end Sys2Proof.Machine
end

