-- ==== Sys2Proof/Machine/Access.lean ====
section
/-! DEFINITION. How a request is taken: the Access Check, the levels, the locks and the reply (R143, R153,
R156, R168, R169). -/

namespace Sys2Proof.Machine

/-- What the block that owns the state answers: status, CLAMPED and reply data (R169). -/
structure Answer where
  status : Status
  clamped : Bool := false
  data : List Byte := []
  deriving DecidableEq, Repr

/-- A refusal: a status without data. -/
def refuse (st : Status) : Answer := { status := st }

/-- DONE without data. -/
def done : Answer := { status := .done }

/-- DONE with reply data. -/
def doneWith (data : List Byte) : Answer := { status := .done, data := data }

/-- The effective level (R153). -/
def effLevel (s : State) (r : Req) : Nat := max r.level.toNat s.floor

/-- What a request's owner makes of an effective level and a state. -/
abbrev Action := Nat → State → State × Answer

/-- An action behind a fixed required level, which is checked first (R156). -/
def needLevel (n : Nat) (act : Action) : Action := fun eff s =>
  if eff ≤ n then act eff s else (s, refuse .level)

/-- The checks of R169 before the request's own: originator level, then body length. -/
def dispatch (r : Req) (lens : List Nat) (body : List Byte) (act : Action) (s : State) : State × Answer :=
  if 3 < r.level.toNat then (s, refuse .level)
  else if !lens.contains body.length then (s, refuse .badLength)
  else act (effLevel s r) s

/-- The reply of a request (R169): tag and effective level in every case. The kind field is the request's kind plus 0x80
in one byte; for a kind of 0x80 or more, which only an UNKNOWN_KIND reply can carry, the sum does not fit and is taken
modulo 256 (DESIGN CHOICE, log 25). -/
def replyOf (s : State) (r : Req) (kind : Byte) (a : Answer) : Reply :=
  ⟨effLevel s r, kind + 0x80, r.tag, a.status, a.clamped, a.data⟩

/-- A control frame is discarded and counted (R167). -/
def countDiscard (s : State) : State :=
  { s with port := { s.port with discarded := sat16 (s.port.discarded + 1) } }

/-- PROTECT as sampled at a request (R143). -/
def State.sampled (s : State) (protect : Bool) : State := { s with protect := protect }

/-- A reply is in progress (R168). -/
def State.replying (s : State) (rep : Reply) : State := { s with port := { s.port with busy := some rep } }

/-- A complete, correct request frame reaches the port: discarded and counted while a request is in progress,
otherwise taken as one event with PROTECT as sampled, its reply then in progress (R143, R167, R168, R169). -/
def request (kind : Byte) (r : Req) (lens : List Nat) (body : List Byte) (act : Action) (s : State) : State :=
  if s.power then
    match s.port.busy with
    | some _ => countDiscard s
    | none =>
      let out := dispatch r lens body act (s.sampled r.protect)
      out.1.replying (replyOf s r kind out.2)
  else s

/-- Does a lock allow a write (R143)? -/
def lockAllows (l : Lock) (eff : Nat) (protect strict : Bool) : Bool :=
  match l with
  | .base .opened => true
  | .base .line => protect || (eff == 0 && !strict)
  | _ => false

/-- The lock check of a request, with PROTECT and STRICT as they stand (R143). -/
def State.mayWrite (s : State) (l : Lock) (eff : Nat) : Bool :=
  lockAllows l eff s.protect s.settings.station.strict

end Sys2Proof.Machine
end

