-- ==== Sys2Proof/Machine/Slots.lean ====
section
/-! DEFINITION. The Slot Table (chapter 4), the crossing decision (3.5), and the History Ring's pins
(R18, R19). -/

namespace Sys2Proof.Machine

/-! ## Opening (4.2, 4.6) -/

/-- The parameters copied at an opening, with θons of detector w (R62). -/
def copyParams (p : Profile) (w : Det) : SlotParams where
  lw := p.lw
  lmin := p.lmin
  dsep := p.dsep
  lb := p.lb
  osm := p.osm
  pol := p.pol
  ons := (p.det.get w).ons
  vp := p.vp
  vs := p.vs
  snrA := p.snrA
  snrB := p.snrB
  snrC := p.snrC
  riseA := p.riseA
  riseB := p.riseB
  smin := p.smin
  smax := p.smax

/-- The slot class of a detector. -/
def classOf : Det → SlotClass
  | .z => .z
  | .h => .h

/-- The detector that a slot of a class belongs to (R63). -/
def SlotClass.owner : SlotClass → Det
  | .z => .z
  | .h => .h
  | .forced => .z

/-- A freshly opened slot (R62, R76). -/
def openSlot (s : State) (cls : SlotClass) (t : Sample) (lta ratio lost : Nat) (forced : Bool) : Slot where
  st := .opened
  cls := cls
  trigger := t
  close := after t (s.active.lw - 1)
  ltaTrig := lta
  peak := ratio
  retrig := 0
  lost := lost
  profile := s.settings.active
  params := copyParams s.active cls.owner
  flags := { baselineForced := forced }
  pin := none
  order := none
  record := none

/-- The lowest-numbered FREE slot. -/
def State.freeSlot? (s : State) : Option (Fin 8) := eight.find? fun i => (s.slot i).st == .free

/-! ## The refinement queue (4.4) -/

/-- The onset result of a FORCED slot, whose search is not made (R82); none for the other classes. -/
def forcedOnset (x : Slot) : Option OnsetResult :=
  if x.cls = .forced then some ⟨x.trigger, 0, false⟩ else none

/-- The idle Refinement Unit takes the head of the refinement queue and latches s (R71, R80). -/
def takeNext (s : State) : State :=
  match s.unit, s.table.queue with
  | none, i :: rest =>
    let x := s.slot i
    let s := s.setSlot i { x with st := .refining }
    { s with
      table := { s.table with queue := rest }
      unit := some ⟨i, s.active.cf, forcedOnset x, none, none⟩ }
  | _, _ => s

/-- A detector's most recent opening becomes none if it is slot i (R61, R69). -/
def clearRecent (i : Fin 8) (s : State) : State :=
  let drop (r : Option (Fin 8 × Sample)) : Option (Fin 8 × Sample) :=
    match r with
    | some (j, t) => if j = i then none else some (j, t)
    | none => none
  { s with table := { s.table with recent := s.table.recent.map drop } }

/-- Where the ring places a pin asked for at sample q, and whether it falls short (R19). -/
def placePin (ring : List RingEntry) (q : Sample) : Sample × Bool :=
  match ring with
  | [] => (q, false)
  | e :: _ => if 0 < distance q e.n then (e.n, true) else (q, false)

/-- A slot enters CLOSED with a close sample and further flags (R69). -/
def closeSlot (close : Sample) (f : Flags) (i : Fin 8) (s : State) : State :=
  let x := s.slot i
  let pin := placePin s.ring (before x.trigger x.params.lb)
  let s := s.setSlot i ({ x with st := .closed, close := close, pin := some pin.1 }.raise
    (f.union { historyShort := pin.2 }))
  let s := clearRecent i s
  takeNext { s with table := { s.table with queue := s.table.queue ++ [i] } }

/-- Is a close sample short of the full window (R64, R65)? -/
def Slot.shortOf (x : Slot) (close : Sample) : Bool :=
  decide (0 < distance close (after x.trigger (x.params.lw - 1)))

/-- Inserts a slot number before the slots with newer triggers. -/
def insertByTrigger (s : State) (i : Fin 8) : List (Fin 8) → List (Fin 8)
  | [] => [i]
  | j :: rest =>
    if 0 ≤ distance (s.slot i).trigger (s.slot j).trigger then i :: j :: rest
    else j :: insertByTrigger s i rest

/-- Slot numbers in order of trigger sample, the oldest first, ties in slot order (R69). -/
def byTrigger (s : State) (is : List (Fin 8)) : List (Fin 8) := is.foldr (insertByTrigger s) []

/-- Every OPEN slot closes at the newest sample with the given flags, as one cause (R66, R67, R68, R69). -/
def closeAll (f : Flags) (s : State) : State :=
  (byTrigger s (s.slotsIn .opened)).foldl
    (fun s i => closeSlot (s.newest.getD (s.slot i).close) f i s) s

/-! ## Ratio reports (R63, R64) -/

/-- Does slot i belong, OPEN, to detector w? -/
def State.owns (s : State) (w : Det) (i : Fin 8) : Bool :=
  (s.slot i).st == .opened && (s.slot i).cls.owner == w

/-- Step 1 of a report: the peak SNR of the detector's OPEN slots (R63). -/
def raisePeaks (w : Det) (ratio : Nat) (s : State) : State :=
  s.mapSlots fun _ x =>
    if x.st == .opened && x.cls.owner == w then { x with peak := max x.peak ratio } else x

/-- Step 2 of a report: the auto-close of the detector's OPEN slots whose close sample is n (R64). -/
def autoClose (w : Det) (n : Sample) (s : State) : State :=
  (byTrigger s (eight.filter fun i => s.owns w i && (s.slot i).close == n)).foldl
    (fun s i => closeSlot n { truncated := (s.slot i).shortOf n } i s) s

/-- BASELINE_FORCED on every OPEN slot of the detector (R30). -/
def flagForced (w : Det) (s : State) : State :=
  s.mapSlots fun _ x =>
    if x.st == .opened && x.cls.owner == w then x.raise { baselineForced := true } else x

/-- Is a crossing at t within the separation of the detector's open most recent slot (R59)? Then its slot. -/
def State.retriggered (s : State) (w : Det) (t : Sample) : Option (Fin 8) :=
  match s.table.recent.get w with
  | some (i, trig) =>
    if (s.slot i).st = .opened ∧ distance trig t < (s.slot i).params.dsep then some i else none
  | none => none

/-- A crossing without a FREE slot is lost (R60). -/
def loseTrigger (w : Det) (s : State) : State :=
  let d := s.detector w
  let s := s.setDet w { d with pendLost := sat16 (d.pendLost + 1) }
  { s with table := { s.table with lost := s.table.lost.set w (sat16 (s.table.lost.get w + 1)) } }

/-- A crossing opens slot i (R59, R62). -/
def openFor (w : Det) (t : Sample) (eff ratio : Nat) (i : Fin 8) (s : State) : State :=
  let d := s.detector w
  let s := s.setSlot i (openSlot s (classOf w) t eff ratio d.pendLost false)
  let s := s.setDet w { d with pendLost := 0 }
  { s with table := { s.table with recent := s.table.recent.set w (some (i, t)) } }

/-- The crossing decision (R59). -/
def crossing (w : Det) (t : Sample) (eff ratio : Nat) (s : State) : State :=
  match s.retriggered w t with
  | some i =>
    let x := s.slot i
    s.setSlot i { x with retrig := sat8 (x.retrig + 1) }
  | none =>
    match s.freeSlot? with
    | some i => openFor w t eff ratio i s
    | none => loseTrigger w s

/-- The two steps of a report for the slots that were OPEN before it (R63). -/
def reportSteps (w : Det) (n : Sample) (ratio : Nat) (s : State) : State :=
  autoClose w n (raisePeaks w ratio s)

/-- A report that carries a crossing. Which comes first matters only when the crossing would retrigger a slot
that this same report closes; no rule says which, so a free value decides there (log 3). -/
def crossingReport (w : Det) (n : Sample) (eff ratio : Nat) (s : State) : State :=
  match s.retriggered w n with
  | some i =>
    if (s.slot i).close = n then
      let (v, s) := s.draw
      if v % 2 = 0 then crossing w n eff ratio (reportSteps w n ratio s)
      else reportSteps w n ratio (crossing w n eff ratio s)
    else crossing w n eff ratio (reportSteps w n ratio s)
  | none => crossing w n eff ratio (reportSteps w n ratio s)

/-! ## The History Ring's write (R18) -/

/-- The pins older than the oldest retained sample are advanced to it, with HISTORY_SHORT (R18). -/
def advancePins (oldest : Sample) (s : State) : State :=
  s.mapSlots fun _ x =>
    match x.pin with
    | some q => if 0 < distance q oldest then { x with pin := some oldest }.raise { historyShort := true } else x
    | none => x

/-- The ring appends a conditioned frame; a full ring loses its oldest entry in the same write (R18). -/
def ringWrite (f : Conditioned) (s : State) : State :=
  let e : RingEntry := ⟨f.n, f.d, f.clip, f.filled⟩
  if s.ring.length < Config.ringCap then { s with ring := s.ring ++ [e] }
  else
    let ring := s.ring.drop 1 ++ [e]
    advancePins ((ring.head?.map (·.n)).getD f.n) { s with ring := ring }

/-! ## Meanings -/

/-- AUTO_CLOSE (R64), at the newest sample, for the slots of one detector. Ratio reports exist only in RUN. -/
def execAutoClose (w : Det) (s : State) : Host.Outcome State Fault Refusal :=
  .next <|
    match s.power, s.chain.st, s.newest with
    | true, .run, some n => autoClose w n s
    | _, _, _ => s

end Sys2Proof.Machine
end

