-- ==== Sys2Proof/Machine/TimeBase.lean ====
section
/-! DEFINITION. The Time Base (chapter 7): pulses, labels, captures, time states and the conversion of a
sample number to time of day. -/

namespace Sys2Proof.Machine

/-- round_half_up(x / y) of numbers (0.5.3). -/
def roundHalfUp (x y : Nat) : Nat := (2 * x + y) / (2 * y)

/-- A change of time state raises TIME_STATE with the new state and the missed count (R120); staying in a
state raises nothing. -/
def moveTime (st : TimeState) (s : State) : State :=
  if s.time.st = st then s
  else raise (.timeState st s.time.missed) { s with time := { s.time with st := st } }

/-- The label that an accepted edge takes at tick `now` (R117). -/
def TimeBase.labelAt (t : TimeBase) (now : Nat) : Option Nat :=
  match t.pendLabel with
  | some l => some l
  | none =>
    match t.lastLabel, t.lastEdge with
    | some l, some e => some ((l + roundHalfUp (now - e) Config.secondTicks) % Config.labelMod)
    | _, _ => none

/-- The capture that an accepted edge makes at tick `now`: none while the link is DOWN or before any accepted
frame (R119). -/
def captureAt (s : State) (now : Nat) (label : Option Nat) : Option Capture :=
  match s.intake.link, s.time.lastFrame with
  | .up, some (f, a) =>
    let p := 10 * periodUs s.settings.station.rate
    some ⟨after f ((now - a) / p), (now - a) % p, label⟩
  | _, _ => none

/-- Does the edge set the TIME_STEP mark: LOCKED, and a given label that is not the last plus 1 (R118)? -/
def TimeBase.stepsAt (t : TimeBase) : Bool :=
  match t.st, t.pendLabel, t.lastLabel with
  | .locked, some g, some l => g != (l + 1) % Config.labelMod
  | _, _, _ => false

/-- The time state after an accepted edge (R117). -/
def TimeBase.stateAfterEdge (t : TimeBase) (labelled captured : Bool) : TimeState :=
  match t.st with
  | .neverSet => if labelled && captured then .locked else .neverSet
  | st => if labelled then .locked else st

/-- An accepted edge at tick `now` (R114, R117, R118, R119). -/
def acceptEdge (now : Nat) (s : State) : State :=
  let t := s.time
  let label := t.labelAt now
  let cap := captureAt s now label
  let st := t.stateAfterEdge label.isSome cap.isSome
  moveTime st { s with time := { t with
    lastEdge := some now
    lastLabel := label.orElse fun _ => t.lastLabel
    pendLabel := none
    capture := cap.orElse fun _ => t.capture
    missed := 0
    timer := some (now + Config.missingTicks)
    step := t.step || t.stepsAt } }

/-- Is an edge at tick `now` spurious (R114)? -/
def TimeBase.spurious (t : TimeBase) (now : Nat) : Bool :=
  match t.lastEdge with
  | none => false
  | some e => decide (now - e < Config.spuriousTicks)

/-- An edge on PULSE at tick `now` (R114). -/
def pulseEdge (now : Nat) (s : State) : State := if s.time.spurious now then s else acceptEdge now s

/-- The missing-pulse timer expires at the tick it was due (R115). -/
def missPulse (s : State) : State :=
  match s.time.timer with
  | none => s
  | some due =>
    let t := s.time
    let missed := if t.st = .locked then 1 else sat16 (t.missed + 1)
    let st : TimeState :=
      match t.st with
      | .locked => .holdover
      | .holdover => if Config.unlockCount ≤ missed then .unlocked else .holdover
      | st => st
    moveTime st { s with
      clock := max s.clock due
      time := { t with missed := missed, timer := some (due + Config.secondTicks) } }

/-- Seconds and µs of a sample number in a given time state (R121, R122). R121's distance is valid below 2^31; a sample
exactly 2^31 from the capture's is converted as 2^31 samples before it (DESIGN CHOICE, log 24). -/
def convertTime (s : State) (n : Sample) : Nat × Nat :=
  match s.time.st, s.time.capture with
  | .neverSet, _ => (0, 0)
  | _, some ⟨sp, delta, some lp⟩ =>
    let offset : Int := distance sp n * periodUs s.settings.station.rate - roundHalfUp delta 10
      - s.settings.station.gd
    ((((lp : Int) + offset / 1000000) % (Config.labelMod : Nat)).toNat, (offset % 1000000).toNat)
  | _, _ => (0, 0)

end Sys2Proof.Machine
end

