-- ==== Sys2Proof/Machine/Refine.lean ====
section
/-! DEFINITION. The Refinement Unit (chapter 5): the three ring reads, the phase call, the weight, the pick
record, the completion, and the completion of every waiting slot by an emptied ring (R74). -/

namespace Sys2Proof.Machine

/-- The ring's entries with sample numbers from a to b, both included: one read (R81). -/
def ringSpan (ring : List RingEntry) (a b : Sample) : List RingEntry :=
  ring.filter fun e => decide (0 ≤ distance a e.n) && decide (0 ≤ distance e.n b)

/-! ## Onset search (5.2) -/

/-- The forward level A(k) (R83). -/
def forwardLevel (ring : List RingEntry) (w : Det) (cf : Nat) (osm : Nat) (close k : Sample) : Nat :=
  let win := ringSpan ring k (earlier (after k (2 ^ osm - 1)) close)
  (win.map fun e => cfValue w cf e.d).sum / win.length

/-- The stop test of the search (R84). -/
def stopTest (ring : List RingEntry) (cf : Nat) (x : Slot) (k : Sample) : Bool :=
  decide (16 * 256 * forwardLevel ring x.cls.owner cf x.params.osm x.close k < x.params.ons * x.ltaTrig)

/-- The walk back from the trigger t: `left` further samples may be examined after k (R84). -/
def walkBack (test : Sample → Bool) (t : Sample) : Nat → Sample → Sample × Bool
  | 0, k => if test k then (if k = t then t else after k 1, false) else (k, true)
  | left + 1, k =>
    if test k then (if k = t then t else after k 1, false) else walkBack test t left (before k 1)

/-- Stage 1 for a slot of class Z or H, with its search start as it stands at the read (R82, R84, R85). -/
def onsetStage (ring : List RingEntry) (cf : Nat) (x : Slot) : OnsetResult :=
  let start := x.pin.getD x.trigger
  if 0 < distance x.trigger start then ⟨x.trigger, 0, false⟩
  else
    let r := walkBack (stopTest ring cf x) x.trigger (distance start x.trigger).toNat x.trigger
    ⟨r.1, (distance r.1 x.trigger).toNat, r.2⟩

/-! ## Polarization (5.3) -/

/-- The six sums over a window (R87). -/
def polSums (cf : Nat) (win : List RingEntry) : Sums :=
  win.foldl (fun acc e =>
    let u := e.d.map fun x => shr x cf
    ⟨acc.zz + u.z * u.z, acc.nn + u.n * u.n, acc.ee + u.e * u.e, acc.zn + u.z * u.n,
      acc.ze + u.z * u.e, acc.ne + u.n * u.e⟩) ⟨0, 0, 0, 0, 0, 0⟩

/-- The share of the sums, absent for a denominator of 0 (R87). -/
def shareOf (c : Sums) : Option Nat :=
  let total := c.zz + c.nn + c.ee
  if 1 ≤ total then some (256 * c.zz / total).toNat else none

/-- A clip mark on any component. -/
def RingEntry.clipped (e : RingEntry) : Bool := e.clip.z || e.clip.n || e.clip.e

/-- Stage 2 (R86, R87). -/
def polStage (ring : List RingEntry) (cf : Nat) (x : Slot) (onset : Sample) : PolResult :=
  let last := after onset (2 ^ x.params.pol - 1)
  let cut := decide (0 < distance x.close last)
  let win := ringSpan ring (later onset (x.pin.getD onset)) (if cut then x.close else last)
  if win.isEmpty then ⟨none, none, false, false, cut⟩
  else
    let c := polSums cf win
    ⟨some c, shareOf c, win.any RingEntry.clipped, (shareOf c).isNone, cut⟩

/-! ## Peaks and counts (5.5) -/

/-- The largest magnitude of one component and the offset of its first sample from the onset (R89). -/
def peakOf (onset : Sample) (win : List RingEntry) (comp : Trio Int → Int) : Peak :=
  win.foldl (fun (best : Peak) e =>
    let m := (comp e.d).natAbs
    if best.mag < m then ⟨m, sat16 (distance onset e.n).toNat⟩ else best)
    ⟨((win.head?.map fun e => comp e.d).getD 0).natAbs,
      sat16 ((win.head?.map fun e => distance onset e.n).getD 0).toNat⟩

/-- Stage 3 (R89, R90). -/
def peakStage (ring : List RingEntry) (x : Slot) (onset : Sample) : PeakResult :=
  let win := ringSpan ring (later onset (x.pin.getD onset)) x.close
  let peaks : Option (Trio Peak) :=
    if win.isEmpty then none
    else some ⟨peakOf onset win (·.z), peakOf onset win (·.n), peakOf onset win (·.e)⟩
  ⟨peaks, sat16 (win.filter RingEntry.clipped).length, sat16 (win.filter (·.filled)).length⟩

/-! ## Phase call and weight (5.4, 5.6) -/

/-- The call by the class alone, with its basis and whether CONTEXT_CALL is set (R88). -/
def contextCall : SlotClass → Phase × Basis × Bool
  | .z => (.p, .context, true)
  | .h => (.s, .context, true)
  | .forced => (.unknown, .none, false)

/-- The phase call (R88). -/
def phaseCall (share : Option Nat) (polClipped : Bool) (cls : SlotClass) (vp vs : Nat) :
    Phase × Basis × Bool :=
  match share, polClipped with
  | some v, false => (if vp ≤ v then .p else if v ≤ vs then .s else .unknown, .polar, false)
  | _, _ => contextCall cls

/-- The weight (R92). -/
def weightOf (f : Flags) (snr rise : Nat) (q : SlotParams) : Nat :=
  if f.forcesThree then 3
  else if q.snrA ≤ snr ∧ rise ≤ q.riseA then 0
  else if q.snrB ≤ snr ∧ rise ≤ q.riseB then 1
  else if q.snrC ≤ snr then 2
  else 3

/-! ## Formation and completion (R72, R93, R94) -/

/-- The flags gathered from the slot and the three ring stages (R95). -/
def stageFlags (x : Slot) (o : OnsetResult) (p : PolResult) (k : PeakResult) : Flags :=
  x.flags.union
    { searchLimit := o.searchLimit, polClipped := p.polClipped, noEnergy := p.noEnergy
      truncated := p.truncated, gap := decide (1 ≤ k.fills) }

/-- The pick record at formation (R94). -/
def formRecord (s : State) (x : Slot) (o : OnsetResult) (p : PolResult) (k : PeakResult) : PickRecord :=
  let flags := stageFlags x o p k
  let call := phaseCall p.share p.polClipped x.cls x.params.vp x.params.vs
  let time := convertTime s o.onset
  { seq := none
    cls := x.cls
    call := call.1
    basis := call.2.1
    profile := x.profile
    trigger := x.trigger
    onset := o.onset
    secs := time.1
    us := time.2
    timeSt := s.time.st
    missed := s.time.missed
    rise := o.rise
    snr := x.peak
    weight := weightOf flags x.peak o.rise x.params
    share := p.share
    sums := p.sums
    peaks := k.peaks
    clips := k.clips
    fills := k.fills
    retrig := x.retrig
    lost := x.lost
    flags := flags.union { contextCall := call.2.2, timeStep := s.time.step }
    group := none
    role := .none }

/-- A slot enters DONE with its record: its pin is removed, it takes the next completion order, the record's
conversion has consumed the TIME_STEP mark, and admission is attempted (R72, R118, R127, R128). -/
def enterDone (i : Fin 8) (rec : PickRecord) (s : State) : State :=
  let x := s.slot i
  let s := s.setSlot i { x with
    st := .done, pin := none, order := some s.reports.waiting, record := some rec, flags := rec.flags }
  let s := { s with time := { s.time with step := false } }
  admitAll s.takeDate

/-- The completion of a slot that an emptied ring ends, with the values of R96. -/
def completeShort (i : Fin 8) (s : State) : State :=
  let x := (s.slot i).raise { historyShort := true }
  let rec' := formRecord s x ⟨x.trigger, 0, false⟩ ⟨none, none, false, false, false⟩ ⟨none, 0, 0⟩
  enterDone i rec' (s.setSlot i x)

/-- The ring is emptied by the resynchronising actions: every REFINING and CLOSED slot completes, the one in
hand first, then the queue from its head (R20, R74). -/
def emptyRing (s : State) : State :=
  let order := (s.unit.map (·.slot)).toList ++ s.table.queue
  let s := { s with ring := [], unit := none, table := { s.table with queue := [] } }
  order.foldl (fun s i => completeShort i s) s

/-- The completion of the slot in hand; the Unit becomes idle and takes the next head (R71, R72). -/
def completeRefinement (u : RefineUnit) (o : OnsetResult) (p : PolResult) (k : PeakResult) (s : State) :
    State :=
  let rec' := formRecord s (s.slot u.slot) o p k
  takeNext (enterDone u.slot rec' { s with unit := none })

/-! ## Meanings. A stage is taken when the stage before it has been, and once (R80). -/

/-- ONSET_SEARCH (R82, R84): stage 1. A FORCED slot has its onset from the take. -/
def execOnsetSearch (s : State) : Host.Outcome State Fault Refusal :=
  .next <|
    match s.power, s.unit with
    | true, some u =>
      match u.onset with
      | none => { s with unit := some { u with onset := some (onsetStage s.ring u.cf (s.slot u.slot)) } }
      | some _ => s
    | _, _ => s

/-- POLARIZATION (R86, R87): stage 2. -/
def execPolarization (s : State) : Host.Outcome State Fault Refusal :=
  .next <|
    match s.power, s.unit with
    | true, some u =>
      match u.onset, u.pol with
      | some o, none =>
        { s with unit := some { u with pol := some (polStage s.ring u.cf (s.slot u.slot) o.onset) } }
      | _, _ => s
    | _, _ => s

/-- PEAKS_AND_COUNTS (R89, R90): stage 3. -/
def execPeaksAndCounts (s : State) : Host.Outcome State Fault Refusal :=
  .next <|
    match s.power, s.unit with
    | true, some u =>
      match u.onset, u.pol, u.peaks with
      | some o, some _, none =>
        { s with unit := some { u with peaks := some (peakStage s.ring (s.slot u.slot) o.onset) } }
      | _, _, _ => s
    | _, _ => s

/-- REFINEMENT_COMPLETION (R72): stages 4 to 7. -/
def execRefinementCompletion (s : State) : Host.Outcome State Fault Refusal :=
  .next <|
    match s.power, s.unit with
    | true, some u =>
      match u.onset, u.pol, u.peaks with
      | some o, some p, some k => completeRefinement u o p k s
      | _, _, _ => s
    | _, _ => s

end Sys2Proof.Machine
end

