-- ==== Sys2Proof/Machine/Chain.lean ====
section
/-! DEFINITION. The Chain Controller (chapter 3) with warm-up and the snapshot buffers (2.5, 2.6). -/

namespace Sys2Proof.Machine

/-! ## Chain transitions (3.1) -/

/-- The LEARN set-up and the entry into WARMUP (R32). -/
def enterWarmup (s : State) : State :=
  { s with
    det := s.det.map Detector.toWarming
    chain := { s.chain with st := .warmup, k := 0, blankEnd := none, pauseEnd := none } }

/-- An import in IMPORTING becomes INVALID when the chain leaves HOLD (R41). -/
def invalidateImport (s : State) : State :=
  match s.chain.impSt with
  | .importing _ => { s with chain := { s.chain with impSt := .invalid } }
  | _ => s

/-- The autostart arming is removed (R43). -/
def disarm (s : State) : State := { s with chain := { s.chain with armed := false } }

/-- Both detectors go to OFF (R50). -/
def detectorsOff (s : State) : State := { s with det := s.det.map Detector.toOff }

/-- The entry tests on a direct entry to RUN (R51). -/
def enterRun (s : State) : State :=
  let p := s.active.det
  { s with
    det := ⟨s.det.z.enterRun p.z, s.det.h.enterRun p.h⟩
    chain := { s.chain with st := .run } }

/-- Blanking and warm-up pause end without an end test (R46, R47, R49). -/
def dropEnds (s : State) : State :=
  { s with chain := { s.chain with blankEnd := none, pauseEnd := none } }

/-- The chain leaves for HOLD or RESYNC: every OPEN slot closes, detectors OFF, no end samples (R46, R47). -/
def leaveFor (st : ChainState) (f : Flags) (s : State) : State :=
  let s := dropEnds (detectorsOff (closeAll f s))
  { s with chain := { s.chain with st := st } }

/-- CHAIN HOLD (R46). -/
def holdChain (s : State) : State :=
  match s.chain.st with
  | .hold => s
  | _ => leaveFor .hold { truncated := true } s

/-- The Chain Controller at a link loss (R47). -/
def chainLinkLoss (s : State) : State :=
  match s.chain.st with
  | .warmup => leaveFor .resync { gap := true, truncated := true } s
  | .run => leaveFor .resync { gap := true, truncated := true } s
  | _ => s

/-- The Chain Controller at a long gap, before the resynchronising actions (R49 steps 1 and 2). -/
def chainLongGap (s : State) : State :=
  match s.chain.st with
  | .run => dropEnds (closeAll { gap := true, truncated := true } s)
  | .warmup => dropEnds s
  | _ => s

/-- Autostart at the first frame accepted after a reset (R44). -/
def autostart (s : State) : State :=
  if s.chain.armed then
    let s := disarm s
    if s.settings.station.autostart then enterWarmup (invalidateImport s) else s
  else s

/-- The Chain Controller after the resynchronising actions: a restarted warm-up, or autostart in HOLD (R44,
R48, R49 step 4). -/
def chainRestart (s : State) : State :=
  match s.chain.st with
  | .hold => autostart s
  | _ => enterWarmup s

/-- The Chain Controller at the long gap's set-up: in HOLD nothing follows (R49). -/
def chainAfterGap (s : State) : State :=
  match s.chain.st with
  | .hold => s
  | _ => enterWarmup s

/-! ## Blanking and the warm-up pause (3.4) -/

/-- Blanking begins (R55). -/
def beginBlanking (s : State) : State :=
  let s := closeAll { blanked := true, truncated := true } s
  { s with det := s.det.map Detector.toBlanked }

/-- Blanking is started or extended to end sample e (R54, R56). -/
def blankTo (e : Sample) (s : State) : State :=
  match s.chain.blankEnd with
  | none => beginBlanking { s with chain := { s.chain with blankEnd := some e } }
  | some cur => { s with chain := { s.chain with blankEnd := some (later cur e) } }

/-- Warm-up is paused, or its pause extended, to end sample e (R58). -/
def pauseTo (e : Sample) (s : State) : State :=
  let e' := match s.chain.pauseEnd with
    | none => e
    | some cur => later cur e
  { s with chain := { s.chain with pauseEnd := some e' } }

/-- The Chain Controller reads the recentre flag of a frame (R56, R58). -/
def readRecentre (f : Conditioned) (s : State) : State :=
  if f.recentre then
    match s.chain.st with
    | .run => blankTo (after f.n s.active.tail) s
    | .warmup => pauseTo (after f.n s.active.tail) s
    | _ => s
  else s

/-- A BLANKED detector's entry test at the end of blanking (R57). -/
def unblank (p : DetParams) (d : Detector) : Detector := if d.st = .blanked then d.enterRun p else d

/-- Blanking ends: the entry tests, and the end sample becomes none (R57). -/
def endBlanking (s : State) : State :=
  let p := s.active.det
  { s with
    det := ⟨unblank p.z s.det.z, unblank p.h s.det.h⟩
    chain := { s.chain with blankEnd := none } }

/-- The warm-up pause ends: k and the learn sums restart at 0 (R34, R58). -/
def endPause (s : State) : State :=
  { s with
    det := s.det.map fun d => { d with learn := 0 }
    chain := { s.chain with pauseEnd := none, k := 0 } }

/-! ## Warm-up (2.5) -/

/-- Warm-up completes at the block whose last sample is n: RUN, WARMUP_DONE, the entry tests (R33, R51). -/
def completeWarmup (n : Sample) (s : State) : State := raise (.warmupDone n) (enterRun s)

/-- A block that both detectors have added to their learn sums is counted, each LTA is set, and the completion test
becomes due (R33). -/
def countBlock (s : State) : State :=
  let k := s.chain.k + 1
  { s with
    det := s.det.map fun d => { d with lta := 256 * d.learn / k }
    chain := { s.chain with k := k }
    due := { s.due with completion := true } }

/-- The completion test of a counted block whose last sample is n, made once (R33): W lowered later completes nothing
before the next counted block. -/
def completionTest (n : Sample) (s : State) : State :=
  if s.due.completion then
    let s := { s with due := { s.due with completion := false } }
    if s.active.warm ≤ s.chain.k then completeWarmup n s else s
  else s

/-- The counted block and its completion test (R33). -/
def warmupBlock (n : Sample) (s : State) : State := completionTest n (countBlock s)

/-! ## Snapshot capture (R37) -/

/-- The header of the present settings (R36, R37). -/
def currentHeader (s : State) : Header :=
  let p := s.active
  ⟨s.settings.station.rate, s.settings.station.map, p.hp, p.cf, p.blk, p.det.map (·.sta),
    p.det.map (·.lta)⟩

/-- The capture into a PENDING buffer at block end n (R37). -/
def capture (n : Sample) (s : State) : State :=
  match s.chain.expSt with
  | .pending =>
    let sn : Snapshot := ⟨currentHeader s, s.dc.map (·.getD 0), s.det.map fun d => ⟨d.sta, d.lta⟩, 7, n⟩
    { s with chain := { s.chain with expSt := .ready, expBuf := sn } }
  | _ => s

/-! ## After both detectors have received a frame (R33, R37, R57, R58) -/

/-- In WARMUP: the counted block, or the end of the pause. -/
def afterWarmupFrame (f : Conditioned) (s : State) : State :=
  match s.chain.pauseEnd with
  | some e => if e = f.n then endPause s else s
  | none => if isBlockEnd s.active.blk f.n then warmupBlock f.n s else s

/-- In RUN: the capture at a block end, then the end of blanking. -/
def afterRunFrame (f : Conditioned) (s : State) : State :=
  let s := if isBlockEnd s.active.blk f.n then capture f.n s else s
  if isAt s.chain.blankEnd f.n then endBlanking s else s

/-- The Chain Controller once both detectors have received the frame. -/
def afterDetectors (f : Conditioned) (s : State) : State :=
  match s.chain.st with
  | .warmup => afterWarmupFrame f s
  | .run => afterRunFrame f s
  | _ => s

/-! ## Meanings -/

/-- WARMUP_COMPLETION (R33): the completion test of a block just counted, where that test is still due. A block whose
test has been made is not tested again (log 2). -/
def execWarmupCompletion (s : State) : Host.Outcome State Fault Refusal :=
  .next <|
    match s.power, s.chain.st, s.newest with
    | true, .warmup, some n => completionTest n s
    | _, _, _ => s

/-- BLANKING_END (R57): the newest sample is the blanking end sample. -/
def execBlankingEnd (s : State) : Host.Outcome State Fault Refusal :=
  .next <|
    match s.power, s.chain.st, s.newest with
    | true, .run, some n => if isAt s.chain.blankEnd n then endBlanking s else s
    | _, _, _ => s

/-- WARMUP_PAUSE_END (R58): the newest sample is the pause end sample. -/
def execWarmupPauseEnd (s : State) : Host.Outcome State Fault Refusal :=
  .next <|
    match s.power, s.chain.st, s.newest with
    | true, .warmup, some n => if isAt s.chain.pauseEnd n then endPause s else s
    | _, _, _ => s

end Sys2Proof.Machine
end

