-- ==== Sys2Proof/Machine/ChainRequests.lean ====
section
/-! DEFINITION. The requests of chapter 3: CHAIN HOLD, CHAIN RUN in its three modes, BLANK. -/

namespace Sys2Proof.Machine

/-- CHAIN HOLD's effect (R46). -/
def actHold : Action := fun _ s => (holdChain s, done)

/-- LEARN from HOLD (R32, R45). -/
def runLearn (s : State) : State × Answer := (enterWarmup (invalidateImport (disarm s)), done)

/-- One detector's averages loaded or set, with no block and nothing owed (R35, R36). -/
def Detector.load (d : Detector) (sta lta : Nat) : Detector :=
  { d.endBlock.clearOwed with sta := sta, lta := lta }

/-- The IMMEDIATE set-up of one detector: both averages at the floor (R35). -/
def Detector.immediate (p : DetParams) (d : Detector) : Detector := d.load (256 * p.floor) (256 * p.floor)

/-- IMMEDIATE from HOLD (R35, R45). -/
def runImmediate (s : State) : State × Answer :=
  let p := s.active.det
  let s := invalidateImport (disarm s)
  (enterRun { s with det := ⟨s.det.z.immediate p.z, s.det.h.immediate p.h⟩ }, done)

/-- The values of a snapshot loaded into the detectors and the Conditioner (R36). -/
def loadSnapshot (sn : Snapshot) (s : State) : State :=
  { s with
    dc := sn.mean.map some
    det := ⟨s.det.z.load sn.avg.z.sta sn.avg.z.lta, s.det.h.load sn.avg.h.sta sn.avg.h.lta⟩ }

/-- RESTORE from HOLD (R36, R41, R45). -/
def runRestore (s : State) : State × Answer :=
  match s.chain.impSt with
  | .valid =>
    if s.chain.impBuf.header = currentHeader s then (enterRun (loadSnapshot s.chain.impBuf (disarm s)), done)
    else (s, refuse .mismatch)
  | _ => (invalidateImport s, refuse .noSnapshot)

/-- CHAIN RUN (R45): the mode byte, then the chain state, then the mode's own checks. -/
def actRun (body : List Byte) : Action := fun _ s =>
  let mode := field body 0 1
  if 3 ≤ mode then (s, refuse .range)
  else if s.chain.st ≠ .hold then (s, refuse .state)
  else if mode = 0 then runLearn s
  else if mode = 1 then runRestore s
  else runImmediate s

/-- BLANK (R54): the chain state and the newest sample, then the count. -/
def actBlank (body : List Byte) : Action := fun _ s =>
  match s.chain.st, s.newest with
  | .run, some n =>
    let count := field body 0 2
    if count = 0 then (s, refuse .range) else (blankTo (after n count) s, done)
  | _, _ => (s, refuse .needsRun)

end Sys2Proof.Machine
end

