-- ==== Sys2Proof/Machine/Trials.lean ====
section
/-! DEFINITION. The Revert Stack (10.5): pops, discards and the expiry of trials. -/

namespace Sys2Proof.Machine

/-- A value stored in a working profile entry (R137). -/
def storeValue (e : Fin 8) (i : Item) (v : Nat) (s : State) : State :=
  s.setProfile e (s.settings.profiles[e].put i v)

/-- The top entry is popped and its old value restored, whatever the entry's lock (R163, R164, R165). -/
def popTrial (t : Trial) (rest : List Trial) (s : State) : State :=
  storeValue t.entry t.item t.old { s with revert := rest }

/-- Every Revert Stack entry of one profile entry is discarded, restoring nothing (R141, R162). -/
def discardTrials (e : Fin 8) (s : State) : State :=
  { s with revert := s.revert.filter fun t => t.entry != e }

/-- Has a trial expired at newest sample n (R165)? An expiry sample exactly 2^31 from n lies at no meaningful distance
(0.5.2); it is read as 2^31 before n on either side, both tests fail, and the trial stays (DESIGN CHOICE, log 24). -/
def Trial.expired (t : Trial) (n : Sample) : Bool :=
  decide (0 ≤ distance t.expiry n) || decide ((Config.trialMax : Int) < distance n t.expiry)

/-- Expired entries are popped from the top of the stack until it is empty or its top has not expired; each raises
TRIAL_EXPIRED (R165), which folds into the one before it while that is still pending (R131; log 14). -/
def popExpired (n : Sample) : List Trial → State → State
  | [], s => s
  | t :: rest, s =>
    if t.expired n then popExpired n rest (raise (.trialExpired t.entry t.item t.old) (popTrial t rest s)) else s

/-- The Revert Stack receives frame n (R165). -/
def expireTrials (n : Sample) (s : State) : State := popExpired n s.revert s

/-- The Revert Stack's expiry tests of a frame whose newest sample is n, made once (R165). -/
def trialTests (n : Sample) (s : State) : State :=
  if s.due.trials then expireTrials n { s with due := { s.due with trials := false } } else s

/-- Does the top entry expire at frame n? -/
def State.trialDue (s : State) (n : Sample) : Bool := (s.revert.head?.map (·.expired n)).getD false

/-- TRIAL_EXPIRY (R165), at the newest sample, where the frame's tests are still due: no trial expires without a frame
(log 2). -/
def execTrialExpiry (s : State) : Host.Outcome State Fault Refusal :=
  .next <|
    match s.power, s.newest with
    | true, some n => trialTests n s
    | _, _ => s

end Sys2Proof.Machine
end

