-- ==== Sys2Proof/Machine/Intake.lean ====
section
/-! DEFINITION. Sample Intake and Component Conditioner (chapter 1), the delivery of a conditioned frame to its
recipients (R16), and the two local-clock timers that run beside the sample link (R6, R115). -/

namespace Sys2Proof.Machine

/-! ## The Component Conditioner (1.2) -/

/-- The raw sample of a link position. -/
def RawFrame.raw (f : RawFrame) : LinkPos → Int
  | .a => f.a
  | .b => f.b
  | .c => f.c

/-- The over-range flag of a link position: status bits 1, 2, 3 (R173). -/
def RawFrame.overRange (f : RawFrame) : LinkPos → Bool
  | .a => f.status.getLsbD 1
  | .b => f.status.getLsbD 2
  | .c => f.status.getLsbD 3

/-- The recentre flag: status bit 0 (R173). -/
def RawFrame.recentre (f : RawFrame) : Bool := f.status.getLsbD 0

/-- The polarity step (R12). -/
def polarize (inverted : Bool) (raw : Int) : Int := if inverted then sat24 (-raw) else raw

/-- The clip mark (R13). -/
def clipMark (level : Nat) (ranged : Bool) (raw : Int) : Bool := decide (level ≤ raw.natAbs) || ranged

/-- The trimmed value (R14). -/
def trimmed (g : Nat) (p : Int) : Int := sat24 (p * g / 32768)

/-- DC removal: the output and the updated mean (R15). -/
def removeDc (h : Nat) (mean : Option Int) (t : Int) : Int × Int :=
  match mean with
  | none => (0, t)
  | some m =>
    let d := sat24 (t - m)
    (d, m + shr d h)

/-- One component's output, clip mark and new mean. -/
def conditionOne (h : Nat) (f : RawFrame) (pos : LinkPos) (inverted : Bool) (g level : Nat)
    (mean : Option Int) : Int × Bool × Int :=
  let raw := f.raw pos
  let r := removeDc h mean (trimmed g (polarize inverted raw))
  (r.1, clipMark level (f.overRange pos) raw, r.2)

/-- The conditioned frame and the three updated means (R11 to R16). -/
def conditioned (s : State) (f : RawFrame) (filled : Bool) : Conditioned × Trio (Option Int) :=
  let st := s.settings.station
  let h := s.active.hp
  let z := conditionOne h f st.map.z st.inverted.z st.trim.z st.clip.z s.dc.z
  let n := conditionOne h f st.map.n st.inverted.n st.trim.n st.clip.n s.dc.n
  let e := conditionOne h f st.map.e st.inverted.e st.trim.e st.clip.e s.dc.e
  (⟨f.seq, ⟨z.1, n.1, e.1⟩, ⟨z.2.1, n.2.1, e.2.1⟩, filled, f.recentre⟩,
    ⟨some z.2.2, some n.2.2, some e.2.2⟩)

/-! ## Delivery (R16) -/

/-- What detector w would do with the frame as the state stands. -/
def State.outOf (s : State) (w : Det) (f : Conditioned) : DetOut :=
  detStep w s.active s.chain.pauseEnd.isSome f (s.detector w)

/-- The forced baseline's flags and notice (R30). -/
def announceForced (w : Det) (n : Sample) (s : State) : State :=
  raise (.baselineForced w n) (flagForced w s)

/-- A detector receives the frame: R22, a forced baseline's flags and notice, and in RUN its ratio report with
the crossing it may carry (R30, R59, R63). R16 names the detector and the Slot Table as separate recipients and orders
neither against the Revert Stack. The report and the opening it may bring are here one act with the detector's, so no
other recipient's act, such as a trial's expiry, falls between an ON test and the copies that R62 takes (DESIGN CHOICE,
log 29). -/
def detectorFrame (w : Det) (f : Conditioned) (s : State) : State :=
  let out := s.outOf w f
  let s := s.setDet w out.det
  let s := if out.forcedNow then announceForced w f.n s else s
  match s.chain.st with
  | .run =>
    if out.crossed then crossingReport w f.n out.eff out.ratio s else reportSteps w f.n out.ratio s
  | _ => s

/-- The recipients of a frame whose order can matter. Each one's act on a frame is whole, and the Slot Table's is part of
the reporting detector's (DESIGN CHOICE, log 29). -/
inductive Recipient where
  /-- a detector, with the Slot Table behind its report -/
  | detector (w : Det)
  /-- the Chain Controller reading the recentre flag -/
  | recentre
  /-- the Chain Controller once both detectors have received the frame -/
  | after
  /-- the Revert Stack -/
  | stack
  /-- the Association Table -/
  | assoc
  deriving DecidableEq, Repr

/-- One recipient takes the frame. -/
def receive (f : Conditioned) (s : State) : Recipient → State
  | .detector w => detectorFrame w f s
  | .recentre => readRecentre f s
  | .after => afterDetectors f s
  | .stack => trialTests f.n s
  | .assoc => freeRenumbered f.n (entryTests f.n s)

/-- The orders of the first three recipients. -/
def firstThree (v : Nat) : List Recipient :=
  match v % 6 with
  | 0 => [.detector .z, .detector .h, .recentre]
  | 1 => [.detector .z, .recentre, .detector .h]
  | 2 => [.detector .h, .detector .z, .recentre]
  | 3 => [.detector .h, .recentre, .detector .z]
  | 4 => [.recentre, .detector .z, .detector .h]
  | _ => [.recentre, .detector .h, .detector .z]

/-- A recipient put into place k of an order. -/
def insertAt (k : Nat) (r : Recipient) (rs : List Recipient) : List Recipient := rs.take k ++ r :: rs.drop k

/-- The order that a free value names: the Revert Stack and the Association Table in any place among the others,
the Chain Controller's last act after both detectors (R33, R57, R58). No place lies between a detector and the Slot Table
behind its report (DESIGN CHOICE, log 29). -/
def frameOrder (v : Nat) : List Recipient :=
  insertAt (v / 30 % 6) .assoc (insertAt (v / 6 % 5) .stack (firstThree v ++ [.after]))

/-- The order used where the outcome does not depend on it. -/
def plainOrder : List Recipient := [.detector .z, .detector .h, .recentre, .after, .stack, .assoc]

/-- Could a blanking that this frame starts meet a slot that this frame's reports would also change (R55, R67)? -/
def State.blankingRace (s : State) (f : Conditioned) : Bool :=
  f.recentre && s.chain.st == .run && s.chain.blankEnd.isNone &&
  eight.any fun i =>
    let x := s.slot i
    x.st == .opened &&
      (x.close == f.n || decide (x.peak < ratioOf (s.params x.cls.owner) (s.detector x.cls.owner)))

/-- Does detector w's report of this frame do more than raise peaks: a crossing, a forced baseline, or an
auto-close (R30, R59, R64)? -/
def State.reportActs (s : State) (w : Det) (f : Conditioned) : Bool :=
  (s.outOf w f).crossed || (s.outOf w f).forcedNow || eight.any fun i => s.owns w i && (s.slot i).close == f.n

/-- Can a notice be raised by this frame's recipients, so that an item that waits is tried again (R128)? -/
def State.noticeDue (s : State) (f : Conditioned) : Bool :=
  s.trialDue f.n || (s.outOf .z f).forcedNow || (s.outOf .h f).forcedNow ||
  (s.chain.st == .warmup && isBlockEnd s.active.blk f.n)

/-- Can the order among the recipients of this frame matter (R16, R55, R63, R67, R165)? -/
def State.orderMatters (s : State) (f : Conditioned) : Bool :=
  s.trialDue f.n || (s.reportActs .z f && s.reportActs .h f) || s.blankingRace f ||
  (s.noticeDue f && s.oldestWaiting.isSome)

/-- The recipients take the frame, in an order that a free value names where the order matters (log 3). -/
def deliver (f : Conditioned) (s : State) : State :=
  if s.orderMatters f then
    let (v, s) := s.draw
    (frameOrder v).foldl (receive f) s
  else plainOrder.foldl (receive f) s

/-- One raw frame, arriving or filled, is conditioned, written into the ring and handed on; the tests of its recipients
become due (R16, R109, R165). -/
def conditionFrame (f : RawFrame) (filled : Bool) (s : State) : State :=
  let c := conditioned s f filled
  let s := { s with dc := c.2, newest := some f.seq, due := { completion := false, entries := true, trials := true } }
  deliver c.1 (ringWrite c.1 s)

/-! ## Sample Intake (1.1) -/

/-- The resynchronising actions (R8). -/
def resync (s : State) : State :=
  let s := emptyRing s
  { s with dc := ⟨none, none, none⟩, det := s.det.map Detector.endBlock }

/-- An accepted frame: the last accepted raw frame, the expected number, the silence timer, the Time Base's
record of it, and its conditioning (R2, 7.1). -/
def acceptFrame (now : Nat) (f : RawFrame) (s : State) : State :=
  conditionFrame f false { s with
    intake := { s.intake with lastRaw := some f, expected := some (f.seq + 1), silence := some now }
    time := { s.time with lastFrame := some (f.seq, now) } }

/-- The filled frames from sequence number n on, copies of `raw` (R4). -/
def fillFrames (raw : RawFrame) : Nat → Sample → State → State
  | 0, _, s => s
  | j + 1, n, s => fillFrames raw j (n + 1) (conditionFrame { raw with seq := n } true s)

/-- A short gap of jump j before frame f (R4). -/
def shortGap (now : Nat) (f : RawFrame) (e : Sample) (j : Nat) (s : State) : State :=
  let s := match s.intake.lastRaw with
    | some raw => fillFrames raw j e s
    | none => s
  acceptFrame now f { s with intake := { s.intake with filled := sat16 (s.intake.filled + j) } }

/-- A long gap at frame f (R5, R49). -/
def longGap (now : Nat) (f : RawFrame) (e : Sample) (s : State) : State :=
  let s := { s with intake := { s.intake with gaps := sat16 (s.intake.gaps + 1) } }
  let s := chainLongGap (raise (.longGap e f.seq) s)
  acceptFrame now f (chainAfterGap (resync s))

/-- A resumption frame (R7, R48). R48 says that a chain in RUN then has no OPEN slot; one that SLOT FORCE has
opened with the link DOWN closes as at a long gap, so that an OPEN slot exists in RUN alone (R65; DESIGN CHOICE, log 8).
R48 says also that such a chain is not blanked, and R54 names no resumption among what ends blanking before its end
sample; a blanking that BLANK has begun with the link DOWN ends here with the fresh warm-up: its end sample becomes none
and no detector makes an entry test (DESIGN CHOICE, log 8). -/
def resume (now : Nat) (f : RawFrame) (s : State) : State :=
  let s := chainLongGap { s with intake := { s.intake with link := .up } }
  acceptFrame now f (chainRestart (resync s))

/-- A stale frame (R3). -/
def staleFrame (s : State) : State :=
  { s with intake := { s.intake with stale := sat16 (s.intake.stale + 1) } }

/-- Sequence classification in link state UP (R2). -/
def classify (now : Nat) (f : RawFrame) (e : Sample) (s : State) : State :=
  let j := distance e f.seq
  if j < 0 then staleFrame s
  else if j = 0 then acceptFrame now f s
  else if j ≤ s.settings.station.gap then shortGap now f e j.toNat s
  else longGap now f e s

/-- A frame that passes its check (R1, R2, R7). An UP link always has an expected number. -/
def goodFrame (now : Nat) (f : RawFrame) (s : State) : State :=
  match s.intake.link, s.intake.expected with
  | .up, some e => classify now f e s
  | _, _ => resume now f s

/-- Drops the bytes before a sync pair; a last byte that may begin one is kept (R1, R167). -/
def syncSearch (a b : Byte) : List Byte → List Byte
  | [] => []
  | [x] => if x = a then [x] else []
  | x :: y :: r => if x = a ∧ y = b then x :: y :: r else syncSearch a b (y :: r)

/-- The length of a sample frame (R173). -/
def sampleLen : Nat := 18

/-- The check of a sample frame, over offsets 2 to 15 (R173). -/
def sampleCheck (bs : List Byte) : Bool := crc16 (slice bs 2 14) == field bs 16 2

/-- The fields of a sample frame (R173). -/
def sampleFields (bs : List Byte) : RawFrame :=
  ⟨BitVec.ofNat 32 (field bs 2 4), BitVec.ofNat 8 (field bs 6 1), fieldInt bs 7 3, fieldInt bs 10 3,
    fieldInt bs 13 3⟩

/-- The bytes of a sample frame with a good check (R173). -/
def sampleBytes (f : RawFrame) : List Byte :=
  let mid := be 4 f.seq.toNat ++ [f.status] ++ beInt 3 f.a ++ beInt 3 f.b ++ beInt 3 f.c
  [0xE7, 0x18] ++ mid ++ be 2 (crc16 mid)

/-- The intake's search and framing over the bytes received (R1). -/
def intakeLoop (now : Nat) : Nat → State → State
  | 0, s => s
  | fuel + 1, s =>
    let buf := syncSearch 0xE7 0x18 s.intake.rx
    if buf.length < sampleLen then { s with intake := { s.intake with rx := buf } }
    else if sampleCheck buf then
      intakeLoop now fuel
        (goodFrame now (sampleFields buf) { s with intake := { s.intake with rx := buf.drop sampleLen } })
    else
      intakeLoop now fuel
        { s with intake := { s.intake with rx := buf.drop 2, bad := sat16 (s.intake.bad + 1) } }

/-- Bytes of the sample link, the last of them at tick `now` (R1). No rule says which instant of a frame is its arrival
(R2, R6, 7.1): every frame that these bytes complete arrives at `now` (DESIGN CHOICE, log 26). -/
def takeBytes (now : Nat) (bs : List Byte) (s : State) : State :=
  let rx := s.intake.rx ++ bs
  intakeLoop now (rx.length + 1) { s with intake := { s.intake with rx := rx } }

/-! ## The local clock's timers (R6, R115) -/

/-- The tick at which the silence timer expires; it runs in link state UP only (R6). -/
def State.silenceDue (s : State) : Option Nat :=
  match s.intake.link, s.intake.silence with
  | .up, some t => some (t + Config.silenceTicks)
  | _, _ => none

/-- The last accepted frame's sequence number, LINK_DOWN's data (R132). -/
def State.lastSeq (s : State) : Sample := (s.intake.lastRaw.map (·.seq)).getD 0

/-- The silence timer expires at tick `due` (R6). -/
def loseLink (due : Nat) (s : State) : State :=
  let s := { s with
    clock := max s.clock due
    intake := { s.intake with link := .down, expected := none, silence := none } }
  chainLinkLoss (raise (.linkDown s.lastSeq) s)

/-- A due tick that lies before tick t. -/
def dueBefore (t : Nat) : Option Nat → Option Nat
  | some d => if d < t then some d else none
  | none => none

/-- The timers that were due before tick t expire in order of their ticks; two due at one tick expire in an
order that a free value names (R6, R115; log 3). -/
def runTimers (t : Nat) : Nat → State → State
  | 0, s => s
  | fuel + 1, s =>
    match dueBefore t s.silenceDue, dueBefore t s.time.timer with
    | none, none => s
    | some a, none => runTimers t fuel (loseLink a s)
    | none, some _ => runTimers t fuel (missPulse s)
    | some a, some b =>
      if a < b then runTimers t fuel (loseLink a s)
      else if b < a then runTimers t fuel (missPulse s)
      else
        let (v, s) := s.draw
        runTimers t fuel (if v % 2 = 0 then loseLink a s else missPulse s)

/-- How many expiries can fall before tick t. -/
def timerFuel (t : Nat) (s : State) : Nat := (t - s.time.timer.getD t) / Config.secondTicks + 3

/-- The local clock reaches tick t: every timer due before it has expired (R6, R113, R115). The clock does not
run backwards (log 5). -/
def advanceTo (t : Nat) (s : State) : State :=
  let s := runTimers t (timerFuel t s) s
  { s with clock := max s.clock t }

/-! ## Meanings -/

/-- SAMPLE_FRAME (R1 to R8, R16, and what each recipient does with the frame). -/
def execSampleFrame (bytes : List Byte) (tick : Nat) (s : State) : Host.Outcome State Fault Refusal :=
  .next <|
    if s.power then
      let s := advanceTo tick s
      takeBytes s.clock bytes s
    else s

/-- LINK_LOSS (R6): the silence timer expires; in link state DOWN it does not run. The local clock then stands at the
timer's own due tick, and a missing-pulse timer that was due before that tick has expired first (R115; the model's
choice, log 5). -/
def execLinkLoss (s : State) : Host.Outcome State Fault Refusal :=
  .next <|
    match s.power, s.silenceDue with
    | true, some due => loseLink due (runTimers due (timerFuel due s) s)
    | _, _ => s

/-- MISSING_PULSE (R115): the missing-pulse timer expires; a stopped timer does not. The local clock then stands at the
timer's own due tick, and a silence timer that was due before that tick has expired first (R6; the model's choice,
log 5). -/
def execMissingPulse (s : State) : Host.Outcome State Fault Refusal :=
  .next <|
    match s.power, s.time.timer with
    | true, some due => missPulse (runTimers due (timerFuel due s) s)
    | _, _ => s

/-- PULSE_EDGE (R114). -/
def execPulseEdge (tick : Nat) (s : State) : Host.Outcome State Fault Refusal :=
  .next <|
    if s.power then
      let s := advanceTo tick s
      pulseEdge s.clock s
    else s

end Sys2Proof.Machine
end

