-- ==== Sys2Proof/Machine/ReportRequests.lean ====
section
/-! DEFINITION. STATUS (R170) and COLLECT (R133). -/

namespace Sys2Proof.Machine

/-- STATUS (R170): changes nothing. -/
def actStatus : Action := fun _ s => (s, doneWith (statusBytes s))

/-- The reply data of COLLECT: a count byte and the records in queue order (R173). -/
def collectBytes (rs : List Record) : List Byte := be 1 rs.length ++ rs.flatMap Record.bytes

/-- COLLECT (R133): the oldest records leave, and the attempts of R128 follow. -/
def actCollect (body : List Byte) : Action := fun _ s =>
  let n := field body 0 1
  if n = 0 ∨ 4 < n then (s, refuse .range)
  else if s.reports.queue.isEmpty then (s, refuse .empty)
  else
    (admitAll { s with reports := { s.reports with queue := s.reports.queue.drop n } },
      doneWith (collectBytes (s.reports.queue.take n)))

end Sys2Proof.Machine
end

