-- ==== Sys2Proof/Machine/Resets.lean ====
section
/-! DEFINITION. The three resets (0.3, R151, R172, R175), the end of a save and the loss of power (R150), the
RESET request and the end of a reply (R168). -/

namespace Sys2Proof.Machine

/-- A loaded lock put back in POWER if the object's power lock mark is set (R145). -/
def carryPower (old new : Lock) : Lock :=
  match old, new with
  | .power _, .base b => .power b
  | _, l => l

/-- The power lock marks act on the loaded tables (R145). -/
def carryLocks (old new : Settings) : Settings :=
  { new with
    profileLock := mapEight (fun i l => carryPower old.profileLock[i] l) new.profileLock
    stationLock := carryPower old.stationLock new.stationLock
    gateLock := carryPower old.gateLock new.gateLock }

/-- The working tables that a reset loads (R145, R151). -/
def loadedSettings (kind : ResetKind) (s : State) : Settings :=
  let loaded := loadImage (if s.store.mark then s.store.image else factoryImage)
  if kind = .powerOn then loaded else carryLocks s.settings loaded

/-- The state that a reset leaves, before STORE_DEFAULTED is raised: every block as its own rule says. The
RESET request keeps the link floor and the Time Base (R124, R155); the straps are read at power-on and at the
RESET line (11.6), the line's as its last command gave them, taken when its reset acts (DESIGN CHOICE, log 28); the
local clock runs from power-on (R113). -/
def resetState (kind : ResetKind) (s : State) : State where
  clock := if kind = .powerOn then 0 else s.clock
  intake := resetIntake
  dc := ⟨none, none, none⟩
  ring := []
  newest := none
  det := ⟨resetDetector, resetDetector⟩
  chain := resetChain
  table := resetTable
  unit := none
  assoc := resetAssoc
  time := if kind = .request then s.time else resetTime
  reports := resetReports
  settings := loadedSettings kind s
  revert := []
  store := { s.store with writing := none, defaulted := !s.store.mark }
  floor := if kind = .request then s.floor else 0
  port := resetPort
  baud := if kind = .request then s.baud else s.straps
  straps := s.straps
  protect := s.protect
  resetLow := s.resetLow
  resetPending := none
  power := true
  due := {}
  choices := s.choices
  pending := s.pending

/-- A reset takes effect; a missing completion mark raises STORE_DEFAULTED as the first notice (R151, R136). -/
def doReset (kind : ResetKind) (s : State) : State :=
  let s' := resetState kind s
  if s.store.mark then s' else raise (.storeDefaulted kind) s'

/-- A released reset takes effect unless a save is in flight, for whose completion it waits (R152, R172). -/
def tryReset (s : State) : State :=
  match s.resetPending, s.store.writing with
  | some ⟨kind, true⟩, none => doReset kind s
  | _, _ => s

/-- Power is lost: a save in flight is abandoned with its mark cleared and its image part old and part new, and
a pending reset gives way (R150, R152, R172). -/
def losePower (s : State) : State :=
  let s := { s with power := false, resetPending := none }
  match s.store.writing with
  | none => s
  | some im =>
    { s with
      choices := s.choices + 1
      store := { s.store with
        image := Config.tornImage s.store.image im s.choices, mark := false, writing := none } }

/-- The power-on reset, with the straps as given (R151). -/
def powerUp (straps : Baud) (s : State) : State :=
  doReset .powerOn { losePower s with straps := straps }

/-- The RESET line is asserted: a pending RESET request gives way to the line's reset (R172, R175). -/
def assertLine (s : State) : State :=
  let s := { s with resetLow := true }
  match s.resetPending with
  | some ⟨.request, _⟩ => { s with resetPending := some ⟨.line, false⟩ }
  | _ => s

/-- The RESET line is released: its reset starts (R175). A line that is not held low has no release. -/
def releaseLine (s : State) : State :=
  if s.resetLow then tryReset { s with resetLow := false, resetPending := some ⟨.line, true⟩ } else s

/-- The save in flight completes (R150). -/
def completeSave (im : Image) (s : State) : State :=
  tryReset { s with store := ⟨im, true, none, false⟩ }

/-- Is a reply that of an accepted RESET request? -/
def Reply.isReset (r : Reply) : Bool := r.kind == 0x98 && r.status == .done

/-- The reply's last byte is sent (R168); the reply of a RESET request releases the pending reset (R172). -/
def completeReply (rep : Reply) (s : State) : State :=
  let s := { s with port := { s.port with busy := none } }
  match s.resetPending, rep.isReset with
  | some ⟨.request, _⟩, true => tryReset { s with resetPending := some ⟨.request, true⟩ }
  | _, _ => s

/-- RESET request (R172): the reset becomes pending, or joins the one already pending. With the RESET line
held low it is the line's reset that will take effect. -/
def actReset : Action := fun _ s =>
  match s.resetPending with
  | some _ => (s, done)
  | none => ({ s with resetPending := some ⟨if s.resetLow then .line else .request, false⟩ }, done)

/-! ## Meanings -/

/-- POWER_ON (R151). -/
def execPowerOn (straps : Baud) (s : State) : Host.Outcome State Fault Refusal := .next (powerUp straps s)

/-- POWER_LOSS (R150). -/
def execPowerLoss (s : State) : Host.Outcome State Fault Refusal := .next (losePower s)

/-- RESET_LINE (R172, R175). Each command of the line, at either edge, gives the straps as they then stand; 11.6 does not
say at which moment of the line they are read, and the reset that follows takes the last (DESIGN CHOICE, log 28). -/
def execResetLine (low : Bool) (straps : Baud) (s : State) : Host.Outcome State Fault Refusal :=
  let s := { s with straps := straps }
  .next <|
    match s.power, low with
    | true, true => assertLine s
    | true, false => releaseLine s
    | false, _ => { s with resetLow := low }

/-- RESET_TAKES_EFFECT (R172): the moment of a pending reset, no save being in flight. For a RESET request it
is the moment its reply's last byte is sent; the RESET line's reset waits for the line's release. -/
def execResetTakesEffect (s : State) : Host.Outcome State Fault Refusal :=
  .next <|
    match s.power, s.resetPending, s.store.writing with
    | true, some ⟨.request, _⟩, none => doReset .request s
    | true, some ⟨.line, true⟩, none => doReset .line s
    | _, _, _ => s

/-- STORE_SAVE_COMPLETION (R150). -/
def execStoreSaveCompletion (s : State) : Host.Outcome State Fault Refusal :=
  .next <|
    match s.power, s.store.writing with
    | true, some im => completeSave im s
    | _, _ => s

/-- REPLY_COMPLETE (R168). -/
def execReplyComplete (s : State) : Host.Outcome State Fault Refusal :=
  .next <|
    match s.power, s.port.busy with
    | true, some rep => completeReply rep s
    | _, _ => s

end Sys2Proof.Machine
end

