-- ==== Sys2Proof/Machine/SettingsRequests.lean ====
section
/-! DEFINITION. The requests of chapters 9 and 10: profiles, locks, station record, gates, adjustments, trials,
the link floor and STORE SAVE. -/

namespace Sys2Proof.Machine

/-! ## Profiles (9.1, 9.2) -/

/-- PROFILE READ (R139). -/
def actProfileRead (body : List Byte) : Action := fun _ s =>
  match toFin8 (field body 0 1) with
  | none => (s, refuse .range)
  | some e => (s, doneWith (profileBytes s e))

/-- Both detectors' averages brought down to the bound of the active entry (R27). -/
def boundAverages (s : State) : State :=
  let cf := s.active.cf
  { s with det := ⟨s.det.z.bound .z cf, s.det.h.bound .h cf⟩ }

/-- The averages are bounded when the active structural parameters have changed (R27). -/
def afterStructural (old : Profile) (s : State) : State :=
  if structuralDiffer old s.active then boundAverages s else s

/-- The required level of a PROFILE WRITE: the lower of the entry's level and a class level (R140 check 1). -/
def writeLevel (p : Profile) (cls : Nat) : Nat := min p.level cls

/-- The class level of a whole-entry write: the lowest class among the items that differ, else 3 (R140). -/
def wholeClass (p q : Profile) : Nat :=
  ((allItems.filter fun i => p.get i != q.get i).map Item.cls).foldl min 3

/-- The checks of R140 after naming, and the store of R141: `new` is the entry as it would stand, `cls` the
class level, `ranged` the outcome of the range check. -/
def writeProfile (e : Fin 8) (new : Profile) (cls : Nat) (ranged : Bool) : Action := fun eff s =>
  let old := s.settings.profiles[e]
  if writeLevel old cls < eff then (s, refuse .level)
  else if !s.mayWrite s.settings.profileLock[e] eff then (s, refuse .locked)
  else if s.settings.active = e ∧ structuralDiffer old new ∧ s.chain.st ≠ .hold then (s, refuse .needsHold)
  else if !ranged then (s, refuse .range)
  else if !new.consistent then (s, refuse .conflict)
  else (discardTrials e (afterStructural s.active (s.setProfile e new)), done)

/-- PROFILE WRITE (R140): the naming of the entry and the item, then one item or the whole entry. -/
def actProfileWrite (body : List Byte) : Action := fun eff s =>
  match toFin8 (field body 0 1) with
  | none => (s, refuse .range)
  | some e =>
    let old := s.settings.profiles[e]
    if body.length = 6 then
      match itemOf (field body 1 1) with
      | none => (s, refuse .range)
      | some i =>
        let v := field body 2 4
        writeProfile e (old.put i v) i.cls (i.inRange v) eff s
    else
      let new := old.ofValues (fields4 body 1 33)
      writeProfile e new (wholeClass old new) new.inRange eff s

/-- PROFILE SELECT (R142). -/
def actProfileSelect (body : List Byte) : Action := fun _ s =>
  match toFin8 (field body 0 1) with
  | none => (s, refuse .range)
  | some e =>
    if structuralDiffer s.active s.settings.profiles[e] ∧ s.chain.st ≠ .hold then (s, refuse .needsHold)
    else (afterStructural s.active { s with settings := { s.settings with active := e } }, done)

/-! ## Locks (9.3) -/

/-- The requested lock state of a code (11.3), POWER without its underlying state. -/
inductive LockAsk where
  | base (l : BaseLock)
  | power
  deriving DecidableEq, Repr

/-- The lock state that a PROFILE LOCK names. -/
def lockAsk (code : Nat) : Option LockAsk :=
  match code with
  | 0 => some (.base .opened)
  | 1 => some (.base .line)
  | 2 => some .power
  | 3 => some (.base .fixed)
  | _ => none

/-- The lock after a transition that is allowed: POWER takes the present state as underlying (R144). -/
def lockTo (present : BaseLock) : LockAsk → Lock
  | .base l => .base l
  | .power => .power present

/-- The transition table of R144: the new lock, or none for LOCKED. `pass` says whether a LINE lock may be
left. -/
def lockMove (present : Lock) (ask : LockAsk) (pass : Bool) : Option Lock :=
  match present with
  | .base .opened => some (lockTo .opened ask)
  | .base .line =>
    if ask = .base .line then some (.base .line) else if pass then some (lockTo .line ask) else none
  | _ => none

/-- The outcome of a lock transition, stored by `put`. -/
def lockOutcome (present : Lock) (ask : LockAsk) (eff : Nat) (s : State) (put : Lock → State) :
    State × Answer :=
  match lockMove present ask (s.mayWrite (.base .line) eff) with
  | some l => (put l, done)
  | none => (s, refuse .locked)

/-- PROFILE LOCK (R144). -/
def actProfileLock (body : List Byte) : Action := fun eff s =>
  let target := field body 0 1
  match lockAsk (field body 1 1) with
  | none => (s, refuse .range)
  | some ask =>
    match toFin8 target with
    | some e =>
      lockOutcome s.settings.profileLock[e] ask eff s fun l =>
        { s with settings := { s.settings with profileLock := s.settings.profileLock.set e l } }
    | none =>
      if target = 8 then
        lockOutcome s.settings.stationLock ask eff s fun l =>
          { s with settings := { s.settings with stationLock := l } }
      else if target = 9 then
        lockOutcome s.settings.gateLock ask eff s fun l =>
          { s with settings := { s.settings with gateLock := l } }
      else (s, refuse .range)

/-! ## Station record (9.4) -/

/-- STATION READ (R146). -/
def actStationRead : Action := fun _ s => (s, doneWith (stationBytes s))

/-- A component's mean after a station write: unset if the map, its polarity or its trim changed (R11). -/
def meanAfter (changed : Bool) (m : Option Int) : Option Int := if changed then none else m

/-- The DC means after a station write (R11, R147). -/
def meansAfter (old new : Station) (m : Trio (Option Int)) : Trio (Option Int) :=
  let all := old.map != new.map
  ⟨meanAfter (all || old.inverted.z != new.inverted.z || old.trim.z != new.trim.z) m.z,
    meanAfter (all || old.inverted.n != new.inverted.n || old.trim.n != new.trim.n) m.n,
    meanAfter (all || old.inverted.e != new.inverted.e || old.trim.e != new.trim.e) m.e⟩

/-- The items and values that a STATION WRITE body carries (11.3). -/
def stationItems (body : List Byte) : List (Nat × Nat) :=
  if body.length = 5 then [(field body 0 1, field body 1 4)]
  else (List.range 16).zip (fields4 body 0 16)

/-- STATION WRITE (R147), after the level check. -/
def actStationWrite (body : List Byte) : Action := fun eff s =>
  let old := s.settings.station
  let items := stationItems body
  let new := old.putAll items
  if !s.mayWrite s.settings.stationLock eff then (s, refuse .locked)
  else if s.chain.st ≠ .hold then (s, refuse .needsHold)
  else if !items.all fun iv => stationInRange iv.1 iv.2 then (s, refuse .range)
  else if !mapOneToOne new.map then (s, refuse .conflict)
  else ({ s with settings := { s.settings with station := new }, dc := meansAfter old new s.dc }, done)

/-! ## Gates (10.3) -/

/-- A gate number 0..15. -/
def toFin16 (x : Nat) : Option (Fin 16) := if h : x < 16 then some ⟨x, h⟩ else none

/-- GATE READ (R157). -/
def actGateRead (body : List Byte) : Action := fun _ s =>
  match toFin16 (field body 0 1) with
  | none => (s, refuse .range)
  | some k => (s, doneWith (gateReadBytes s k))

/-- One gate replaced. -/
def State.setGate (s : State) (k : Fin 16) (g : Gate) : State :=
  { s with settings := { s.settings with gates := s.settings.gates.set k g } }

/-- GATE WRITE (R158), after the level check. -/
def actGateWrite (body : List Byte) : Action := fun eff s =>
  match toFin16 (field body 0 1) with
  | none => (s, refuse .range)
  | some k =>
    let g := gateOf body
    if 1 < field body 1 1 then (s, refuse .range)
    else if !s.mayWrite s.settings.gateLock eff then (s, refuse .locked)
    else if g.valid && !g.inRange then (s, refuse .range)
    else if g.valid && !g.consistent then (s, refuse .conflict)
    else (s.setGate k g, done)

/-! ## ADJUST (10.4) -/

/-- The profile entry that a gate's target resolves to (R159 check 5). -/
def Gate.resolve (g : Gate) (active : Fin 8) : Fin 8 := (toFin8 g.target).getD active

/-- The target parameter of a gate; a valid gate names one (R158). -/
def Gate.item (g : Gate) : Item := (itemOf g.param).getD (.on .z)

/-- The duration of a trial: 1..the gate's maximum (R161). -/
def Gate.duration (g : Gate) (d : Nat) : Nat := if d < 1 then 1 else if g.dur < d then g.dur else d

/-- The reply of an ADJUST (R159, R174). -/
def adjustReply (clamped : Bool) (e : Fin 8) (v expiry depth : Nat) : Answer where
  status := .done
  clamped := clamped
  data := be 1 e.val ++ be 4 v ++ be 4 expiry ++ be 1 depth

/-- ADJUST in SET mode, its checks passed (R160, R162). -/
def adjustSet (g : Gate) (value : Int) (s : State) : State × Answer :=
  let e := g.resolve s.settings.active
  let v := clampValue g s.settings.profiles[e] g.item value
  let s := discardTrials e (storeValue e g.item v s)
  (s, adjustReply (decide ((v : Int) ≠ value)) e v 0 s.revert.length)

/-- ADJUST in TRY mode at newest sample n, its checks passed (R160, R161). -/
def adjustTry (g : Gate) (value : Int) (dur eff : Nat) (n : Sample) (s : State) : State × Answer :=
  let e := g.resolve s.settings.active
  let p := s.settings.profiles[e]
  let v := clampValue g p g.item value
  let d := g.duration dur
  let t : Trial := ⟨e, g.item, p.get g.item, v, eff, after n d⟩
  let s := storeValue e g.item v { s with revert := t :: s.revert }
  (s, adjustReply (decide ((v : Int) ≠ value) || decide (d ≠ dur)) e v t.expiry.toNat s.revert.length)

/-- ADJUST (R159): its checks in their order, then SET or TRY. -/
def actAdjust (body : List Byte) : Action := fun eff s =>
  let mode := field body 1 1
  let value := fieldInt body 2 4
  match toFin16 (field body 0 1) with
  | none => (s, refuse .range)
  | some k =>
    let g := s.settings.gates[k]
    if 1 < mode then (s, refuse .range)
    else if !g.valid then (s, refuse .notFound)
    else if g.level < eff then (s, refuse .level)
    else if mode = 0 ∧ g.setLevel < eff then (s, refuse .level)
    else if !s.mayWrite s.settings.profileLock[g.resolve s.settings.active] eff then (s, refuse .locked)
    else if mode = 0 then adjustSet g value s
    else if Config.stackCap ≤ s.revert.length then (s, refuse .full)
    else
      match s.newest with
      | none => (s, refuse .state)
      | some n => adjustTry g value (field body 6 3) eff n s

/-! ## REVERT and FLOOR (10.1, 10.5) -/

/-- REVERT (R164). -/
def actRevert : Action := fun eff s =>
  match s.revert with
  | [] => (s, refuse .empty)
  | t :: rest =>
    if t.level < eff then (s, refuse .level)
    else (popTrial t rest s, doneWith (be 1 t.entry.val ++ be 1 t.item.id ++ be 4 t.old ++ be 1 rest.length))

/-- FLOOR (R154): any effective level 0..3 may send it. -/
def actFloor (body : List Byte) : Action := fun _ s =>
  let n := field body 0 1
  if 3 < n then (s, refuse .range)
  else if n < s.floor then (s, refuse .level)
  else ({ s with floor := n }, done)

/-! ## STORE SAVE (9.5) -/

/-- A lock as the image holds it (R149). -/
def Lock.imaged : Lock → BaseLock
  | .base b => b
  | .power b => b

/-- The working profile entries with every trial undone: the oldest old value of each parameter (R149). -/
def untried (ps : Vector Profile 8) (stack : List Trial) : Vector Profile 8 :=
  stack.foldl (fun ps t => ps.set t.entry (ps[t.entry].put t.item t.old)) ps

/-- The image taken at the acceptance of STORE SAVE (R149). -/
def imageOf (s : State) : Image where
  profiles := untried s.settings.profiles s.revert
  profileLock := mapEight (fun _ l => l.imaged) s.settings.profileLock
  station := s.settings.station
  stationLock := s.settings.stationLock.imaged
  gates := s.settings.gates
  gateLock := s.settings.gateLock.imaged

/-- STORE SAVE (R148, R150 step 1). -/
def actStoreSave : Action := fun _ s =>
  match s.store.writing with
  | some _ => (s, refuse .busy)
  | none => ({ s with store := { s.store with mark := false, writing := some (imageOf s) } }, done)

end Sys2Proof.Machine
end

