-- ==== Sys2Proof/Machine/SlotRequests.lean ====
section
/-! DEFINITION. The requests of chapter 4: SLOT CLOSE and SLOT FORCE. -/

namespace Sys2Proof.Machine

/-- The reply data of SLOT CLOSE and SLOT FORCE (R174). -/
def slotReply (i : Fin 8) (close : Sample) : Answer := doneWith (be 1 i.val ++ be 4 close.toNat)

/-- The close sample that SLOT CLOSE moves an OPEN slot to inside its minimum window (R65). -/
def Slot.deferredClose (x : Slot) : Sample := earlier x.close (after x.trigger (x.params.lmin - 1))

/-- The elapsed count of an OPEN slot at newest sample n (R65). -/
def Slot.elapsed (x : Slot) (n : Sample) : Int := distance x.trigger n + 1

/-- SLOT CLOSE on OPEN slot i at newest sample n (R65). -/
def hostClose (n : Sample) (i : Fin 8) (s : State) : State × Answer :=
  let x := s.slot i
  if (x.params.lmin : Int) ≤ x.elapsed n then
    (closeSlot n { truncated := x.shortOf n } i s, slotReply i n)
  else (s.setSlot i { x with close := x.deferredClose }, slotReply i x.deferredClose)

/-- SLOT CLOSE (R65). An OPEN slot exists only after a first frame, so the newest sample exists. -/
def actSlotClose (body : List Byte) : Action := fun _ s =>
  match toFin8 (field body 0 1) with
  | none => (s, refuse .range)
  | some i =>
    if (s.slot i).st = .opened then hostClose (s.newest.getD (s.slot i).trigger) i s
    else (s, refuse .state)

/-- The oldest sample that SLOT FORCE takes (R75). -/
def lateBound (p : Profile) (newest : Sample) : Sample := before newest (Config.ringCap - p.lw - p.lb)

/-- The slot that SLOT FORCE opens (R76). -/
def forcedSlot (s : State) (n : Sample) : Slot :=
  openSlot s .forced n (effLta (s.params .z) s.det.z) (ratioOf (s.params .z) s.det.z) 0 s.det.z.forced

/-- SLOT FORCE opens slot i, which closes at once when its close sample is not newer than the newest (R76). -/
def forceSlot (n newest : Sample) (i : Fin 8) (s : State) : State × Answer :=
  let x := forcedSlot s n
  let s := s.setSlot i x
  (if distance newest x.close ≤ 0 then closeSlot x.close {} i s else s, slotReply i x.close)

/-- SLOT FORCE (R75). An n exactly 2^31 from the newest sample lies at no meaningful distance (0.5.2); it is read as older,
passes the check for RANGE and is answered LATE (DESIGN CHOICE, log 24). -/
def actSlotForce (body : List Byte) : Action := fun _ s =>
  let n : Sample := BitVec.ofNat 32 (field body 0 4)
  match s.chain.st, s.newest with
  | .run, some newest =>
    if 0 < distance newest n then (s, refuse .range)
    else if 0 < distance n (lateBound s.active newest) then (s, refuse .late)
    else
      match s.freeSlot? with
      | none => (s, refuse .full)
      | some i => forceSlot n newest i s
  | _, _ => (s, refuse .needsRun)

end Sys2Proof.Machine
end

