-- ==== Sys2Proof/Machine/SnapshotRequests.lean ====
section
/-! DEFINITION. The snapshot requests (2.6) and TIME LABEL (R116). -/

namespace Sys2Proof.Machine

/-- SNAPSHOT TAKE (R37): any contents are discarded at once. -/
def actTake : Action := fun _ s =>
  ({ s with chain := { s.chain with expSt := .pending, expBuf := blankSnapshot } }, done)

/-- SNAPSHOT READ (R38, R173). -/
def actSnapshotRead (body : List Byte) : Action := fun _ s =>
  let k := field body 0 1
  if k = 0 ∨ 7 < k then (s, refuse .range)
  else
    match s.chain.expSt with
    | .ready => (s, doneWith (be 1 k ++ s.chain.expBuf.bytes k))
    | _ => (s, refuse .empty)

/-- Record 1 taken into an import buffer, if it passes R40. -/
def importHeader (r : List Byte) (sn : Snapshot) : Option Snapshot :=
  match mapOf (field r 2 1) with
  | some m => if (headerOf r m).legal then some { sn with header := headerOf r m } else none
  | none => none

/-- A DC mean taken into an import buffer, if it passes R40. -/
def importMean (m : Int) (put : Int → Trio Int) (sn : Snapshot) : Option Snapshot :=
  if meanLegal m then some { sn with mean := put m } else none

/-- A detector's averages taken into an import buffer, if they pass R40 under the import's own CF scale. -/
def importAverages (w : Det) (r : List Byte) (sn : Snapshot) : Option Snapshot :=
  let a : Averages := ⟨field r 0 8, field r 8 8⟩
  if a.sta ≤ avgBound w sn.header.cf ∧ a.lta ≤ avgBound w sn.header.cf then
    some { sn with avg := sn.avg.set w a }
  else none

/-- Import record k taken into the buffer at its place, if it passes R40. -/
def importRecord (k : Nat) (r : List Byte) (sn : Snapshot) : Option Snapshot :=
  match k with
  | 1 => importHeader r sn
  | 2 => importMean (fieldInt r 0 4) (fun m => { sn.mean with z := m }) sn
  | 3 => importMean (fieldInt r 0 4) (fun m => { sn.mean with n := m }) sn
  | 4 => importMean (fieldInt r 0 4) (fun m => { sn.mean with e := m }) sn
  | 5 => importAverages .z r sn
  | 6 => importAverages .h r sn
  | 7 => if field r 0 1 = 7 then some { sn with count := 7, sample := BitVec.ofNat 32 (field r 1 4) } else none
  | _ => none

/-- The record that an import expects next (R39). -/
def ImportState.next : ImportState → Nat
  | .importing j => j + 1
  | _ => 1

/-- The import becomes INVALID. -/
def badImport (s : State) : State := { s with chain := { s.chain with impSt := .invalid } }

/-- What record k finds in the import buffer: record 1 starts a new import, and the earlier contents are discarded
before its header is checked (R39). -/
def importInto (k : Nat) (held : Snapshot) : Snapshot := if k = 1 then blankSnapshot else held

/-- The import buffer as record k finds it (R39). -/
def startImport (k : Nat) (s : State) : State :=
  { s with chain := { s.chain with impBuf := importInto k s.chain.impBuf } }

/-- The import state after record k has been taken (R39). -/
def importedTo (k : Nat) : ImportState := if k = 7 then .valid else .importing k

/-- SNAPSHOT WRITE (R39): in HOLD a record is taken, out of turn, out of range, or fails R40. -/
def actSnapshotWrite (body : List Byte) : Action := fun _ s =>
  let k := field body 0 1
  if s.chain.st ≠ .hold then (s, refuse .needsHold)
  else if k = 0 ∨ 7 < k then (badImport s, refuse .range)
  else if k ≠ 1 ∧ k ≠ s.chain.impSt.next then (badImport s, refuse .conflict)
  else
    let s := startImport k s
    match importRecord k (slice body 1 16) s.chain.impBuf with
    | some sn => ({ s with chain := { s.chain with impSt := importedTo k, impBuf := sn } }, done)
    | none => (badImport s, refuse .range)

/-- TIME LABEL (R116). -/
def actTimeLabel (body : List Byte) : Action := fun _ s =>
  let l := field body 0 6
  if Config.labelMod ≤ l then (s, refuse .range)
  else ({ s with time := { s.time with pendLabel := some l } }, done)

end Sys2Proof.Machine
end

