-- ==== Sys2Proof/Machine/Port.lean ====
section
/-! DEFINITION. The Control Port's receiver and the dispatch of a received frame by its kind (R166 to R169,
R171). -/

namespace Sys2Proof.Machine

/-- A kind's row of the catalogue: the body lengths it allows and the request's own checks and effect (R171). -/
def catalogue (kind : Nat) (body : List Byte) : Option (List Nat × Action) :=
  match kind with
  | 0x01 => some ([0], needLevel 3 actStatus)
  | 0x02 => some ([1], needLevel 1 (actCollect body))
  | 0x03 => some ([0], needLevel 1 actHold)
  | 0x04 => some ([1], needLevel 1 (actRun body))
  | 0x05 => some ([2], needLevel 2 (actBlank body))
  | 0x06 => some ([1], needLevel 1 (actSlotClose body))
  | 0x07 => some ([4], needLevel 2 (actSlotForce body))
  | 0x08 => some ([1], needLevel 3 (actProfileRead body))
  | 0x09 => some ([6, 133], actProfileWrite body)
  | 0x0A => some ([1], needLevel 1 (actProfileSelect body))
  | 0x0B => some ([2], needLevel 0 (actProfileLock body))
  | 0x0C => some ([0], needLevel 3 actStationRead)
  | 0x0D => some ([5, 64], needLevel 0 (actStationWrite body))
  | 0x0E => some ([1], needLevel 3 (actGateRead body))
  | 0x0F => some ([17], needLevel 0 (actGateWrite body))
  | 0x10 => some ([9], actAdjust body)
  | 0x11 => some ([0], actRevert)
  | 0x12 => some ([1], actFloor body)
  | 0x13 => some ([6], needLevel 0 (actTimeLabel body))
  | 0x14 => some ([0], needLevel 1 actTake)
  | 0x15 => some ([1], needLevel 1 (actSnapshotRead body))
  | 0x16 => some ([17], needLevel 0 (actSnapshotWrite body))
  | 0x17 => some ([0], needLevel 0 actStoreSave)
  | 0x18 => some ([0], needLevel 0 actReset)
  | _ => none

/-- The answer to a kind that is not in the catalogue (R169 step 2). -/
def actUnknown : Action := fun _ s => (s, refuse .unknownKind)

/-- A complete, correct frame of any kind is handed to the port (R167, R168, R169). -/
def takeFrame (kind : Byte) (r : Req) (body : List Byte) (s : State) : State :=
  match catalogue kind.toNat body with
  | some (lens, act) => request kind r lens body act s
  | none => request kind r [body.length] body actUnknown s

/-- The CRC of a control frame with `len` body bytes, over length, level, kind, tag and body (R166). -/
def controlCheck (buf : List Byte) (len : Nat) : Bool := crc16 (slice buf 2 (4 + len)) == field buf (6 + len) 2

/-- The level and tag of a received frame, and PROTECT as it stands (R166). -/
def frameReq (buf : List Byte) (protect : Bool) : Req :=
  ⟨BitVec.ofNat 8 (field buf 3 1), BitVec.ofNat 8 (field buf 5 1), protect⟩

/-- The receiver's bytes replaced. -/
def setRx (rx : List Byte) (s : State) : State := { s with port := { s.port with rx := rx } }

/-- The receiver (R166, R167): search for the sync pair, read the length byte and the rest of the frame, discard
it or hand it over. After a discard for length or CRC the search resumes at the byte after the frame's sync. A complete
frame found by that search counts as completed at the discard, not when its last CRC byte was received: whether a request
is in progress is judged, and `protect` sampled, at the discard (R143, R168; DESIGN CHOICE, unsafe, log 31). -/
def portLoop (protect : Bool) : Nat → State → State
  | 0, s => s
  | fuel + 1, s =>
    let buf := syncSearch 0xC3 0x3C s.port.rx
    let len := field buf 2 1
    if buf.length < 3 then setRx buf s
    else if 240 < len then portLoop protect fuel (countDiscard (setRx (buf.drop 2) s))
    else if buf.length < 8 + len then setRx buf s
    else if controlCheck buf len then
      portLoop protect fuel
        (takeFrame (BitVec.ofNat 8 (field buf 4 1)) (frameReq buf protect) (slice buf 6 len)
          (setRx (buf.drop (8 + len)) s))
    else portLoop protect fuel (countDiscard (setRx (buf.drop 2) s))

/-- A silence stands behind a first sync byte, or no longer does (R167). -/
def setCut (cut : Bool) (s : State) : State := { s with port := { s.port with cut := cut } }

/-- Bytes join those held. Where a silence stands behind a first sync byte, the next byte says whether that byte began a
frame: if it completes the pair, the silence fell inside that frame, which is discarded and counted, and the search resumes
after its sync; otherwise the byte is skipped (R166, R167; log 11). -/
def hear (bs : List Byte) (s : State) : State :=
  let rx := s.port.rx ++ bs
  match s.port.cut, rx with
  | true, b :: rest => if b = 0x3C then countDiscard (setRx rest (setCut false s)) else setRx rx (setCut false s)
  | _, _ => setRx rx s

/-- Bytes arrive at the control port. -/
def portBytes (protect : Bool) (bs : List Byte) (s : State) : State :=
  let s := hear bs s
  portLoop protect (s.port.rx.length + 1) s

/-- A silence falls behind a lone first sync byte (R167). -/
def cutSync (s : State) : State := if s.port.rx = [0xC3] then setRx [] (setCut true s) else s

/-- A silence longer than 20 character times: a frame being received is discarded and counted, and the search
resumes at the byte after its sync; a frame found there and still incomplete holds the same silence (R167), and so does
a lone first sync byte (log 11). A complete frame found by the resumed search counts as completed at this silence: busy is
judged, PROTECT sampled and the request taken now (R143, R168 leave it open; DESIGN CHOICE, unsafe, log 31). -/
def abandonLoop (protect : Bool) : Nat → State → State
  | 0, s => s
  | fuel + 1, s =>
    if 2 ≤ s.port.rx.length then
      abandonLoop protect fuel (portBytes protect [] (countDiscard (setRx (s.port.rx.drop 2) s)))
    else cutSync s

/-! ## Request rows -/

/-- The bytes of a request frame with a good CRC (R166). -/
def requestBytes (kind : Byte) (r : Req) (body : List Byte) : List Byte :=
  let mid := be 1 body.length ++ [r.level, kind, r.tag] ++ body
  [0xC3, 0x3C] ++ mid ++ be 2 (crc16 mid)

/-- Is the receiver searching, so that a whole frame that comes next is received as one? It holds at most one byte, which
that frame's own sync shows to have begun none (R167). -/
def Port.searching (p : Port) : Bool :=
  match p.rx, p.cut with
  | [], _ => true
  | [_], false => true
  | _, _ => false

/-- The receiver with nothing held. -/
def listen (s : State) : State := setRx [] (setCut false s)

/-- A request row: a request frame's bytes reach the receiver one behind another. A receiver that is searching takes the
frame and holds nothing behind it; one inside a frame takes the bytes as that frame's (R166, R167; log 11). -/
def requestRow (kind : Byte) (r : Req) (body : List Byte) (s : State) : State :=
  if s.power then
    if s.port.searching then takeFrame kind r body (listen s)
    else portBytes r.protect (requestBytes kind r body) s
  else s

/-! ## Meanings -/

/-- CONTROL_FRAME_DISCARD (R167): bytes reach the receiver; what they discard, and any correct frame found among
them, is handled as they come. -/
def execControlFrameDiscard (bytes : List Byte) (protect : Bool) (s : State) :
    Host.Outcome State Fault Refusal :=
  .next (if s.power then portBytes protect bytes s else s)

/-- CONTROL_FRAME_ABANDONED (R167). -/
def execControlFrameAbandoned (protect : Bool) (s : State) : Host.Outcome State Fault Refusal :=
  .next (if s.power then abandonLoop protect (s.port.rx.length + 1) s else s)

end Sys2Proof.Machine
end

