-- ==== Sys2Proof/Machine/RequestRows.lean ====
section
/-! DEFINITION. The meanings of the request rows (R171): each is its frame's arrival at the receiver, dispatched by its kind
to the checks and the action that the catalogue of Port names. -/

namespace Sys2Proof.Machine

/-- STATUS (R170), required level 3. -/
def execStatus (r : Req) (body : List Byte) (s : State) : Host.Outcome State Fault Refusal :=
  .next (requestRow 0x01 r body s)

/-- COLLECT (R133), required level 1. -/
def execCollect (r : Req) (body : List Byte) (s : State) : Host.Outcome State Fault Refusal :=
  .next (requestRow 0x02 r body s)

/-- CHAIN HOLD (R46), required level 1. -/
def execChainHold (r : Req) (body : List Byte) (s : State) : Host.Outcome State Fault Refusal :=
  .next (requestRow 0x03 r body s)

/-- CHAIN RUN, row CHAIN_RUN_LEARN (R45), required level 1; the body's mode byte says LEARN. -/
def execChainRunLearn (r : Req) (body : List Byte) (s : State) : Host.Outcome State Fault Refusal :=
  .next (requestRow 0x04 r body s)

/-- CHAIN RUN, row CHAIN_RUN_RESTORE (R36, R45), required level 1; the body's mode byte says RESTORE. -/
def execChainRunRestore (r : Req) (body : List Byte) (s : State) : Host.Outcome State Fault Refusal :=
  .next (requestRow 0x04 r body s)

/-- CHAIN RUN, row CHAIN_RUN_IMMEDIATE (R35, R45), required level 1; the body's mode byte says IMMEDIATE. -/
def execChainRunImmediate (r : Req) (body : List Byte) (s : State) : Host.Outcome State Fault Refusal :=
  .next (requestRow 0x04 r body s)

/-- BLANK (R54), required level 2. -/
def execBlank (r : Req) (body : List Byte) (s : State) : Host.Outcome State Fault Refusal :=
  .next (requestRow 0x05 r body s)

/-- SLOT CLOSE (R65), required level 1. -/
def execSlotClose (r : Req) (body : List Byte) (s : State) : Host.Outcome State Fault Refusal :=
  .next (requestRow 0x06 r body s)

/-- SLOT FORCE (R75, R76), required level 2. -/
def execSlotForce (r : Req) (body : List Byte) (s : State) : Host.Outcome State Fault Refusal :=
  .next (requestRow 0x07 r body s)

/-- PROFILE READ (R139), required level 3. -/
def execProfileRead (r : Req) (body : List Byte) (s : State) : Host.Outcome State Fault Refusal :=
  .next (requestRow 0x08 r body s)

/-- PROFILE WRITE (R140, R141), its required level by the entry and the items written. -/
def execProfileWrite (r : Req) (body : List Byte) (s : State) : Host.Outcome State Fault Refusal :=
  .next (requestRow 0x09 r body s)

/-- PROFILE SELECT (R142), required level 1. -/
def execProfileSelect (r : Req) (body : List Byte) (s : State) : Host.Outcome State Fault Refusal :=
  .next (requestRow 0x0A r body s)

/-- PROFILE LOCK (R144), required level 0. -/
def execProfileLock (r : Req) (body : List Byte) (s : State) : Host.Outcome State Fault Refusal :=
  .next (requestRow 0x0B r body s)

/-- STATION READ (R146), required level 3. -/
def execStationRead (r : Req) (body : List Byte) (s : State) : Host.Outcome State Fault Refusal :=
  .next (requestRow 0x0C r body s)

/-- STATION WRITE (R147), required level 0. -/
def execStationWrite (r : Req) (body : List Byte) (s : State) : Host.Outcome State Fault Refusal :=
  .next (requestRow 0x0D r body s)

/-- GATE READ (R157), required level 3. -/
def execGateRead (r : Req) (body : List Byte) (s : State) : Host.Outcome State Fault Refusal :=
  .next (requestRow 0x0E r body s)

/-- GATE WRITE (R158), required level 0. -/
def execGateWrite (r : Req) (body : List Byte) (s : State) : Host.Outcome State Fault Refusal :=
  .next (requestRow 0x0F r body s)

/-- ADJUST, row ADJUST_SET (R159, R162); the body's mode byte says SET. -/
def execAdjustSet (r : Req) (body : List Byte) (s : State) : Host.Outcome State Fault Refusal :=
  .next (requestRow 0x10 r body s)

/-- ADJUST, row ADJUST_TRY (R159, R161); the body's mode byte says TRY. -/
def execAdjustTry (r : Req) (body : List Byte) (s : State) : Host.Outcome State Fault Refusal :=
  .next (requestRow 0x10 r body s)

/-- REVERT (R164), judged against the top stack entry. -/
def execRevert (r : Req) (body : List Byte) (s : State) : Host.Outcome State Fault Refusal :=
  .next (requestRow 0x11 r body s)

/-- FLOOR (R154). -/
def execFloor (r : Req) (body : List Byte) (s : State) : Host.Outcome State Fault Refusal :=
  .next (requestRow 0x12 r body s)

/-- TIME LABEL (R116), required level 0. -/
def execTimeLabel (r : Req) (body : List Byte) (s : State) : Host.Outcome State Fault Refusal :=
  .next (requestRow 0x13 r body s)

/-- SNAPSHOT TAKE (R37), required level 1. -/
def execSnapshotTake (r : Req) (body : List Byte) (s : State) : Host.Outcome State Fault Refusal :=
  .next (requestRow 0x14 r body s)

/-- SNAPSHOT READ (R38), required level 1. -/
def execSnapshotRead (r : Req) (body : List Byte) (s : State) : Host.Outcome State Fault Refusal :=
  .next (requestRow 0x15 r body s)

/-- SNAPSHOT WRITE (R39), required level 0. -/
def execSnapshotWrite (r : Req) (body : List Byte) (s : State) : Host.Outcome State Fault Refusal :=
  .next (requestRow 0x16 r body s)

/-- STORE SAVE (R148), required level 0. -/
def execStoreSave (r : Req) (body : List Byte) (s : State) : Host.Outcome State Fault Refusal :=
  .next (requestRow 0x17 r body s)

/-- RESET (R172), required level 0. -/
def execReset (r : Req) (body : List Byte) (s : State) : Host.Outcome State Fault Refusal :=
  .next (requestRow 0x18 r body s)

/-- UNKNOWN_KIND (R169): a frame whose kind is not in the catalogue. -/
def execUnknownKind (r : Req) (kind : Byte) (body : List Byte) (s : State) : Host.Outcome State Fault Refusal :=
  .next (requestRow kind r body s)

end Sys2Proof.Machine
end

