-- ==== Sys2Proof/Machine/Dispatch.lean ====
section
/-! DEFINITION. The dispatch of a command to its meaning: one arm per constructor of Instr. -/

namespace Sys2Proof.Machine

def exec (i : Instr) (s : State) : Host.Outcome State Fault Refusal :=
  match i with
  | .sampleFrame bytes tick => Sys2Proof.Machine.execSampleFrame bytes tick s
  | .warmupCompletion => Sys2Proof.Machine.execWarmupCompletion s
  | .autoClose w => Sys2Proof.Machine.execAutoClose w s
  | .blankingEnd => Sys2Proof.Machine.execBlankingEnd s
  | .warmupPauseEnd => Sys2Proof.Machine.execWarmupPauseEnd s
  | .entryExpiry => Sys2Proof.Machine.execEntryExpiry s
  | .trialExpiry => Sys2Proof.Machine.execTrialExpiry s
  | .linkLoss => Sys2Proof.Machine.execLinkLoss s
  | .pulseEdge tick => Sys2Proof.Machine.execPulseEdge tick s
  | .missingPulse => Sys2Proof.Machine.execMissingPulse s
  | .onsetSearch => Sys2Proof.Machine.execOnsetSearch s
  | .polarization => Sys2Proof.Machine.execPolarization s
  | .peaksAndCounts => Sys2Proof.Machine.execPeaksAndCounts s
  | .refinementCompletion => Sys2Proof.Machine.execRefinementCompletion s
  | .pickAdmission => Sys2Proof.Machine.execPickAdmission s
  | .noticeAdmission => Sys2Proof.Machine.execNoticeAdmission s
  | .storeSaveCompletion => Sys2Proof.Machine.execStoreSaveCompletion s
  | .powerOn straps => Sys2Proof.Machine.execPowerOn straps s
  | .resetLine low straps => Sys2Proof.Machine.execResetLine low straps s
  | .resetTakesEffect => Sys2Proof.Machine.execResetTakesEffect s
  | .controlFrameDiscard bytes protect => Sys2Proof.Machine.execControlFrameDiscard bytes protect s
  | .controlFrameAbandoned protect => Sys2Proof.Machine.execControlFrameAbandoned protect s
  | .replyComplete => Sys2Proof.Machine.execReplyComplete s
  | .unknownKind r kind body => Sys2Proof.Machine.execUnknownKind r kind body s
  | .status r body => Sys2Proof.Machine.execStatus r body s
  | .collect r body => Sys2Proof.Machine.execCollect r body s
  | .chainHold r body => Sys2Proof.Machine.execChainHold r body s
  | .chainRunLearn r body => Sys2Proof.Machine.execChainRunLearn r body s
  | .chainRunRestore r body => Sys2Proof.Machine.execChainRunRestore r body s
  | .chainRunImmediate r body => Sys2Proof.Machine.execChainRunImmediate r body s
  | .blank r body => Sys2Proof.Machine.execBlank r body s
  | .slotClose r body => Sys2Proof.Machine.execSlotClose r body s
  | .slotForce r body => Sys2Proof.Machine.execSlotForce r body s
  | .profileRead r body => Sys2Proof.Machine.execProfileRead r body s
  | .profileWrite r body => Sys2Proof.Machine.execProfileWrite r body s
  | .profileSelect r body => Sys2Proof.Machine.execProfileSelect r body s
  | .profileLock r body => Sys2Proof.Machine.execProfileLock r body s
  | .stationRead r body => Sys2Proof.Machine.execStationRead r body s
  | .stationWrite r body => Sys2Proof.Machine.execStationWrite r body s
  | .gateRead r body => Sys2Proof.Machine.execGateRead r body s
  | .gateWrite r body => Sys2Proof.Machine.execGateWrite r body s
  | .adjustSet r body => Sys2Proof.Machine.execAdjustSet r body s
  | .adjustTry r body => Sys2Proof.Machine.execAdjustTry r body s
  | .revert r body => Sys2Proof.Machine.execRevert r body s
  | .floor r body => Sys2Proof.Machine.execFloor r body s
  | .timeLabel r body => Sys2Proof.Machine.execTimeLabel r body s
  | .snapshotTake r body => Sys2Proof.Machine.execSnapshotTake r body s
  | .snapshotRead r body => Sys2Proof.Machine.execSnapshotRead r body s
  | .snapshotWrite r body => Sys2Proof.Machine.execSnapshotWrite r body s
  | .storeSave r body => Sys2Proof.Machine.execStoreSave r body s
  | .reset r body => Sys2Proof.Machine.execReset r body s
  | .powerLoss => Sys2Proof.Machine.execPowerLoss s

end Sys2Proof.Machine
end

