-- ==== Sys2Proof/Safety.lean ====
section
/-! DEFINITION. The terms that claims about the ND-3P are stated in: what a request's reply is, which request
frame a row stands for, and the invariants of each block, as decidable propositions over a state. -/

namespace Sys2Proof.Machine

/-! ## Requests -/

/-- The part is powered, no request is in progress and the receiver is inside no frame: the port takes the next complete
frame (R167, R168). -/
abbrev State.portFree (s : State) : Prop := s.power = true ∧ s.port.busy = none ∧ s.port.searching = true

/-- A request of originator level 0..3 reaches a free port and passes required level n (R153, R156). -/
abbrev State.takes (s : State) (r : Req) (n : Nat) : Prop :=
  s.portFree ∧ r.level.toNat ≤ 3 ∧ max r.level.toNat s.floor ≤ n

/-- State t with PROTECT as the request sampled it, nothing held by the receiver behind the request's frame, and the
request's reply in progress; the effective level is the one computed in state s (R143, R153, R167 to R169). -/
def replied (s t : State) (r : Req) (kind : Byte) (st : Status) (clamped : Bool) (data : List Byte) : State :=
  ((listen t).sampled r.protect).replying ⟨max r.level.toNat s.floor, kind + 0x80, r.tag, st, clamped, data⟩

/-- A reply without data: every refusal, and DONE where nothing is to be said. -/
def answered (s t : State) (r : Req) (kind : Byte) (st : Status) : State := replied s t r kind st false []

/-- The request frame that a row stands for: its kind code (R171), level, tag, PROTECT and body; none for a row
that is an event. -/
def requestOf : Instr → Option (Byte × Req × List Byte)
  | .status r b => some (0x01, r, b)
  | .collect r b => some (0x02, r, b)
  | .chainHold r b => some (0x03, r, b)
  | .chainRunLearn r b => some (0x04, r, b)
  | .chainRunRestore r b => some (0x04, r, b)
  | .chainRunImmediate r b => some (0x04, r, b)
  | .blank r b => some (0x05, r, b)
  | .slotClose r b => some (0x06, r, b)
  | .slotForce r b => some (0x07, r, b)
  | .profileRead r b => some (0x08, r, b)
  | .profileWrite r b => some (0x09, r, b)
  | .profileSelect r b => some (0x0A, r, b)
  | .profileLock r b => some (0x0B, r, b)
  | .stationRead r b => some (0x0C, r, b)
  | .stationWrite r b => some (0x0D, r, b)
  | .gateRead r b => some (0x0E, r, b)
  | .gateWrite r b => some (0x0F, r, b)
  | .adjustSet r b => some (0x10, r, b)
  | .adjustTry r b => some (0x10, r, b)
  | .revert r b => some (0x11, r, b)
  | .floor r b => some (0x12, r, b)
  | .timeLabel r b => some (0x13, r, b)
  | .snapshotTake r b => some (0x14, r, b)
  | .snapshotRead r b => some (0x15, r, b)
  | .snapshotWrite r b => some (0x16, r, b)
  | .storeSave r b => some (0x17, r, b)
  | .reset r b => some (0x18, r, b)
  | .unknownKind r k b => some (k, r, b)
  | _ => none

/-- The body lengths that the catalogue allows a kind 0x01..0x18 (R171). -/
def allowedLengths : Nat → List Nat
  | 0x02 => [1]
  | 0x04 => [1]
  | 0x05 => [2]
  | 0x06 => [1]
  | 0x07 => [4]
  | 0x08 => [1]
  | 0x09 => [6, 133]
  | 0x0A => [1]
  | 0x0B => [2]
  | 0x0D => [5, 64]
  | 0x0E => [1]
  | 0x0F => [17]
  | 0x10 => [9]
  | 0x12 => [1]
  | 0x13 => [6]
  | 0x15 => [1]
  | 0x16 => [17]
  | _ => [0]

/-- The fixed required level of a kind 0x01..0x18 (R156); none where it depends on an object, and for FLOOR, which any
level 0..3 may send. -/
def requiredLevel : Nat → Option Nat
  | 0x01 => some 3
  | 0x02 => some 1
  | 0x03 => some 1
  | 0x04 => some 1
  | 0x05 => some 2
  | 0x06 => some 1
  | 0x07 => some 2
  | 0x08 => some 3
  | 0x0A => some 1
  | 0x0B => some 0
  | 0x0C => some 3
  | 0x0D => some 0
  | 0x0E => some 3
  | 0x0F => some 0
  | 0x13 => some 0
  | 0x14 => some 1
  | 0x15 => some 1
  | 0x16 => some 0
  | 0x17 => some 0
  | 0x18 => some 0
  | _ => none

/-- Nothing waits for the Report Queue: no slot is DONE and no notice is pending (R127). -/
abbrev State.nothingWaits (s : State) : Prop :=
  (∀ i : Fin 8, (s.slot i).st ≠ .done) ∧ ∀ k : Fin 8, s.reports.notices[k] = none

/-- State t is s after admissions to the Report Queue: only the queue with its counters and notices, the
Association Table and the slots differ, and a slot differs only by having gone from DONE to FREE (R128 to R130). -/
def admitted (s t : State) : Prop :=
  t = { s with reports := t.reports, assoc := t.assoc, table := { s.table with slots := t.table.slots } } ∧
  ∀ i : Fin 8, t.slot i = s.slot i ∨ ((s.slot i).st = .done ∧ t.slot i = freeSlot)

/-- State s with a first notice of data d raised and admitted in the same event (R128, R130, R131). -/
def reported (d : NoticeData) (s : State) : State :=
  { s with reports := { s.reports with
    queue := s.reports.queue ++ [.notice ⟨1, s.newest, d⟩]
    waiting := s.reports.waiting + 1
    blocked := false } }

/-- A detector that has gone to OFF: averages, learn sum and pending lost-trigger count kept (R50). -/
def offDetector (d : Detector) : Detector :=
  { d with st := .off, blkSum := 0, blkCount := 0, owed := 0, forced := false }

/-- A detector set up for LEARN (R32). -/
def learnDetector (d : Detector) : Detector :=
  { d with st := .warming, sta := 0, lta := 0, learn := 0, blkSum := 0, blkCount := 0, owed := 0, forced := false }

/-- A detector that has made the entry test with the parameters p (R51). -/
def entryTested (p : DetParams) (d : Detector) : Detector :=
  { d with
    owed := 0
    forced := false
    st := if p.on * max d.lta (max (256 * p.floor) 1) ≤ 16 * d.sta then .triggered else .quiet }

/-- The import state once the chain has left HOLD (R41). -/
def importLeft : ImportState → ImportState
  | .importing _ => .invalid
  | x => x

/-- An OPEN slot that has closed, its state apart: its close sample and flags are as given, its pin where the ring
of state s places it; the rest stands (R19, R69). -/
def closedAs (s : State) (x y : Slot) (close : Sample) (f : Flags) : Prop :=
  let pin := placePin s.ring (before x.trigger x.params.lb)
  y = { x with
    st := y.st
    close := close
    pin := some pin.1
    flags := (x.flags.union f).union { historyShort := pin.2 } }

/-- State t is s after the slots of `order` have closed one after another: each enters CLOSED with its close sample
and flags, leaves its detector's record of the most recent opening, and joins the refinement queue's tail; an idle
Refinement Unit, with nothing waiting before, has taken the first of them (R61, R69, R71, R80, R82). Nothing else
differs. -/
def closes (s t : State) (order : List (Fin 8)) (close : Fin 8 → Sample) (f : Fin 8 → Flags) : Prop :=
  t = { s with
    unit := t.unit
    table := { s.table with slots := t.table.slots, queue := t.table.queue, recent := t.table.recent } } ∧
  (∀ i : Fin 8, i ∉ order → t.slot i = s.slot i) ∧
  (∀ i ∈ order, closedAs s (s.slot i) (t.slot i) (close i) (f i)) ∧
  (∀ w : Det, t.table.recent.get w = (s.table.recent.get w).filter fun x => !order.contains x.1) ∧
  match s.unit with
  | some _ => t.unit = s.unit ∧ t.table.queue = s.table.queue ++ order ∧ ∀ i ∈ order, (t.slot i).st = .closed
  | none =>
    t.unit = order.head?.map (fun i => ⟨i, s.active.cf, forcedOnset (s.slot i), none, none⟩) ∧
    t.table.queue = order.tail ∧
    ∀ i ∈ order, (t.slot i).st = if order.head? = some i then .refining else .closed

/-- A detector that blanking has taken out of QUIET or TRIGGERED (R28, R55). -/
def blankedDetector (d : Detector) : Detector :=
  match d.st with
  | .quiet => { d with st := .blanked }
  | .triggered => { d with st := .blanked, owed := 0, forced := false }
  | _ => d

/-- No local-clock timer is due before tick t, and the clock has not passed t. -/
abbrev State.quietUntil (s : State) (t : Nat) : Prop :=
  s.clock ≤ t ∧ s.silenceDue.all (fun d => decide (t ≤ d)) = true ∧ s.time.timer.all (fun d => decide (t ≤ d)) = true

/-- Command c at s does what it does once the event `row` has been taken at state `was`. -/
def runsAfter (row c : Instr) (was s : State) : Prop := ∃ v, exec row was = .next v ∧ exec c s = exec c v

/-- A command c of tick t finds the local-clock timers that were due before t expired, the one of the earlier tick first,
each by its own row; two of one tick in an order that a free value leaves open (R6, R115; log 3, log 5). -/
def timersFirst (c : Instr) (t : Nat) (s : State) : Prop :=
  let drawn := { s with choices := s.choices + 1 }
  (∀ b : Nat, s.time.timer = some b → b < t → (∀ a : Nat, s.silenceDue = some a → b < a) →
    runsAfter .missingPulse c s s) ∧
  (∀ a : Nat, s.silenceDue = some a → a < t → (∀ b : Nat, s.time.timer = some b → a < b) →
    runsAfter .linkLoss c s s) ∧
  ∀ a : Nat, s.silenceDue = some a → s.time.timer = some a → a < t →
    runsAfter .missingPulse c drawn s ∨ runsAfter .linkLoss c drawn s

/-- A raw frame whose three samples are 24-bit numbers, as a sample frame carries them (R173). -/
abbrev RawFrame.in24 (f : RawFrame) : Prop :=
  (-8388608 ≤ f.a ∧ f.a ≤ 8388607) ∧ (-8388608 ≤ f.b ∧ f.b ≤ 8388607) ∧ (-8388608 ≤ f.c ∧ f.c ≤ 8388607)

/-- State t is s after the raw frame f has been conditioned, written into the ring, and handed to every recipient once: the
ring's write, with the pins that a full ring advances, comes before all of them; the others stand in some order, the Chain
Controller's last act behind both detectors and the recentre flag (R16, R18, R33, R57, R58; log 3, and log 29 for the Slot
Table's acts). -/
def handedOn (s t : State) (f : RawFrame) (filled : Bool) : Prop :=
  let c := conditioned s f filled
  let full : Bool := decide (16384 ≤ s.ring.length)
  let ring := (if full then s.ring.drop 1 else s.ring) ++ [⟨f.seq, c.1.d, c.1.clip, filled⟩]
  let advanced (x : Slot) : Slot :=
    match x.pin, ring.head? with
    | some q, some o =>
      if 0 < distance q o.n then { x with pin := some o.n, flags := { x.flags with historyShort := true } } else x
    | _, _ => x
  let start (drawn : Nat) : State := { (if full then s.mapSlots fun _ x => advanced x else s) with
    newest := some f.seq, dc := c.2, ring := ring, due := ⟨false, true, true⟩, choices := s.choices + drawn }
  ∃ (order ahead behind : List Recipient) (drawn : Nat),
    order.Perm [.detector .z, .detector .h, .recentre, .after, .stack, .assoc] ∧ order = ahead ++ .after :: behind ∧
    (.detector .z ∈ ahead ∧ .detector .h ∈ ahead ∧ .recentre ∈ ahead) ∧ drawn ≤ 1 ∧
    t = order.foldl (receive c.1) (start drawn)

/-- State t is s after the raw frames of a list, each with its fill mark, have been handed on one behind another (R4). -/
def handedOnAll : List (RawFrame × Bool) → State → State → Prop
  | [], s, t => t = s
  | x :: rest, s, t => ∃ v, handedOn s v x.1 x.2 ∧ handedOnAll rest v t

/-! ## Capacities and counters -/

/-- A detector's pending lost-trigger count and owed count lie in their ranges (R28, R60). -/
abbrev Detector.counted (d : Detector) : Prop := d.owed ≤ Config.owedCap ∧ d.pendLost ≤ 65535

/-- An occurrence count of a notice lies in 1..255 (R131). -/
def occurs (count : Nat) : Bool := decide (1 ≤ count) && decide (count ≤ 255)

/-- A record's saturating counts lie in their ranges: the retriggers of a pick (R59), the occurrences of a notice
(R131). -/
def Record.counted : Record → Bool
  | .pick p => decide (p.retrig ≤ 255) && decide (p.lost ≤ 65535)
  | .group _ => true
  | .notice n => occurs n.count

/-- A slot's peak SNR, its retrigger count, the lost count it carries, and those of its record lie in their ranges (R59,
R60, R62, R63). -/
def Slot.counted (x : Slot) : Bool :=
  decide (x.peak ≤ 65535) && decide (x.retrig ≤ 255) && decide (x.lost ≤ 65535) && x.record.all fun p => (Record.pick p).counted

/-- Every saturating count of a slot, a record or a pending notice lies in its range (R59, R60, R131). -/
abbrev State.countsHold (s : State) : Prop :=
  (∀ i : Fin 8, (s.slot i).counted = true) ∧
  (∀ k : Fin 8, s.reports.notices[k].all (fun p => occurs p.count) = true) ∧
  s.reports.queue.all Record.counted = true

/-- An import in progress has taken 1 to 6 records (R39). -/
def ImportState.counted : ImportState → Bool
  | .importing k => decide (1 ≤ k) && decide (k ≤ 6)
  | _ => true

/-- Every store lies within its capacity and every saturating counter within its range (0.5.6, R9, R18, R39, R59, R60,
R126, R131, R153, R163, R167). -/
abbrev State.withinCapacity (s : State) : Prop :=
  s.ring.length ≤ Config.ringCap ∧ s.reports.queue.length ≤ Config.queueCap ∧
  s.revert.length ≤ Config.stackCap ∧ s.floor ≤ 3 ∧
  s.intake.bad ≤ 65535 ∧ s.intake.stale ≤ 65535 ∧ s.intake.filled ≤ 65535 ∧ s.intake.gaps ≤ 65535 ∧
  s.port.discarded ≤ 65535 ∧ s.table.lost.z ≤ 65535 ∧ s.table.lost.h ≤ 65535 ∧ s.time.missed ≤ 65535 ∧
  s.det.z.counted ∧ s.det.h.counted ∧ s.countsHold ∧ s.chain.impSt.counted = true

/-! ## Chain and detectors (chapters 2 and 3) -/

/-- A detector's state agrees with the chain state and with blanking (3.3), and its owed count and
forced-baseline mark with its own state (R28, R30). -/
abbrev Detector.follows (d : Detector) (st : ChainState) (blanking : Bool) : Prop :=
  (st = .hold ∨ st = .resync → d.st = .off ∧ d.blkSum = 0 ∧ d.blkCount = 0) ∧
  (st = .warmup → d.st = .warming) ∧
  (st = .run → if blanking then d.st = .blanked else d.st = .quiet ∨ d.st = .triggered) ∧
  (d.st ≠ .triggered → d.owed = 0 ∧ d.forced = false) ∧
  d.owed ≤ Config.owedCap ∧ (d.forced = true → d.owed = Config.owedCap)

/-- Both detectors follow the chain; a blanking end stands in RUN alone, a pause end in WARMUP alone; the
autostart arming stands in HOLD before the first frame alone (3.1, 3.3, 3.4, R43). -/
abbrev State.chainAgrees (s : State) : Prop :=
  s.det.z.follows s.chain.st s.chain.blankEnd.isSome ∧ s.det.h.follows s.chain.st s.chain.blankEnd.isSome ∧
  (s.chain.blankEnd.isSome → s.chain.st = .run) ∧ (s.chain.pauseEnd.isSome → s.chain.st = .warmup) ∧
  (s.chain.armed = true → s.chain.st = .hold ∧ s.newest = none)

/-- No test of a frame is left over: the frame's own event has made each of them (R16; log 2). -/
abbrev State.settled (s : State) : Prop := s.due = {}

/-! ## Sample link and History Ring (chapter 1) -/

/-- Do ring entries hold consecutive sample numbers, oldest first (1.3)? -/
def runsOn : List RingEntry → Bool
  | e :: f :: rest => f.n == e.n + 1 && runsOn (f :: rest)
  | _ => true

/-- The link's state agrees with its records: UP exactly while a number is expected and the silence timer runs;
then the last accepted frame is the newest sample and the expected number is the one after it (1.1). -/
abbrev State.linkAgrees (s : State) : Prop :=
  (s.intake.link = .up → s.intake.silence.isSome ∧ s.time.lastFrame.isSome ∧
    s.intake.lastRaw.map (·.seq) = s.newest ∧ s.intake.expected = s.newest.map (· + 1) ∧ s.newest.isSome) ∧
  (s.intake.link = .down → s.intake.expected = none ∧ s.intake.silence = none)

/-- The ring holds consecutive samples, the last of them the newest sample; it is empty exactly while there is
none (1.3, R16, R18). -/
abbrev State.ringAgrees (s : State) : Prop :=
  runsOn s.ring = true ∧ s.ring.getLast?.map (·.n) = s.newest ∧ s.ring.length ≤ Config.ringCap

/-! ## Slot Table and Refinement Unit (chapters 4 and 5) -/

/-- The refinement queue holds exactly the CLOSED slots, each once; the Unit's slot is the one REFINING slot; an
idle Unit leaves nothing waiting (R70, R71). -/
abbrev State.queueAgrees (s : State) : Prop :=
  (∀ i : Fin 8, i ∈ s.table.queue ↔ (s.slot i).st = .closed) ∧ s.table.queue.Nodup ∧
  (∀ i : Fin 8, (s.slot i).st = .refining ↔ s.unit.map (·.slot) = some i) ∧
  (s.unit = none → s.table.queue = [])

/-- Slots are OPEN in RUN alone, after a first frame; a slot carries a record and a completion order while it is DONE, and a pin while
it is CLOSED or REFINING; a detector's most recent opening is an OPEN slot of its own class and trigger (R19,
R61, R62, R65, R72). -/
abbrev State.slotsAgree (s : State) : Prop :=
  (∀ i : Fin 8, (s.slot i).st = .opened → s.chain.st = .run ∧ s.newest.isSome) ∧
  (∀ i : Fin 8, (s.slot i).st = .done → (s.slot i).record.isSome ∧ (s.slot i).order.isSome) ∧
  (∀ i : Fin 8, ((s.slot i).st = .closed ∨ (s.slot i).st = .refining) ↔ (s.slot i).pin.isSome) ∧
  ∀ w ∈ [Det.z, Det.h], (s.table.recent.get w).all (fun x => (s.slot x.1).st == .opened &&
    (s.slot x.1).cls == classOf w && (s.slot x.1).trigger == x.2) = true

/-- Every pin is retained: the ring then holds a sample, and no pin is older than the oldest of them (R18, R19). -/
abbrev State.pinsRetained (s : State) : Prop :=
  ∀ i : Fin 8, (s.slot i).pin.all (fun q => s.ring.head?.any fun e => decide (distance q e.n ≤ 0)) = true

/-! ## Time Base (chapter 7) -/

/-- A capture that carries a label. -/
def labelled : Option Capture → Bool
  | some ⟨_, _, some _⟩ => true
  | _ => false

/-- The time state agrees with the capture, the labels and the missed-pulse count (R115, R117, 7.5). -/
abbrev State.timeAgrees (s : State) : Prop :=
  (s.time.st ≠ .neverSet →
    labelled s.time.capture = true ∧ s.time.lastLabel.isSome ∧ s.time.lastEdge.isSome) ∧
  (s.time.st = .locked → s.time.missed = 0) ∧
  (s.time.st = .holdover → 1 ≤ s.time.missed ∧ s.time.missed < Config.unlockCount) ∧
  (s.time.st = .unlocked → Config.unlockCount ≤ s.time.missed) ∧
  (s.time.timer.isSome ↔ s.time.lastEdge.isSome) ∧
  s.time.lastLabel.all (fun l => decide (l < Config.labelMod)) = true ∧
  s.time.pendLabel.all (fun l => decide (l < Config.labelMod)) = true

/-! ## Report Queue (chapters 6 and 8) -/

/-- While an item waits, at most one place of the queue is free (R128, R134). -/
abbrev State.waitsOnlyWhenFull (s : State) : Prop :=
  (∀ i : Fin 8, (s.slot i).st = .done → (s.slot i).record.isSome ∧ (s.slot i).order.isSome) ∧
  (¬ s.nothingWaits → Config.queueCap ≤ s.reports.queue.length + 1)

/-- The sequence numbers of the pick records in a queue, in order. -/
def pickSeqs (q : List Record) : List (Option (BitVec 32)) :=
  q.filterMap fun r => match r with | .pick p => some p.seq | _ => none

/-- Does each group record stand directly behind the pick record of its S (R108)? The first record of the queue
may be a group record whose pick has been collected. -/
def groupsBehindPicks : List Record → Bool
  | .pick p :: .group g :: rest =>
    p.seq == some g.sSeq && p.group == some g.group && p.role == g.role && groupsBehindPicks (.group g :: rest)
  | _ :: .group _ :: _ => false
  | _ :: rest => groupsBehindPicks rest
  | [] => true

/-- The picks in the queue carry consecutive sequence numbers, the last of them one below the counter, and each
group record follows the pick of its S (R108, R129). -/
abbrev State.queueNumbered (s : State) : Prop :=
  pickSeqs s.reports.queue = (List.range (pickSeqs s.reports.queue).length).map
    (fun j => some (s.reports.pickSeq - BitVec.ofNat 32 ((pickSeqs s.reports.queue).length - j))) ∧
  groupsBehindPicks s.reports.queue = true

/-! ## Settings, trials and store (chapters 9 and 10) -/

/-- Every item of a profile entry lies in its range and the entry's constraints hold (R138). -/
abbrev Profile.legal (p : Profile) : Prop := p.inRange = true ∧ p.consistent = true

/-- Every item of the station record lies in its range and the map names each position once (9.4). -/
abbrev Station.legal (st : Station) : Prop :=
  ((List.range 16).zip st.values).all (fun iv => stationInRange iv.1 iv.2) = true ∧
  mapOneToOne st.map = true

/-- A valid gate passes the checks of GATE WRITE (R157, R158). -/
abbrev Gate.legal (g : Gate) : Prop := g.valid = true → g.inRange = true ∧ g.consistent = true

/-- A gate's fields fit the bytes that carry them, whether or not the gate is valid (11.3, R158). -/
def Gate.carried (g : Gate) : Bool :=
  [g.level, g.setLevel, g.target, g.param].all (fun x => decide (x < 256)) && decide (g.low < 2 ^ 32) &&
  decide (g.high < 2 ^ 32) && decide (g.dur < 2 ^ 24)

/-- Popping the stack from its top finds each parameter at its trial's new value and leaves a legal entry each
time (R163). -/
def unwinds (ps : Vector Profile 8) : List Trial → Prop
  | [] => True
  | t :: rest =>
    ps[t.entry].get t.item = t.new ∧ (ps[t.entry].put t.item t.old).legal ∧
    unwinds (ps.set t.entry (ps[t.entry].put t.item t.old)) rest

/-- An image that a reset may load (R138). -/
abbrev Image.legal (im : Image) : Prop :=
  (∀ e : Fin 8, im.profiles[e].legal) ∧ im.station.legal ∧
  ∀ k : Fin 16, im.gates[k].legal ∧ im.gates[k].carried = true

/-- Every trial is on a live parameter, as every gate is (R157, R158, R161). -/
abbrev State.trialsLive (s : State) : Prop := ∀ t ∈ s.revert, t.item.live = true

/-- Every working setting is legal, every trial can be taken back, and every image that a reset can load is
legal (R138, R149, R163). -/
def State.settingsLegal (s : State) : Prop :=
  (∀ e : Fin 8, s.settings.profiles[e].legal) ∧ s.settings.station.legal ∧
  (∀ k : Fin 16, s.settings.gates[k].legal ∧ s.settings.gates[k].carried = true) ∧ s.trialsLive ∧
  unwinds s.settings.profiles s.revert ∧
  (s.store.mark = true → s.store.image.legal) ∧ (∀ im ∈ s.store.writing, im.legal)

/-- The completion mark is clear while a save is in flight (R150). -/
abbrev State.storeAgrees (s : State) : Prop := s.store.writing.isSome → s.store.mark = false

/-! ## Byte layouts (R166, R173, R174), as tables of what stands where

A code that a field carries is the place of its meaning in a table of codes from 0 up. -/

/-- Reply status codes (R169). -/
def statusCodes : List Status :=
  [.done, .busy, .level, .locked, .needsHold, .needsRun, .state, .range, .conflict, .empty, .full, .notFound, .mismatch,
    .late, .noSnapshot, .unknownKind, .badLength]

/-- Chain state codes (R174). -/
def chainCodes : List ChainState := [.hold, .warmup, .run, .resync]

/-- Detector state codes (R174). -/
def detectorCodes : List DetState := [.off, .warming, .quiet, .triggered, .blanked]

/-- Slot state codes (R174). -/
def slotCodes : List SlotState := [.free, .opened, .closed, .refining, .done]

/-- Slot class codes (R173, R174). -/
def classCodes : List SlotClass := [.z, .h, .forced]

/-- Time state codes (R173, R174). -/
def timeCodes : List TimeState := [.neverSet, .locked, .holdover, .unlocked]

/-- Phase call codes (R173). -/
def callCodes : List Phase := [.p, .s, .unknown]

/-- Basis codes (R173). -/
def basisCodes : List Basis := [.polar, .context, .none]

/-- Role codes (R173). -/
def roleCodes : List Role := [.none, .p, .sMeasured, .sInferred]

/-- Export state codes (R174). -/
def exportCodes : List ExportState := [.empty, .pending, .ready]

/-- Import state codes: 0 IDLE, k for IMPORTING(k), 7 VALID, 8 INVALID (R174). -/
def importCode : ImportState → Nat
  | .idle => 0
  | .importing k => k
  | .valid => 7
  | .invalid => 8

/-- Reset kind codes (R173). -/
def resetCodes : List ResetKind := [.powerOn, .line, .request]

/-- Link position codes (11.3). -/
def positionCodes : List LinkPos := [.a, .b, .c]

/-- The bytes carry unsigned numbers: each row is an offset, a size in bytes and the number there. -/
abbrev carries (bs : List Byte) (rows : List (Nat × Nat × Nat)) : Prop := ∀ r ∈ rows, field bs r.1 r.2.1 = r.2.2

/-- The bytes at one offset, `size` of them, carry bit fields: each row is the highest bit, the lowest bit and the number
there, bit 0 being the lowest bit of the last byte. -/
abbrev packs (bs : List Byte) (off size : Nat) (rows : List (Nat × Nat × Nat)) : Prop :=
  ∀ r ∈ rows, field bs off size / 2 ^ r.2.1 % 2 ^ (r.1 + 1 - r.2.1) = r.2.2

/-- The rows of numbers of one size that stand one behind another from an offset on. -/
def inTurn (off size : Nat) (xs : List Nat) : List (Nat × Nat × Nat) := xs.zipIdx.map fun x => (off + size * x.2, size, x.1)

/-- The six sums of a record in the order of R173. -/
def Sums.inOrder (c : Sums) : List Int := [c.zz, c.nn, c.ee, c.zn, c.ze, c.ne]

/-- The flags of a record from bit 23 down (R173). -/
def Flags.inOrder (f : Flags) : List Bool :=
  [f.searchLimit, f.historyShort, f.truncated, f.gap, f.baselineForced, f.polClipped, f.contextCall, f.timeStep, f.blanked,
    f.noEnergy]

/-- A pick record's values lie in the ranges that its rules give them (R85, R87, R89 to R94). -/
abbrev PickRecord.inRange (p : PickRecord) : Prop :=
  p.weight ≤ 3 ∧ p.secs < 2 ^ 40 ∧ p.us < 1000000 ∧ p.missed ≤ 65535 ∧ p.rise ≤ 2048 ∧ p.snr ≤ 65535 ∧ p.clips ≤ 65535 ∧
  p.fills ≤ 65535 ∧ p.retrig ≤ 255 ∧ p.lost ≤ 65535 ∧ (∀ v ∈ p.share, v ≤ 256) ∧
  (∀ c ∈ p.sums, ∀ x ∈ c.inOrder, -(2 ^ 56) ≤ x ∧ x ≤ 2 ^ 56) ∧
  ∀ t ∈ p.peaks, ∀ x ∈ [t.z, t.n, t.e], x.mag ≤ 8388608 ∧ x.offset ≤ 65535

/-- The sums of a record at an offset: a shift k, the least in 0..48 at which every floor(sum / 2^k) lies in −512..511, and
these six values in 10 bits each, in two's complement (R173). -/
abbrev sumsAt (bs : List Byte) (off : Nat) (c : Sums) : Prop :=
  let narrow (k : Nat) : Prop := ∀ x ∈ c.inOrder, -512 ≤ x / 2 ^ k ∧ x / 2 ^ k ≤ 511
  ∃ k ∈ List.range 49, narrow k ∧ (∀ j ∈ List.range k, ¬ narrow j) ∧
    packs bs off 9 ([(71, 66, k), (5, 0, 0)] ++
      c.inOrder.zipIdx.map fun x => (65 - 10 * x.2, 56 - 10 * x.2, (x.1 / 2 ^ k % 1024).toNat))

/-- The bytes are a pick record's (R173). -/
abbrev PickRecord.laidOut (p : PickRecord) (bs : List Byte) : Prop :=
  let sums := 34 + p.share.isSome.toNat
  let peaks := sums + 9 * p.sums.isSome.toNat
  bs.length = peaks + 15 * p.peaks.isSome.toNat ∧
  packs bs 0 1 [(7, 6, 1), (5, 5, p.share.isSome.toNat), (4, 4, p.sums.isSome.toNat), (3, 3, p.peaks.isSome.toNat),
    (2, 1, p.weight), (0, 0, 0)] ∧
  packs bs 1 1 [(7, 6, classCodes.idxOf p.cls), (5, 4, callCodes.idxOf p.call), (3, 2, basisCodes.idxOf p.basis),
    (1, 0, roleCodes.idxOf p.role)] ∧
  packs bs 2 1 [(7, 5, p.profile.val), (4, 3, timeCodes.idxOf p.timeSt), (2, 2, p.share.getD 0 / 256), (1, 0, 0)] ∧
  carries bs [(3, 4, (p.seq.getD 0).toNat), (7, 4, p.trigger.toNat), (11, 5, p.secs), (16, 3, p.us), (19, 2, p.missed)] ∧
  packs bs 21 3 ((p.flags.inOrder.zipIdx.map fun x => (23 - x.2, 23 - x.2, x.1.toNat)) ++ [(13, 12, 0), (11, 0, p.rise)]) ∧
  carries bs [(24, 2, p.snr), (26, 2, p.clips), (28, 2, p.fills), (30, 1, p.retrig), (31, 2, p.lost),
    (33, 1, (p.group.getD 0).toNat)] ∧
  (∀ v ∈ p.share, field bs 34 1 = v % 256) ∧
  (∀ c ∈ p.sums, sumsAt bs sums c) ∧
  ∀ t ∈ p.peaks, carries bs [(peaks, 3, t.z.mag), (peaks + 3, 2, t.z.offset), (peaks + 5, 3, t.n.mag),
    (peaks + 8, 2, t.n.offset), (peaks + 10, 3, t.e.mag), (peaks + 13, 2, t.e.offset)]

/-- The bytes are a group record's (R173). -/
abbrev GroupRecord.laidOut (g : GroupRecord) (bs : List Byte) : Prop :=
  bs.length = 20 ∧ packs bs 0 1 [(7, 6, 2), (5, 4, roleCodes.idxOf g.role), (3, 0, 0)] ∧
  carries bs [(1, 1, g.group.toNat), (2, 4, g.pSeq.toNat), (6, 4, g.sSeq.toNat), (10, 2, g.samples)] ∧
  fieldInt bs 12 8 = g.us

/-- The code of a notice's key, and its data from offset 7 on (R173). -/
def NoticeData.rows : NoticeData → List (Nat × Nat × Nat)
  | .linkDown n => [(1, 1, 0), (7, 4, n.toNat), (11, 4, 0)]
  | .longGap e a => [(1, 1, 1), (7, 4, e.toNat), (11, 4, a.toNat)]
  | .warmupDone n => [(1, 1, 2), (7, 4, n.toNat), (11, 4, 0)]
  | .baselineForced .z n => [(1, 1, 3), (7, 4, n.toNat), (11, 4, 0)]
  | .baselineForced .h n => [(1, 1, 4), (7, 4, n.toNat), (11, 4, 0)]
  | .timeState st m => [(1, 1, 5), (7, 1, timeCodes.idxOf st), (8, 2, m), (10, 5, 0)]
  | .storeDefaulted k => [(1, 1, 6), (7, 1, resetCodes.idxOf k), (8, 7, 0)]
  | .trialExpired e i v => [(1, 1, 7), (7, 1, e.val), (8, 1, allItems.idxOf i), (9, 4, v), (13, 2, 0)]

/-- The bytes are a notice record's (R173). -/
abbrev NoticeRecord.laidOut (n : NoticeRecord) (bs : List Byte) : Prop :=
  bs.length = 15 ∧ packs bs 0 1 [(7, 6, 3), (5, 5, n.first.isSome.toNat), (4, 0, 0)] ∧
  carries bs ([(2, 1, n.count), (3, 4, (n.first.getD 0).toNat)] ++ n.data.rows)

/-- A record's values fit the fields that carry them: a pick's lie in their ranges, a group is one of an S, a notice's
count and data are its rules' (R94, R105, R120, R131). -/
def Record.fits : Record → Prop
  | .pick p => p.inRange
  | .group g => (g.role = .sMeasured ∨ g.role = .sInferred) ∧ g.samples ≤ 65535 ∧ -(2 ^ 63) ≤ g.us ∧ g.us < 2 ^ 63
  | .notice n => n.count ≤ 255 ∧ ∀ r ∈ n.data.rows, r.2.2 < 256 ^ r.2.1

/-- The bytes are a record's (R173). -/
def Record.laidOut : Record → List Byte → Prop
  | .pick p => p.laidOut
  | .group g => g.laidOut
  | .notice n => n.laidOut

/-- The bytes are a reply's frame: sync, length, effective level, kind, tag, status, indication, data and a good CRC
(R166, R169). -/
abbrev Reply.laidOut (rep : Reply) (bs : List Byte) : Prop :=
  let n := rep.data.length
  bs.length = 10 + n ∧ slice bs 8 n = rep.data ∧
  carries bs [(0, 2, 0xC33C), (2, 1, 2 + n), (3, 1, rep.level), (4, 1, rep.kind.toNat), (5, 1, rep.tag.toNat),
    (6, 1, statusCodes.idxOf rep.status), (7, 1, rep.clamped.toNat), (8 + n, 2, crc16 (slice bs 2 (6 + n)))]

/-- The rows of one slot in the STATUS data, from offset `off` on (R78, R174). -/
def slotRows (off : Nat) (x : Slot) : List (Nat × Nat × Nat) :=
  let used (v : Nat) : Nat := if x.st = .free then 0 else v
  let opened (v : Nat) : Nat := if x.st = .opened then v else 0
  [(off, 1, slotCodes.idxOf x.st), (off + 1, 1, used (classCodes.idxOf x.cls)), (off + 2, 4, used x.trigger.toNat),
    (off + 6, 4, opened x.close.toNat), (off + 10, 2, opened x.peak)]

/-- The rows of one detector in the STATUS data: its state and its current ratio (R24, R174). -/
def detectorRows (off : Nat) (p : DetParams) (d : Detector) : List (Nat × Nat × Nat) :=
  [(off, 1, detectorCodes.idxOf d.st), (off + 1, 2, min (16 * d.sta / max d.lta (max (256 * p.floor) 1)) 65535)]

/-- The bytes are the STATUS reply data of state s (R170, R174). -/
abbrev State.statusLaidOut (s : State) (bs : List Byte) : Prop :=
  let c := s.intake
  bs.length = 150 ∧
  carries bs ([(0, 1, chainCodes.idxOf s.chain.st)] ++ detectorRows 1 s.active.det.z s.det.z ++
    detectorRows 4 s.active.det.h s.det.h) ∧
  (∀ i : Fin 8, carries bs (slotRows (7 + 12 * i.val) (s.slot i))) ∧
  carries bs ([(103, 1, s.table.queue.length)] ++
    inTurn 104 1 ((List.range 8).map fun j => (s.table.queue[j]?.map (·.val)).getD 0) ++
    [(112, 1, (s.unit.map (·.slot.val)).getD 0xFF), (113, 1, s.reports.queue.length),
      (114, 1, (eight.filter fun i => (s.slot i).st == .done).length)]) ∧
  packs bs 115 1 (eight.map fun k => (k.val, k.val, s.reports.notices[k].isSome.toNat)) ∧
  carries bs [(116, 1, s.reports.blocked.toNat), (117, 1, timeCodes.idxOf s.time.st),
    (118, 1, s.time.lastLabel.isSome.toNat), (119, 5, s.time.lastLabel.getD 0), (124, 2, s.time.missed)] ∧
  packs bs 126 1 [(0, 0, s.store.writing.isSome.toNat), (1, 1, s.store.defaulted.toNat), (7, 2, 0)] ∧
  packs bs 127 1 [(0, 0, if c.link = .up then 1 else 0), (1, 1, s.newest.isSome.toNat), (7, 2, 0)] ∧
  carries bs ([(128, 4, (s.newest.getD 0).toNat), (132, 1, s.floor), (133, 1, s.revert.length),
    (134, 1, exportCodes.idxOf s.chain.expSt), (135, 1, importCode s.chain.impSt)] ++
    inTurn 136 2 [s.table.lost.z, s.table.lost.h, c.stale, c.bad, c.filled, c.gaps, s.port.discarded])

/-- The rows of a lock: its state, and its underlying state, which repeats the state of a lock that is not POWER (R174). -/
def lockRows (off : Nat) (l : Lock) : List (Nat × Nat × Nat) :=
  let code : BaseLock → Nat
    | .opened => 0
    | .line => 1
    | .fixed => 3
  match l with
  | .base u => [(off, 1, code u), (off + 1, 1, code u)]
  | .power u => [(off, 1, 2), (off + 1, 1, code u)]

/-- The 33 items of a profile entry in the order of 9.1, Z before H, the entry level last (11.3). -/
def Profile.inOrder (p : Profile) : List Nat :=
  let z := p.det.z
  let h := p.det.h
  [p.hp, p.cf, p.blk, z.sta, h.sta, z.lta, h.lta, z.on, h.on, z.off, h.off, z.ons, h.ons, z.floor, h.floor, p.lw, p.lmin,
    p.dsep, p.lb, p.osm, p.pol, p.tail, p.warm, p.vp, p.vs, p.snrA, p.snrB, p.snrC, p.riseA, p.riseB, p.smin, p.smax,
    p.level]

/-- The 16 items of the station record in the order of 9.4, per component Z, N, E (11.3, R174). -/
def Station.inOrder (st : Station) : List Nat :=
  let at' (x : LinkPos) : Nat := positionCodes.idxOf x
  [st.rate, at' st.map.z + 4 * at' st.map.n + 16 * at' st.map.e, st.inverted.z.toNat, st.inverted.n.toNat,
    st.inverted.e.toNat, st.trim.z, st.trim.n, st.trim.e, st.clip.z, st.clip.n, st.clip.e, st.gd, st.gap,
    st.autostart.toNat, st.dflt.val, st.strict.toNat]

/-- The bytes are the PROFILE READ reply data of entry e (R174). -/
abbrev State.profileLaidOut (s : State) (e : Fin 8) (bs : List Byte) : Prop :=
  bs.length = 136 ∧ carries bs ([(0, 1, e.val), (1, 1, if s.settings.active = e then 1 else 0)] ++
    lockRows 2 s.settings.profileLock[e] ++ inTurn 4 4 s.settings.profiles[e].inOrder)

/-- The bytes are the STATION READ reply data (R174). -/
abbrev State.stationLaidOut (s : State) (bs : List Byte) : Prop :=
  bs.length = 66 ∧ carries bs (lockRows 0 s.settings.stationLock ++ inTurn 2 4 s.settings.station.inOrder)

/-- The bytes are the GATE READ reply data of gate k (R174, 11.3). -/
abbrev State.gateLaidOut (s : State) (k : Fin 16) (bs : List Byte) : Prop :=
  let g := s.settings.gates[k]
  bs.length = 19 ∧ carries bs (inTurn 0 1 [k.val, g.valid.toNat, g.level, g.setLevel, g.target, g.param] ++
    [(6, 4, g.low), (10, 4, g.high), (14, 3, g.dur)] ++ lockRows 17 s.settings.gateLock)

end Sys2Proof.Machine
end

