-- ==== Sys2Proof/WellFormed.lean ====
section
/-! DEFINITION. Which commands are well formed: the bytes are there, and a request carries what its row says. -/

namespace Sys2Proof

/-- A control frame's body holds 0 to 240 bytes (0.5.6, R166). -/
def bodyFits (body : List Byte) : Bool := decide (body.length ≤ 240)

/-- Does a one-byte mode field at an offset hold the row's mode, or one that no row of its kind has? A body too
short to hold the field belongs to any row of the kind. -/
def modeIs (body : List Byte) (off mode modes : Nat) : Bool :=
  decide (body.length ≤ off) || Machine.field body off 1 == mode || decide (modes ≤ Machine.field body off 1)

/-- Is a kind code one that the catalogue does not hold (R169, R171)? -/
def kindUnknown (kind : Byte) : Bool := kind.toNat == 0 || decide (0x18 < kind.toNat)

/-- A well-formed command: its body fits a frame; a row that is one mode of a request carries that mode; a row
that is an event on a line's bytes has bytes; an unknown kind is not in the catalogue. -/
def Instr.wf : Instr → Bool
  | .sampleFrame bytes _ => !bytes.isEmpty
  | .warmupCompletion => true
  | .autoClose _ => true
  | .blankingEnd => true
  | .warmupPauseEnd => true
  | .entryExpiry => true
  | .trialExpiry => true
  | .linkLoss => true
  | .pulseEdge _ => true
  | .missingPulse => true
  | .onsetSearch => true
  | .polarization => true
  | .peaksAndCounts => true
  | .refinementCompletion => true
  | .pickAdmission => true
  | .noticeAdmission => true
  | .storeSaveCompletion => true
  | .powerOn _ => true
  | .resetLine _ _ => true
  | .resetTakesEffect => true
  | .controlFrameDiscard bytes _ => !bytes.isEmpty
  | .controlFrameAbandoned _ => true
  | .replyComplete => true
  | .unknownKind _ kind body => kindUnknown kind && bodyFits body
  | .status _ body => bodyFits body
  | .collect _ body => bodyFits body
  | .chainHold _ body => bodyFits body
  | .chainRunLearn _ body => bodyFits body && modeIs body 0 0 3
  | .chainRunRestore _ body => bodyFits body && modeIs body 0 1 3
  | .chainRunImmediate _ body => bodyFits body && modeIs body 0 2 3
  | .blank _ body => bodyFits body
  | .slotClose _ body => bodyFits body
  | .slotForce _ body => bodyFits body
  | .profileRead _ body => bodyFits body
  | .profileWrite _ body => bodyFits body
  | .profileSelect _ body => bodyFits body
  | .profileLock _ body => bodyFits body
  | .stationRead _ body => bodyFits body
  | .stationWrite _ body => bodyFits body
  | .gateRead _ body => bodyFits body
  | .gateWrite _ body => bodyFits body
  | .adjustSet _ body => bodyFits body && modeIs body 1 0 2
  | .adjustTry _ body => bodyFits body && modeIs body 1 1 2
  | .revert _ body => bodyFits body
  | .floor _ body => bodyFits body
  | .timeLabel _ body => bodyFits body
  | .snapshotTake _ body => bodyFits body
  | .snapshotRead _ body => bodyFits body
  | .snapshotWrite _ body => bodyFits body
  | .storeSave _ body => bodyFits body
  | .reset _ body => bodyFits body
  | .powerLoss => true

end Sys2Proof
end

