-- ==== Sys2Proof/Certificates/Slice0/Obligations.lean ====
section
/-! DEFINITION. The statements about the ND-3P for the provers. -/

open Sys2Proof Sys2Proof.Machine

/-! ## The machine's step and the requests -/

/-- A command at the front of the queue is run on the state with the queue's rest, and leaves that rest as it was; on
an empty queue the block idles (the model's choice, log 6). No command ends in a fault or a refusal. -/
def Obligations.StepRunsTheFrontCommand : Prop :=
  (∀ s : State, s.pending = [] → step s = .next s) ∧
  ∀ (c : Instr) (rest : List Instr) (s : State), s.pending = c :: rest →
    step s = exec c { s with pending := rest } ∧ ∃ t, exec c { s with pending := rest } = .next t ∧ t.pending = rest

/-- Each reading request answers DONE with the data of its layout and changes nothing; a number that names no
entry or gate is answered RANGE. -/
def Obligations.ReadingRequestsReplyAndChangeNothing : Prop :=
  ∀ (s : State) (r : Req), s.takes r 3 →
    exec (.status r []) s = .next (replied s s r 0x01 .done false (statusBytes s)) ∧
    exec (.stationRead r []) s = .next (replied s s r 0x0C .done false (stationBytes s)) ∧
    ∀ body : List Byte, body.length = 1 →
      (∀ e : Fin 8, field body 0 1 = e.val →
        exec (.profileRead r body) s = .next (replied s s r 0x08 .done false (profileBytes s e))) ∧
      (8 ≤ field body 0 1 → exec (.profileRead r body) s = .next (answered s s r 0x08 .range)) ∧
      (∀ k : Fin 16, field body 0 1 = k.val →
        exec (.gateRead r body) s = .next (replied s s r 0x0E .done false (gateReadBytes s k))) ∧
      (16 ≤ field body 0 1 → exec (.gateRead r body) s = .next (answered s s r 0x0E .range))

/-- A complete, correct request frame that a searching receiver takes and that meets a request in progress is discarded and
counted, whatever row it is of. At a free port the checks come in this order: an originator level above 3 is answered LEVEL
for every row, a kind outside the catalogue UNKNOWN_KIND at any body length, a length that the catalogue does not allow
BAD_LENGTH, and then, for every request with a fixed required level, an effective level above it LEVEL, whatever its body
says. In each case nothing changes but the port's counter or reply. That the reply to a kind of 0x80 or more carries that kind plus 0x80
modulo 256 is the model's choice (log 25). -/
def Obligations.PortChecksComeFirst : Prop :=
  ∀ (s : State) (r : Req) (body : List Byte), s.power = true → s.port.searching = true →
    (∀ (c : Instr) (k : Byte), requestOf c = some (k, r, body) → s.port.busy.isSome →
      exec c s = .next { s with port := { s.port with
        rx := [], cut := false, discarded := min (s.port.discarded + 1) 65535 } }) ∧
    (∀ (c : Instr) (k : Byte), requestOf c = some (k, r, body) → s.port.busy = none → 3 < r.level.toNat →
      exec c s = .next (answered s s r k .level)) ∧
    (∀ kind : Byte, s.port.busy = none → r.level.toNat ≤ 3 → kind.toNat = 0 ∨ 0x18 < kind.toNat →
      exec (.unknownKind r kind body) s = .next (answered s s r kind .unknownKind)) ∧
    (∀ (c : Instr) (k : Byte), requestOf c = some (k, r, body) → s.port.busy = none → r.level.toNat ≤ 3 →
      1 ≤ k.toNat → k.toNat ≤ 0x18 → body.length ∉ allowedLengths k.toNat →
      exec c s = .next (answered s s r k .badLength)) ∧
    ∀ (c : Instr) (k : Byte) (n : Nat), requestOf c = some (k, r, body) → s.port.busy = none → r.level.toNat ≤ 3 →
      body.length ∈ allowedLengths k.toNat → requiredLevel k.toNat = some n → n < max r.level.toNat s.floor →
      exec c s = .next (answered s s r k .level)

/-- REVERT: EMPTY on an empty stack; LEVEL when the effective level is above the top entry's invoker level;
otherwise the top entry is popped, its old value stored, and the reply carries entry, item, value and new depth.
No lock is consulted and nothing else changes. -/
def Obligations.RevertTakesBackTheTopTrial : Prop :=
  ∀ (s : State) (r : Req), s.portFree → r.level.toNat ≤ 3 →
    (s.revert = [] → exec (.revert r []) s = .next (answered s s r 0x11 .empty)) ∧
    ∀ (t : Trial) (rest : List Trial), s.revert = t :: rest →
      (t.level < max r.level.toNat s.floor → exec (.revert r []) s = .next (answered s s r 0x11 .level)) ∧
      (max r.level.toNat s.floor ≤ t.level →
        exec (.revert r []) s = .next (replied s
          { s with
            revert := rest
            settings := { s.settings with
              profiles := s.settings.profiles.set t.entry (s.settings.profiles[t.entry].put t.item t.old) } }
          r 0x11 .done false
          (be 1 t.entry.val ++ be 1 t.item.id ++ be 4 t.old ++ be 1 rest.length)))

/-- FLOOR n: RANGE above 3, LEVEL below the present floor, otherwise the floor becomes n; the reply carries the
effective level computed before the change. With the floor above 0 each request that needs level 0 is answered LEVEL
and changes nothing, whatever level 0..3 it is marked with and whatever body of an allowed length it carries. -/
def Obligations.FloorRisesAndShutsLevelZero : Prop :=
  ∀ (s : State) (r : Req) (body : List Byte), s.portFree → r.level.toNat ≤ 3 →
    (body.length = 1 → 3 < field body 0 1 → exec (.floor r body) s = .next (answered s s r 0x12 .range)) ∧
    (body.length = 1 → field body 0 1 ≤ 3 → field body 0 1 < s.floor →
      exec (.floor r body) s = .next (answered s s r 0x12 .level)) ∧
    (body.length = 1 → field body 0 1 ≤ 3 → s.floor ≤ field body 0 1 →
      exec (.floor r body) s = .next (answered s { s with floor := field body 0 1 } r 0x12 .done)) ∧
    (1 ≤ s.floor →
      (body.length = 0 →
        exec (.storeSave r body) s = .next (answered s s r 0x17 .level) ∧
        exec (.reset r body) s = .next (answered s s r 0x18 .level)) ∧
      (body.length = 5 ∨ body.length = 64 →
        exec (.stationWrite r body) s = .next (answered s s r 0x0D .level)) ∧
      (body.length = 17 →
        exec (.gateWrite r body) s = .next (answered s s r 0x0F .level) ∧
        exec (.snapshotWrite r body) s = .next (answered s s r 0x16 .level)) ∧
      (body.length = 2 → exec (.profileLock r body) s = .next (answered s s r 0x0B .level)) ∧
      (body.length = 6 → exec (.timeLabel r body) s = .next (answered s s r 0x13 .level)))

/-- TIME LABEL: a label above 2^40 − 1 is refused with RANGE; any other becomes the pending label, replacing one
already held. Nothing else changes. -/
def Obligations.TimeLabelBecomesPending : Prop :=
  ∀ (s : State) (r : Req) (body : List Byte), s.takes r 0 → body.length = 6 →
    (2 ^ 40 ≤ field body 0 6 → exec (.timeLabel r body) s = .next (answered s s r 0x13 .range)) ∧
    (field body 0 6 < 2 ^ 40 → exec (.timeLabel r body) s =
      .next (answered s { s with time := { s.time with pendLabel := some (field body 0 6) } } r 0x13 .done))

/-- COLLECT n: RANGE outside 1..4; EMPTY on an empty queue; otherwise the oldest min(n, fill) records leave at the
head, the reply carries exactly them in queue order, and the admission attempts follow. -/
def Obligations.CollectRemovesTheOldestRecords : Prop :=
  ∀ (s : State) (r : Req) (body : List Byte), s.takes r 1 → body.length = 1 →
    let n := field body 0 1
    let q := s.reports.queue
    (n = 0 ∨ 4 < n → exec (.collect r body) s = .next (answered s s r 0x02 .range)) ∧
    (1 ≤ n → n ≤ 4 → q = [] → exec (.collect r body) s = .next (answered s s r 0x02 .empty)) ∧
    (1 ≤ n → n ≤ 4 → q ≠ [] → exec (.collect r body) s = .next (replied s
      (admitAll { s with reports := { s.reports with queue := q.drop n } }) r 0x02 .done false
      (be 1 (min n q.length) ++ (q.take n).flatMap Record.bytes))) ∧
    (1 ≤ n → n ≤ 4 → q ≠ [] → s.nothingWaits → exec (.collect r body) s = .next (replied s
      { s with reports := { s.reports with queue := q.drop n } } r 0x02 .done false
      (be 1 (min n q.length) ++ (q.take n).flatMap Record.bytes)))

/-- PROFILE SELECT: RANGE for a number outside 0..7; NEEDS_HOLD outside HOLD for an entry whose structural items
differ from the active entry's; otherwise the pointer names the entry, and with no structural difference nothing
else changes. -/
def Obligations.ProfileSelectMovesThePointer : Prop :=
  ∀ (s : State) (r : Req) (body : List Byte), s.takes r 1 → body.length = 1 →
    (8 ≤ field body 0 1 → exec (.profileSelect r body) s = .next (answered s s r 0x0A .range)) ∧
    ∀ e : Fin 8, field body 0 1 = e.val →
      let p := s.settings.profiles[e]
      (structuralDiffer s.active p = true → s.chain.st ≠ .hold →
        exec (.profileSelect r body) s = .next (answered s s r 0x0A .needsHold)) ∧
      (structuralDiffer s.active p = false → exec (.profileSelect r body) s =
        .next (answered s { s with settings := { s.settings with active := e } } r 0x0A .done)) ∧
      (structuralDiffer s.active p = true → s.chain.st = .hold → exec (.profileSelect r body) s =
        .next (answered s
          { s with
            settings := { s.settings with active := e }
            det := ⟨{ s.det.z with
                sta := min s.det.z.sta (2 ^ (54 - 2 * p.cf)), lta := min s.det.z.lta (2 ^ (54 - 2 * p.cf)) },
              { s.det.h with
                sta := min s.det.h.sta (2 ^ (55 - 2 * p.cf)), lta := min s.det.h.lta (2 ^ (55 - 2 * p.cf)) }⟩ }
          r 0x0A .done))

/-! ## Snapshots -/

/-- SNAPSHOT TAKE is answered DONE in every state: the export buffer becomes PENDING and its contents are discarded,
the blank record standing for no contents (log 22). At the next block end received in RUN the capture fills it and makes
it READY, before blanking that ends at that same sample ends; a block end in another chain state, WARMUP included, fills
nothing. SNAPSHOT READ k: RANGE outside 1..7 whatever the buffer state; EMPTY while the buffer is not READY; otherwise
export record k as captured, the buffer and everything else staying as it was. -/
def Obligations.SnapshotIsTakenAtABlockEndAndRead : Prop :=
  (∀ (s : State) (r : Req), s.takes r 1 → exec (.snapshotTake r []) s =
    .next (answered s { s with chain := { s.chain with expSt := .pending, expBuf := blankSnapshot } } r 0x14 .done)) ∧
  (∀ (s : State) (f : Conditioned),
    let due := f.n.toNat % 2 ^ s.active.blk = 2 ^ s.active.blk - 1 ∧ s.chain.expSt = .pending
    let taken : Chain := { s.chain with
      expSt := .ready
      expBuf := ⟨currentHeader s, s.dc.map (·.getD 0), ⟨⟨s.det.z.sta, s.det.z.lta⟩, ⟨s.det.h.sta, s.det.h.lta⟩⟩,
        7, f.n⟩ }
    let chain : Chain := if due then taken else s.chain
    let unblank (q : DetParams) (d : Detector) : Detector := if d.st = .blanked then entryTested q d else d
    (s.chain.st = .run → s.chain.blankEnd ≠ some f.n → afterDetectors f s = { s with chain := chain }) ∧
    (s.chain.st = .run → s.chain.blankEnd = some f.n → afterDetectors f s = { s with
      chain := { chain with blankEnd := none }
      det := ⟨unblank s.active.det.z s.det.z, unblank s.active.det.h s.det.h⟩ }) ∧
    (s.chain.st = .hold ∨ s.chain.st = .resync → afterDetectors f s = s) ∧
    (s.chain.st = .warmup →
      (afterDetectors f s).chain.expSt = s.chain.expSt ∧ (afterDetectors f s).chain.expBuf = s.chain.expBuf)) ∧
  ∀ (s : State) (r : Req) (body : List Byte), s.takes r 1 → body.length = 1 →
    let k := field body 0 1
    (k = 0 ∨ 7 < k → exec (.snapshotRead r body) s = .next (answered s s r 0x15 .range)) ∧
    (1 ≤ k → k ≤ 7 → s.chain.expSt ≠ .ready →
      exec (.snapshotRead r body) s = .next (answered s s r 0x15 .empty)) ∧
    (1 ≤ k → k ≤ 7 → s.chain.expSt = .ready → exec (.snapshotRead r body) s =
      .next (replied s s r 0x15 .done false (be 1 k ++ s.chain.expBuf.bytes k)))

/-- SNAPSHOT WRITE: NEEDS_HOLD outside HOLD, with the import state unchanged. In HOLD, a record number outside 1..7
is answered RANGE, one of 2..7 that is not the next expected CONFLICT, a record that fails its check RANGE, each
making the import INVALID; a record that passes is answered DONE, stands in the import at its place, and advances it.
Record 1 passes with a rate of the five, each shift and the CF scale in its range, and a map that puts each component at a
link position, no two at one (that a shared position is refused is the model's choice, log 27); records 2 to 4 with a
24-bit mean; records 5 and 6 with averages within the bound under the CF scale of the import's own record 1; record 7 with
a record count of 7. Record 1 discards the earlier contents of the import in every case, the blank record standing for none
(log 22). -/
def Obligations.SnapshotWriteTakesRecordsInOrder : Prop :=
  ∀ (s : State) (r : Req) (body : List Byte), s.takes r 0 → body.length = 17 →
    let k := field body 0 1
    let next := s.chain.impSt.next
    let held := if k = 1 then blankSnapshot else s.chain.impBuf
    let invalid := { s with chain := { s.chain with impSt := .invalid } }
    let rec1 := body.drop 1
    let code := field rec1 2 1
    let place (x : Nat) : LinkPos := if x = 0 then .a else if x = 1 then .b else .c
    let pz := code % 4
    let pn := code / 4 % 4
    let pe := code / 16
    let mean := fieldInt rec1 0 4
    let sta := field rec1 0 8
    let lta := field rec1 8 8
    let within (i lo hi : Nat) : Prop := lo ≤ field rec1 i 1 ∧ field rec1 i 1 ≤ hi
    let passes : Prop :=
      (k = 1 → field rec1 0 2 ∈ [50, 100, 200, 250, 500] ∧ (pz ≤ 2 ∧ pn ≤ 2 ∧ pe ≤ 2) ∧
        (pz ≠ pn ∧ pz ≠ pe ∧ pn ≠ pe) ∧ within 3 4 16 ∧ within 4 0 8 ∧ within 5 2 8 ∧ within 6 1 8 ∧ within 7 1 8 ∧
        within 8 1 10 ∧ within 9 1 10) ∧
      (2 ≤ k ∧ k ≤ 4 → -8388608 ≤ mean ∧ mean ≤ 8388607) ∧
      (k = 5 → sta ≤ 2 ^ (54 - 2 * held.header.cf) ∧ lta ≤ 2 ^ (54 - 2 * held.header.cf)) ∧
      (k = 6 → sta ≤ 2 ^ (55 - 2 * held.header.cf) ∧ lta ≤ 2 ^ (55 - 2 * held.header.cf)) ∧
      (k = 7 → field rec1 0 1 = 7)
    let taken : Snapshot :=
      match k with
      | 1 => { held with header := ⟨field rec1 0 2, ⟨place pz, place pn, place pe⟩, field rec1 3 1, field rec1 4 1,
          field rec1 5 1, ⟨field rec1 6 1, field rec1 7 1⟩, ⟨field rec1 8 1, field rec1 9 1⟩⟩ }
      | 2 => { held with mean := { held.mean with z := mean } }
      | 3 => { held with mean := { held.mean with n := mean } }
      | 4 => { held with mean := { held.mean with e := mean } }
      | 5 => { held with avg := { held.avg with z := ⟨sta, lta⟩ } }
      | 6 => { held with avg := { held.avg with h := ⟨sta, lta⟩ } }
      | _ => { held with count := 7, sample := BitVec.ofNat 32 (field rec1 1 4) }
    (s.chain.st ≠ .hold → exec (.snapshotWrite r body) s = .next (answered s s r 0x16 .needsHold)) ∧
    (s.chain.st = .hold → k = 0 ∨ 7 < k →
      exec (.snapshotWrite r body) s = .next (answered s invalid r 0x16 .range)) ∧
    (s.chain.st = .hold → 2 ≤ k → k ≤ 7 → k ≠ next →
      exec (.snapshotWrite r body) s = .next (answered s invalid r 0x16 .conflict)) ∧
    (s.chain.st = .hold → 1 ≤ k → k ≤ 7 → k = 1 ∨ k = next → ¬ passes →
      exec (.snapshotWrite r body) s = .next (answered s
        { s with chain := { s.chain with impSt := .invalid, impBuf := held } } r 0x16 .range)) ∧
    (s.chain.st = .hold → 1 ≤ k → k ≤ 7 → k = 1 ∨ k = next → passes →
      exec (.snapshotWrite r body) s = .next (answered s
        { s with chain := { s.chain with impSt := if k = 7 then .valid else .importing k, impBuf := taken } }
        r 0x16 .done))

/-! ## Chain and blanking requests -/

/-- CHAIN HOLD: in HOLD nothing changes. From any other state every OPEN slot closes at the newest sample with
TRUNCATED, both detectors go to OFF with their averages and pending lost-trigger counts kept, and both end samples
become none. -/
def Obligations.ChainHoldStopsTheChain : Prop :=
  ∀ (s : State) (r : Req), s.takes r 1 →
    (s.chain.st = .hold → exec (.chainHold r []) s = .next (answered s s r 0x03 .done)) ∧
    (s.chain.st ≠ .hold → s.queueAgrees → ∃ c : State,
      closes s c (byTrigger s (s.slotsIn .opened)) (fun i => s.newest.getD (s.slot i).close)
        (fun _ => { truncated := true }) ∧
      exec (.chainHold r []) s = .next (answered s
        { c with
          det := ⟨offDetector s.det.z, offDetector s.det.h⟩
          chain := { s.chain with st := .hold, blankEnd := none, pauseEnd := none } }
        r 0x03 .done))

/-- CHAIN RUN, in each of its rows: a mode byte of 3 or more is answered RANGE, then a chain state other than HOLD
STATE; nothing changes. From HOLD:
LEARN enters WARMUP with block count 0, both detectors WARMING with averages, learn sum, block and owed counts 0;
IMMEDIATE enters RUN with both averages of each detector at 256 times its floor, nothing owed, no block begun and both
detectors QUIET; RESTORE is refused NO_SNAPSHOT without a VALID import (one in IMPORTING becomes INVALID), MISMATCH
when its header differs from the present settings, and otherwise loads the snapshot's means and averages and enters RUN
by the entry test on them, the import staying VALID. Each accepted mode disarms the autostart. -/
def Obligations.ChainRunStartsTheChain : Prop :=
  ∀ (s : State) (r : Req) (body : List Byte), s.takes r 1 → body.length = 1 →
    let mode := field body 0 1
    let p := s.active
    let sn := s.chain.impBuf
    let present : Header := ⟨s.settings.station.rate, s.settings.station.map, p.hp, p.cf, p.blk,
      ⟨p.det.z.sta, p.det.h.sta⟩, ⟨p.det.z.lta, p.det.h.lta⟩⟩
    let floored (q : DetParams) (d : Detector) : Detector := { d with
      st := .quiet, sta := 256 * q.floor, lta := 256 * q.floor, blkSum := 0, blkCount := 0, owed := 0, forced := false }
    let restored (q : DetParams) (a : Averages) (d : Detector) : Detector :=
      entryTested q { d with sta := a.sta, lta := a.lta, blkSum := 0, blkCount := 0 }
    (∀ c ∈ [Instr.chainRunLearn r body, .chainRunRestore r body, .chainRunImmediate r body],
      (3 ≤ mode → exec c s = .next (answered s s r 0x04 .range)) ∧
      (mode < 3 → s.chain.st ≠ .hold → exec c s = .next (answered s s r 0x04 .state))) ∧
    (s.chain.st = .hold → mode = 0 → exec (.chainRunLearn r body) s = .next (answered s
      { s with
        det := ⟨learnDetector s.det.z, learnDetector s.det.h⟩
        chain := { s.chain with
          st := .warmup, k := 0, blankEnd := none, pauseEnd := none, armed := false
          impSt := importLeft s.chain.impSt } }
      r 0x04 .done)) ∧
    (s.chain.st = .hold → mode = 2 → p.legal → exec (.chainRunImmediate r body) s = .next (answered s
      { s with
        det := ⟨floored p.det.z s.det.z, floored p.det.h s.det.h⟩
        chain := { s.chain with st := .run, armed := false, impSt := importLeft s.chain.impSt } }
      r 0x04 .done)) ∧
    (s.chain.st = .hold → mode = 1 → s.chain.impSt ≠ .valid → exec (.chainRunRestore r body) s = .next (answered s
      { s with chain := { s.chain with impSt := importLeft s.chain.impSt } } r 0x04 .noSnapshot)) ∧
    (s.chain.st = .hold → mode = 1 → s.chain.impSt = .valid → sn.header ≠ present →
      exec (.chainRunRestore r body) s = .next (answered s s r 0x04 .mismatch)) ∧
    (s.chain.st = .hold → mode = 1 → s.chain.impSt = .valid → sn.header = present →
      exec (.chainRunRestore r body) s = .next (answered s
        { s with
          dc := ⟨some sn.mean.z, some sn.mean.n, some sn.mean.e⟩
          det := ⟨restored p.det.z sn.avg.z s.det.z, restored p.det.h sn.avg.h s.det.h⟩
          chain := { s.chain with st := .run, armed := false } }
        r 0x04 .done))

/-- BLANK n: NEEDS_RUN outside RUN or before a first frame, then RANGE for a count of 0. In force already, the end
becomes the later of the two; otherwise it becomes the newest sample plus n, every OPEN slot closes there and then
with BLANKED and TRUNCATED, and both detectors go to BLANKED. -/
def Obligations.BlankStartsOrExtendsBlanking : Prop :=
  ∀ (s : State) (r : Req) (body : List Byte), s.takes r 2 → body.length = 2 →
    let count := field body 0 2
    (s.chain.st ≠ .run ∨ s.newest = none →
      exec (.blank r body) s = .next (answered s s r 0x05 .needsRun)) ∧
    (s.chain.st = .run → s.newest.isSome → count = 0 →
      exec (.blank r body) s = .next (answered s s r 0x05 .range)) ∧
    ∀ n : Sample, s.chain.st = .run → s.newest = some n → 1 ≤ count →
      (∀ e : Sample, s.chain.blankEnd = some e → exec (.blank r body) s = .next (answered s
        { s with chain := { s.chain with
          blankEnd := some (if 0 ≤ distance e (n + BitVec.ofNat 32 count) then n + BitVec.ofNat 32 count else e) } }
        r 0x05 .done)) ∧
      (s.chain.blankEnd = none → s.queueAgrees → ∃ c : State,
        closes s c (byTrigger s (s.slotsIn .opened)) (fun _ => n) (fun _ => { blanked := true, truncated := true }) ∧
        exec (.blank r body) s = .next (answered s
          { c with
            det := ⟨blankedDetector s.det.z, blankedDetector s.det.h⟩
            chain := { s.chain with blankEnd := some (n + BitVec.ofNat 32 count) } }
          r 0x05 .done))

/-! ## Slot requests -/

/-- SLOT CLOSE k: RANGE outside 0..7, STATE for a slot that is not OPEN. With the minimum window elapsed the slot
closes at the newest sample, TRUNCATED if short of its full window; before that its close sample alone moves. The
reply carries the slot's close sample. -/
def Obligations.SlotCloseClosesOrDefers : Prop :=
  ∀ (s : State) (r : Req) (body : List Byte), s.takes r 1 → body.length = 1 →
    (8 ≤ field body 0 1 → exec (.slotClose r body) s = .next (answered s s r 0x06 .range)) ∧
    ∀ (i : Fin 8) (n : Sample), field body 0 1 = i.val →
      let x := s.slot i
      (x.st ≠ .opened → exec (.slotClose r body) s = .next (answered s s r 0x06 .state)) ∧
      (x.st = .opened → s.newest = some n → distance x.trigger n + 1 < x.params.lmin →
        let close := earlier x.close (x.trigger + BitVec.ofNat 32 (x.params.lmin - 1))
        exec (.slotClose r body) s = .next (replied s
          { s with table := { s.table with slots := s.table.slots.set i { x with close := close } } }
          r 0x06 .done false (be 1 i.val ++ be 4 close.toNat))) ∧
      (x.st = .opened → s.newest = some n → x.params.lmin ≤ distance x.trigger n + 1 → s.queueAgrees →
        ∃ c : State,
          closes s c [i] (fun _ => n)
            (fun _ => { truncated := decide (0 < distance n (x.trigger + BitVec.ofNat 32 (x.params.lw - 1))) }) ∧
          exec (.slotClose r body) s = .next (replied s c r 0x06 .done false (be 1 i.val ++ be 4 n.toNat)))

/-- SLOT FORCE n: its four checks in their order, each leaving everything as it was; otherwise the lowest-numbered
FREE slot opens with class FORCED and the Z Detector's effective LTA, ratio and mark, and closes at once with no
flag of its own if its window is already over. That an n exactly 2^31 from the newest sample, at no meaningful distance,
passes the check for RANGE and is answered LATE is the model's choice (log 24). -/
def Obligations.SlotForceOpensAForcedSlot : Prop :=
  ∀ (s : State) (r : Req) (body : List Byte), s.takes r 2 → body.length = 4 →
    let t : Sample := BitVec.ofNat 32 (field body 0 4)
    let p := s.active
    (s.chain.st ≠ .run ∨ s.newest = none →
      exec (.slotForce r body) s = .next (answered s s r 0x07 .needsRun)) ∧
    ∀ n : Sample, s.chain.st = .run → s.newest = some n →
      let late : Sample := n - BitVec.ofNat 32 (16384 - p.lw - p.lb)
      (0 < distance n t → exec (.slotForce r body) s = .next (answered s s r 0x07 .range)) ∧
      (distance n t ≤ 0 → 0 < distance t late →
        exec (.slotForce r body) s = .next (answered s s r 0x07 .late)) ∧
      (distance n t ≤ 0 → distance t late ≤ 0 → (∀ i : Fin 8, (s.slot i).st ≠ .free) →
        exec (.slotForce r body) s = .next (answered s s r 0x07 .full)) ∧
      ∀ i : Fin 8, distance n t ≤ 0 → distance t late ≤ 0 → (s.slot i).st = .free →
        (∀ j : Fin 8, j < i → (s.slot j).st ≠ .free) →
        let z := s.det.z
        let eff := max z.lta (max (256 * p.det.z.floor) 1)
        let close := t + BitVec.ofNat 32 (p.lw - 1)
        let x : Slot := {
          st := .opened, cls := .forced, trigger := t, close := close, ltaTrig := eff
          peak := min (16 * z.sta / eff) 65535, retrig := 0, lost := 0, profile := s.settings.active
          params := copyParams p .z, flags := { baselineForced := z.forced }
          pin := none, order := none, record := none }
        let o := { s with table := { s.table with slots := s.table.slots.set i x } }
        let data := be 1 i.val ++ be 4 close.toNat
        (0 < distance n close →
          exec (.slotForce r body) s = .next (replied s o r 0x07 .done false data)) ∧
        (distance n close ≤ 0 → s.queueAgrees → ∃ c : State,
          closes o c [i] (fun _ => close) (fun _ => {}) ∧
          exec (.slotForce r body) s = .next (replied s c r 0x07 .done false data))

/-! ## Profiles, locks, station record and gates -/

/-- PROFILE WRITE: an entry number outside 0..7, or an item identifier outside the 33, is answered RANGE. Then the
checks follow in their order, each leaving everything as it was: LEVEL above the lower of the entry's level and the
class level of what is written, LOCKED, NEEDS_HOLD for a structural change of the active entry, RANGE, CONFLICT. A
write that passes stores the entry, discards its trials, and brings the averages down to the bound of a new scale. -/
def Obligations.ProfileWriteChecksThenStores : Prop :=
  ∀ (s : State) (r : Req) (body : List Byte), s.portFree → r.level.toNat ≤ 3 →
    body.length = 6 ∨ body.length = 133 →
    let eff := max r.level.toNat s.floor
    (8 ≤ field body 0 1 ∨ (body.length = 6 ∧ 33 ≤ field body 1 1) →
      exec (.profileWrite r body) s = .next (answered s s r 0x09 .range)) ∧
    ∀ (e : Fin 8) (new : Profile) (cls : Nat) (ranged : Bool), field body 0 1 = e.val →
      let old := s.settings.profiles[e]
      let lock := s.settings.profileLock[e]
      (body.length = 6 ∧ ∃ i : Item, itemOf (field body 1 1) = some i ∧ new = old.put i (field body 2 4) ∧
          cls = i.cls ∧ ranged = (decide (i.lo ≤ field body 2 4) && decide (field body 2 4 ≤ i.hi))) ∨
        (body.length = 133 ∧ new = old.ofValues (fields4 body 1 33) ∧ cls = wholeClass old new ∧
          ranged = new.inRange) →
      let structural := s.settings.active = e ∧ structuralDiffer old new = true
      let allowed := lockAllows lock eff r.protect s.settings.station.strict = true
      (min old.level cls < eff → exec (.profileWrite r body) s = .next (answered s s r 0x09 .level)) ∧
      (eff ≤ min old.level cls → ¬ allowed →
        exec (.profileWrite r body) s = .next (answered s s r 0x09 .locked)) ∧
      (eff ≤ min old.level cls → allowed → structural → s.chain.st ≠ .hold →
        exec (.profileWrite r body) s = .next (answered s s r 0x09 .needsHold)) ∧
      (eff ≤ min old.level cls → allowed → ¬ (structural ∧ s.chain.st ≠ .hold) → ranged = false →
        exec (.profileWrite r body) s = .next (answered s s r 0x09 .range)) ∧
      (eff ≤ min old.level cls → allowed → ¬ (structural ∧ s.chain.st ≠ .hold) → ranged = true →
        new.consistent = false → exec (.profileWrite r body) s = .next (answered s s r 0x09 .conflict)) ∧
      (eff ≤ min old.level cls → allowed → ¬ (structural ∧ s.chain.st ≠ .hold) → ranged = true →
        new.consistent = true →
        let bounded (bits : Nat) (d : Detector) : Detector :=
          { d with sta := min d.sta (2 ^ (bits - 2 * new.cf)), lta := min d.lta (2 ^ (bits - 2 * new.cf)) }
        exec (.profileWrite r body) s = .next (answered s
          { s with
            settings := { s.settings with profiles := s.settings.profiles.set e new }
            revert := s.revert.filter fun t => t.entry != e
            det := if structural then ⟨bounded 54 s.det.z, bounded 55 s.det.h⟩ else s.det }
          r 0x09 .done))

/-- PROFILE LOCK: a target or state outside the tables is answered RANGE; otherwise the target's lock moves as the
transition table says, or the reply is LOCKED. An OPEN lock takes any state, a LINE lock stays LINE or, with PROTECT
high or at effective level 0 with STRICT clear, takes any, POWER and FIXED take none; POWER keeps the state it was
made from as its underlying one. Only the target's lock changes. -/
def Obligations.ProfileLockFollowsTheTransitionTable : Prop :=
  ∀ (s : State) (r : Req) (body : List Byte), s.takes r 0 → body.length = 2 →
    let target := field body 0 1
    let code := field body 1 1
    let table := s.settings
    (9 < target ∨ 3 < code → exec (.profileLock r body) s = .next (answered s s r 0x0B .range)) ∧
    ∀ present : Lock, code ≤ 3 →
      (∀ e : Fin 8, target = e.val → present = table.profileLock[e]) →
      (target = 8 → present = table.stationLock) → (target = 9 → present = table.gateLock) → target ≤ 9 →
      let asked (b : BaseLock) : Lock :=
        if code = 0 then .base .opened else if code = 1 then .base .line else if code = 2 then .power b else .base .fixed
      let pass := r.protect = true ∨ table.station.strict = false
      let put (l : Lock) : Settings :=
        if h : target < 8 then { table with profileLock := table.profileLock.set target l h }
        else if target = 8 then { table with stationLock := l } else { table with gateLock := l }
      (∀ b : BaseLock, present = .base b → b = .opened ∨ (b = .line ∧ (code = 1 ∨ pass)) →
        exec (.profileLock r body) s = .next (answered s { s with settings := put (asked b) } r 0x0B .done)) ∧
      (present = .base .line → code ≠ 1 → ¬ pass →
        exec (.profileLock r body) s = .next (answered s s r 0x0B .locked)) ∧
      (∀ b : BaseLock, present = .power b →
        exec (.profileLock r body) s = .next (answered s s r 0x0B .locked)) ∧
      (present = .base .fixed → exec (.profileLock r body) s = .next (answered s s r 0x0B .locked))

/-- STATION WRITE, after its level check: LOCKED, then NEEDS_HOLD, then RANGE for a value or identifier outside its
range, then CONFLICT for a map that is not one to one, each leaving everything as it was. A write that passes
replaces the record; a changed map unsets all three DC means, a changed polarity or trim gain that component's. -/
def Obligations.StationWriteChecksThenStores : Prop :=
  ∀ (s : State) (r : Req) (body : List Byte), s.takes r 0 → body.length = 5 ∨ body.length = 64 →
    let old := s.settings.station
    let items : List (Nat × Nat) :=
      if body.length = 5 then [(field body 0 1, field body 1 4)] else (List.range 16).zip (fields4 body 0 16)
    let new := old.putAll items
    let allowed := lockAllows s.settings.stationLock (max r.level.toNat s.floor) r.protect old.strict = true
    let ranged := ∀ iv ∈ items, stationInRange iv.1 iv.2 = true
    (¬ allowed → exec (.stationWrite r body) s = .next (answered s s r 0x0D .locked)) ∧
    (allowed → s.chain.st ≠ .hold → exec (.stationWrite r body) s = .next (answered s s r 0x0D .needsHold)) ∧
    (allowed → s.chain.st = .hold → ¬ ranged →
      exec (.stationWrite r body) s = .next (answered s s r 0x0D .range)) ∧
    (allowed → s.chain.st = .hold → ranged → mapOneToOne new.map = false →
      exec (.stationWrite r body) s = .next (answered s s r 0x0D .conflict)) ∧
    (allowed → s.chain.st = .hold → ranged → mapOneToOne new.map = true →
      exec (.stationWrite r body) s = .next (answered s
        { s with
          settings := { s.settings with station := new }
          dc := ⟨if old.map ≠ new.map ∨ old.inverted.z ≠ new.inverted.z ∨ old.trim.z ≠ new.trim.z then none else s.dc.z,
            if old.map ≠ new.map ∨ old.inverted.n ≠ new.inverted.n ∨ old.trim.n ≠ new.trim.n then none else s.dc.n,
            if old.map ≠ new.map ∨ old.inverted.e ≠ new.inverted.e ∨ old.trim.e ≠ new.trim.e then none else s.dc.e⟩ }
        r 0x0D .done))

/-- GATE WRITE, after its level check: RANGE for a gate number outside 0..15 or a valid byte that is neither 0 nor
1, then LOCKED, then for a gate written valid RANGE and CONFLICT, each leaving everything as it was. A write that
passes stores every field of that gate, and touches no trial. -/
def Obligations.GateWriteChecksThenStores : Prop :=
  ∀ (s : State) (r : Req) (body : List Byte), s.takes r 0 → body.length = 17 →
    let g := gateOf body
    let allowed :=
      lockAllows s.settings.gateLock (max r.level.toNat s.floor) r.protect s.settings.station.strict = true
    (16 ≤ field body 0 1 ∨ 2 ≤ field body 1 1 →
      exec (.gateWrite r body) s = .next (answered s s r 0x0F .range)) ∧
    ∀ k : Fin 16, field body 0 1 = k.val → field body 1 1 ≤ 1 →
      (¬ allowed → exec (.gateWrite r body) s = .next (answered s s r 0x0F .locked)) ∧
      (allowed → g.valid = true → g.inRange = false →
        exec (.gateWrite r body) s = .next (answered s s r 0x0F .range)) ∧
      (allowed → g.valid = true → g.inRange = true → g.consistent = false →
        exec (.gateWrite r body) s = .next (answered s s r 0x0F .conflict)) ∧
      (allowed → g.valid = false ∨ (g.inRange = true ∧ g.consistent = true) →
        exec (.gateWrite r body) s = .next (answered s
          { s with settings := { s.settings with gates := s.settings.gates.set k g } } r 0x0F .done))

/-! ## Adjustments and the store -/

/-- ADJUST in either mode: its checks in their order, each leaving everything as it was: RANGE for a gate number or
mode outside the tables, NOT_FOUND for a gate that is not valid, LEVEL above the gate level and, for SET, above the
SET level, LOCKED for the resolved entry, and for TRY FULL at 8 entries and STATE without a newest sample. -/
def Obligations.AdjustChecksInOrder : Prop :=
  ∀ (s : State) (r : Req) (body : List Byte), s.portFree → r.level.toNat ≤ 3 → body.length = 9 →
    ∀ c ∈ [Instr.adjustSet r body, .adjustTry r body],
      let eff := max r.level.toNat s.floor
      let mode := field body 1 1
      (16 ≤ field body 0 1 ∨ 2 ≤ mode → exec c s = .next (answered s s r 0x10 .range)) ∧
      ∀ k : Fin 16, field body 0 1 = k.val → mode ≤ 1 →
        let g := s.settings.gates[k]
        let e := g.resolve s.settings.active
        let allowed := lockAllows s.settings.profileLock[e] eff r.protect s.settings.station.strict = true
        (g.valid = false → exec c s = .next (answered s s r 0x10 .notFound)) ∧
        (g.valid = true → g.level < eff ∨ (mode = 0 ∧ g.setLevel < eff) →
          exec c s = .next (answered s s r 0x10 .level)) ∧
        (g.valid = true → eff ≤ g.level → mode = 1 ∨ eff ≤ g.setLevel → ¬ allowed →
          exec c s = .next (answered s s r 0x10 .locked)) ∧
        (g.valid = true → eff ≤ g.level → mode = 1 → allowed → 8 ≤ s.revert.length →
          exec c s = .next (answered s s r 0x10 .full)) ∧
        (g.valid = true → eff ≤ g.level → mode = 1 → allowed → s.revert.length < 8 → s.newest = none →
          exec c s = .next (answered s s r 0x10 .state))

/-- ADJUST in SET mode with its checks passed stores the clamped value in the resolved entry and discards every
trial on that entry, the others keeping their order. The reply carries entry, value and depth, and CLAMPED exactly
when the value applied is not the one carried. -/
def Obligations.AdjustSetStoresAndDiscards : Prop :=
  ∀ (s : State) (r : Req) (body : List Byte) (k : Fin 16), s.portFree → r.level.toNat ≤ 3 → body.length = 9 →
    field body 0 1 = k.val → field body 1 1 = 0 →
    let eff := max r.level.toNat s.floor
    let g := s.settings.gates[k]
    let e := g.resolve s.settings.active
    let p := s.settings.profiles[e]
    g.valid = true → eff ≤ g.level → eff ≤ g.setLevel →
    lockAllows s.settings.profileLock[e] eff r.protect s.settings.station.strict = true →
    let carried := fieldInt body 2 4
    let v := clampValue g p g.item carried
    let kept := s.revert.filter fun t => t.entry != e
    exec (.adjustSet r body) s = .next (replied s
      { s with
        revert := kept
        settings := { s.settings with profiles := s.settings.profiles.set e (p.put g.item v) } }
      r 0x10 .done (decide ((v : Int) ≠ carried)) (be 1 e.val ++ be 4 v ++ be 4 0 ++ be 1 kept.length))

/-- ADJUST in TRY mode with its checks passed pushes one entry that holds the profile entry, the parameter, its
value before and after, the effective level and the newest sample plus the clamped duration, and stores the clamped
value. The reply carries entry, value, expiry and depth, and CLAMPED when value or duration was clamped. -/
def Obligations.AdjustTryPushesATrial : Prop :=
  ∀ (s : State) (r : Req) (body : List Byte) (k : Fin 16) (n : Sample), s.portFree → r.level.toNat ≤ 3 →
    body.length = 9 → field body 0 1 = k.val → field body 1 1 = 1 →
    let eff := max r.level.toNat s.floor
    let g := s.settings.gates[k]
    let e := g.resolve s.settings.active
    let p := s.settings.profiles[e]
    g.valid = true → eff ≤ g.level →
    lockAllows s.settings.profileLock[e] eff r.protect s.settings.station.strict = true →
    s.revert.length < 8 → s.newest = some n → 1 ≤ g.dur →
    let carried := fieldInt body 2 4
    let v := clampValue g p g.item carried
    let asked := field body 6 3
    let d := max 1 (min asked g.dur)
    let expiry : Sample := n + BitVec.ofNat 32 d
    exec (.adjustTry r body) s = .next (replied s
      { s with
        revert := ⟨e, g.item, p.get g.item, v, eff, expiry⟩ :: s.revert
        settings := { s.settings with profiles := s.settings.profiles.set e (p.put g.item v) } }
      r 0x10 .done (decide ((v : Int) ≠ carried) || decide (d ≠ asked))
      (be 1 e.val ++ be 4 v ++ be 4 expiry.toNat ++ be 1 (s.revert.length + 1)))

/-- Whatever value an ADJUST carries, the value applied through a legal gate to a legal entry leaves the entry legal. The
carried value is first brought within the gate's bounds, and then, of the values that the entry's other values allow, the
nearest to that is applied: itself if it is allowed, else the nearer end of the interval of those that are. -/
def Obligations.ClampedValuesKeepTheEntryLegal : Prop :=
  ∀ (g : Gate) (p : Profile) (carried : Int), g.valid = true → g.legal → p.legal →
    let applied := clampValue g p g.item carried
    let bounded : Int := max (g.low : Int) (min (g.high : Int) carried)
    let allowed (v : Nat) : Prop := (p.put g.item v).legal
    allowed applied ∧
    (∀ v : Nat, g.low ≤ v → v ≤ g.high → allowed v → clampValue g p g.item v = v) ∧
    (∀ v : Nat, allowed v → (v : Int) = bounded → applied = v) ∧
    ∀ v : Nat, allowed v → v ≠ applied → ((applied : Int) - bounded).natAbs < ((v : Int) - bounded).natAbs

/-- STORE SAVE: BUSY while a save is in flight, nothing changed; otherwise DONE, the completion mark is cleared and
the image of the working tables is in flight. The image holds for every parameter under trial the old value of its
oldest trial, for every other its working value, and every POWER lock as its underlying state. -/
def Obligations.StoreSaveTakesTheImage : Prop :=
  ∀ (s : State) (r : Req), s.takes r 0 →
    (s.store.writing.isSome → exec (.storeSave r []) s = .next (answered s s r 0x17 .busy)) ∧
    (s.store.writing = none → ∃ im : Image,
      exec (.storeSave r []) s =
        .next (answered s { s with store := { s.store with mark := false, writing := some im } } r 0x17 .done) ∧
      im.station = s.settings.station ∧ im.gates = s.settings.gates ∧
      im.stationLock = s.settings.stationLock.under ∧ im.gateLock = s.settings.gateLock.under ∧
      ∀ e : Fin 8, im.profileLock[e] = s.settings.profileLock[e].under ∧
        ∀ i : Item, im.profiles[e].get i =
          ((s.revert.filter fun t => t.entry == e && t.item == i).getLast?.map (·.old)).getD
            (s.settings.profiles[e].get i))

/-- RESET request: answered DONE with nothing changed but a reset that becomes pending; one already pending stands.
That it is the line's reset while the RESET line is held low is the model's choice (log 9). REPLY_COMPLETE ends the
request in progress; when that request was the RESET, its reset takes effect there and then, or at the completion of a
save in flight. Any other reply leaves everything else as it was, and so does that of a RESET while the pending reset is
the RESET line's: that one takes effect at the line's release or at the save it then waits for, not at the reply (that a
request taken while the line is low joins the line's reset is log 9). That the row without a reply changes nothing is the
model's choice for an untimely row (log 2). -/
def Obligations.ResetRequestActsAfterItsReply : Prop :=
  ∀ s : State,
    (∀ (r : Req) (p : PendingReset), s.takes r 0 → s.resetPending = some p →
      exec (.reset r []) s = .next (answered s s r 0x18 .done)) ∧
    (∀ r : Req, s.takes r 0 → s.resetPending = none → exec (.reset r []) s = .next (answered s
      { s with resetPending := some ⟨if s.resetLow then .line else .request, false⟩ } r 0x18 .done)) ∧
    (s.port.busy = none → exec .replyComplete s = .next s) ∧
    ∀ rep : Reply, s.power = true → s.port.busy = some rep →
      let idle := { s with port := { s.port with busy := none } }
      (rep.kind ≠ 0x98 ∨ rep.status ≠ .done ∨ s.resetPending = none → exec .replyComplete s = .next idle) ∧
      (∀ b : Bool, s.resetPending = some ⟨.line, b⟩ → exec .replyComplete s = .next idle) ∧
      ∀ b : Bool, rep.kind = 0x98 → rep.status = .done → s.resetPending = some ⟨.request, b⟩ →
        (s.store.writing = none → exec .replyComplete s = exec .resetTakesEffect idle) ∧
        (s.store.writing.isSome → exec .replyComplete s =
          .next { idle with resetPending := some ⟨.request, true⟩ })

/-! ## Events of the serial links -/

/-- A sample frame in sequence, received whole while the link is UP. Each component takes its raw sample from the
position that the map names: inverted, the sample is negated and saturated to 24 bits; it is multiplied by the trim
gain over 32,768, floored and saturated; it is clipped if the raw magnitude reaches the clip level or the position's
over-range bit is set. With no mean the output is 0 and the mean becomes the trimmed value; otherwise the output is the
trimmed value less the mean, saturated, and the mean rises by the output over 2^h, floored. The frame becomes the newest
sample and the ring's newest entry; a full ring loses its oldest and advances the pins older than what remains, with
HISTORY_SHORT. The conditioned frame is then handed to each recipient once, in some order, the Chain Controller's last act
behind both detectors and the recentre flag (log 3) and the Slot Table's acts part of its detector's (the model's choice,
log 29). Without that flag each detector is what its own processing of this
frame leaves, by the active entry as it stands before or after the trials that end at the frame, but for a count that a
crossing moves, the entry test at a blanking's end, and warm-up's block and pause ends. Number, silence timer and Time Base
follow the frame; station record, store, floor and port are not touched. Bytes behind the frame are taken next. The model's
choices: the command's tick is the arrival of every frame its bytes complete (log 26), and a timer due before it expires
first, by its own row (log 5). -/
def Obligations.InOrderFrameIsConditioned : Prop :=
  (∀ (s : State) (bs : List Byte) (tick : Nat), s.power = true → timersFirst (.sampleFrame bs tick) tick s) ∧
  ∀ (s : State) (f : RawFrame) (tick : Nat), s.power = true → s.intake.rx = [] → s.quietUntil tick →
    f.in24 → s.intake.link = .up → s.intake.expected = some f.seq →
    let st := s.settings.station
    let sat (x : Int) : Int := max (-8388608) (min 8388607 x)
    let sample (pos : LinkPos) : Int := match pos with | .a => f.a | .b => f.b | .c => f.c
    let ranged (pos : LinkPos) : Bool :=
      match pos with | .a => f.status.getLsbD 1 | .b => f.status.getLsbD 2 | .c => f.status.getLsbD 3
    let trim (pos : LinkPos) (inverted : Bool) (g : Nat) : Int :=
      sat ((if inverted then sat (-(sample pos)) else sample pos) * g / 32768)
    let output (mean : Option Int) (x : Int) : Int := match mean with | none => 0 | some m => sat (x - m)
    let moved (mean : Option Int) (x : Int) : Int :=
      match mean with | none => x | some m => m + sat (x - m) / (2 ^ s.active.hp : Nat)
    let clip (pos : LinkPos) (level : Nat) : Bool := decide (level ≤ (sample pos).natAbs) || ranged pos
    let z := trim st.map.z st.inverted.z st.trim.z
    let n := trim st.map.n st.inverted.n st.trim.n
    let e := trim st.map.e st.inverted.e st.trim.e
    let c : Conditioned := ⟨f.seq, ⟨output s.dc.z z, output s.dc.n n, output s.dc.e e⟩,
      ⟨clip st.map.z st.clip.z, clip st.map.n st.clip.n, clip st.map.e st.clip.e⟩, false, f.status.getLsbD 0⟩
    let full : Bool := decide (16384 ≤ s.ring.length)
    let ring := (if full then s.ring.drop 1 else s.ring) ++ [⟨f.seq, c.d, c.clip, false⟩]
    let advanced (x : Slot) : Slot :=
      match x.pin, ring.head? with
      | some q, some o =>
        if 0 < distance q o.n then { x with pin := some o.n, flags := { x.flags with historyShort := true } } else x
      | _, _ => x
    let start (drawn : Nat) : State := { (if full then s.mapSlots fun _ x => advanced x else s) with
      clock := tick
      newest := some f.seq
      dc := ⟨some (moved s.dc.z z), some (moved s.dc.n n), some (moved s.dc.e e)⟩
      ring := ring
      intake := { s.intake with lastRaw := some f, expected := some (f.seq + 1), silence := some tick }
      time := { s.time with lastFrame := some (f.seq, tick) }
      due := ⟨false, true, true⟩
      choices := s.choices + drawn }
    ∃ t, exec (.sampleFrame (sampleBytes f) tick) s = .next t ∧
      t.newest = some f.seq ∧ t.dc = (start 0).dc ∧ t.ring = ring ∧ t.intake = (start 0).intake ∧
      t.time = (start 0).time ∧ t.clock = tick ∧
      t.settings.station = s.settings.station ∧ t.settings.active = s.settings.active ∧ t.store = s.store ∧
      t.floor = s.floor ∧ t.port = s.port ∧
      (∃ (order ahead behind : List Recipient) (drawn : Nat),
        order.Perm [.detector .z, .detector .h, .recentre, .after, .stack, .assoc] ∧ order = ahead ++ .after :: behind ∧
        (.detector .z ∈ ahead ∧ .detector .h ∈ ahead ∧ .recentre ∈ ahead) ∧ drawn ≤ 1 ∧
        t = order.foldl (receive c) (start drawn)) ∧
      (c.recentre = false → ∃ pa ∈ [s.active, t.active], ∀ w : Det, ∃ prof ∈ [s.active, t.active],
        let out := detStep w prof s.chain.pauseEnd.isSome c (s.det.get w)
        let d := out.det
        let x := t.det.get w
        let mean := { d with lta := 256 * d.learn / (s.chain.k + 1) }
        (s.chain.st = .hold ∨ s.chain.st = .resync → x = d) ∧
        (s.chain.st = .run → s.chain.blankEnd = some f.seq → d.st = .blanked → x = entryTested (pa.det.get w) d) ∧
        (s.chain.st = .run → s.chain.blankEnd ≠ some f.seq ∨ d.st ≠ .blanked →
          x = { d with pendLost := x.pendLost } ∧
          (out.crossed = false → x.pendLost = d.pendLost) ∧
          (out.crossed = true → x.pendLost ∈ [d.pendLost, 0, min (d.pendLost + 1) 65535])) ∧
        (s.chain.st = .warmup → s.chain.pauseEnd = some f.seq → x = { d with learn := 0 }) ∧
        (s.chain.st = .warmup → ∀ e : Sample, s.chain.pauseEnd = some e → e ≠ f.seq → x = d) ∧
        (s.chain.st = .warmup → s.chain.pauseEnd = none →
          (f.seq.toNat % 2 ^ pa.blk ≠ 2 ^ pa.blk - 1 → x = d) ∧
          (f.seq.toNat % 2 ^ pa.blk = 2 ^ pa.blk - 1 →
            x = if pa.warm ≤ s.chain.k + 1 then entryTested (pa.det.get w) mean else mean))) ∧
      ∀ more : List Byte,
        exec (.sampleFrame (sampleBytes f ++ more) tick) s = exec (.sampleFrame more tick) t

/-- What either serial link cannot use is dropped and counted, and nothing else changes but the clock and the receiver.
Bytes that a receiver already holds and bytes that arrive are one stream. A frame that fails its check, a control frame
with a length above 240 or a CRC that does not match, is counted once, and the search resumes at the byte after its
sync: what follows is then handled as if it had come alone. A frame begun and not yet whole is held, from its first sync byte on. A sample frame
behind the expected number counts as stale. A silence inside a control frame counts it and resumes the search alike. A
silence behind a lone first sync byte is inside a frame if the next byte completes the pair: that frame is then counted, and
the search resumes behind its sync; otherwise the byte was no frame's and counts nothing. That one silence abandons every
incomplete frame in the bytes held, and when the frame so broken is counted, are the model's readings of R167 (log 11); that
a frame found by a resumed search completes at the discard, for busy and for PROTECT, is the model's choice (log 31).
Bytes that begin no sync count nothing. -/
def Obligations.DamagedAndStaleFramesAreOnlyCounted : Prop :=
  ∀ (s : State) (tick : Nat) (protect : Bool), s.power = true →
    let empty := { s with port := { s.port with rx := [] } }
    let counted := { s with port := { s.port with rx := [], discarded := min (s.port.discarded + 1) 65535 } }
    let bad := { s with intake := { s.intake with bad := min (s.intake.bad + 1) 65535 } }
    (s.quietUntil tick →
      (∀ bs : List Byte, exec (.sampleFrame bs tick) s =
        exec (.sampleFrame (s.intake.rx ++ bs) tick) { s with intake := { s.intake with rx := [] } }) ∧
      (s.intake.rx = [] →
        (∀ (f : RawFrame) (e : Sample), f.in24 → s.intake.link = .up → s.intake.expected = some e →
          distance e f.seq < 0 → exec (.sampleFrame (sampleBytes f) tick) s = .next
            { s with clock := tick, intake := { s.intake with stale := min (s.intake.stale + 1) 65535 } }) ∧
        (∀ bs : List Byte, (∀ b ∈ bs, b ≠ 0xE7) →
          exec (.sampleFrame bs tick) s = .next { s with clock := tick }) ∧
        (∀ bs : List Byte, ¬ [0xE7, 0x18] <:+: bs → exec (.sampleFrame bs tick) s = .next
          { s with clock := tick, intake := { s.intake with rx := if bs.getLast? = some 0xE7 then [0xE7] else [] } }) ∧
        ∀ pre rest : List Byte, ¬ [0xE7, 0x18] <:+: pre ++ [0xE7] →
          (rest.length < 16 → exec (.sampleFrame (pre ++ 0xE7 :: 0x18 :: rest) tick) s = .next
            { s with clock := tick, intake := { s.intake with rx := 0xE7 :: 0x18 :: rest } }) ∧
          (16 ≤ rest.length → crc16 (rest.take 14) ≠ unbe ((rest.drop 14).take 2) →
            exec (.sampleFrame (pre ++ 0xE7 :: 0x18 :: rest) tick) s = exec (.sampleFrame rest tick) bad))) ∧
    (∀ bs : List Byte, exec (.controlFrameDiscard bs protect) s =
      exec (.controlFrameDiscard (s.port.rx ++ bs) protect) empty) ∧
    (s.port.rx = [] → s.port.cut = false →
      (∀ bs : List Byte, (∀ b ∈ bs, b ≠ 0xC3) → exec (.controlFrameDiscard bs protect) s = .next s) ∧
      (∀ bs : List Byte, ¬ [0xC3, 0x3C] <:+: bs → exec (.controlFrameDiscard bs protect) s = .next
        { s with port := { s.port with rx := if bs.getLast? = some 0xC3 then [0xC3] else [] } }) ∧
      (∀ pre : List Byte, ¬ [0xC3, 0x3C] <:+: pre ++ [0xC3] →
        exec (.controlFrameDiscard (pre ++ [0xC3, 0x3C]) protect) s =
          .next { s with port := { s.port with rx := [0xC3, 0x3C] } }) ∧
      ∀ (pre : List Byte) (len : Byte) (rest : List Byte), ¬ [0xC3, 0x3C] <:+: pre ++ [0xC3] →
        let frame := pre ++ 0xC3 :: 0x3C :: len :: rest
        (240 < len.toNat → exec (.controlFrameDiscard frame protect) s =
          exec (.controlFrameDiscard (len :: rest) protect) counted) ∧
        (len.toNat ≤ 240 → rest.length < 5 + len.toNat → exec (.controlFrameDiscard frame protect) s =
          .next { s with port := { s.port with rx := 0xC3 :: 0x3C :: len :: rest } }) ∧
        (len.toNat ≤ 240 → 5 + len.toNat ≤ rest.length →
          crc16 ((len :: rest).take (4 + len.toNat)) ≠ unbe (((len :: rest).drop (4 + len.toNat)).take 2) →
          exec (.controlFrameDiscard frame protect) s =
            exec (.controlFrameDiscard (len :: rest) protect) counted)) ∧
    (s.port.rx = [] → s.port.cut = true →
      let joined := { s with port := { s.port with cut := false } }
      exec (.controlFrameDiscard [] protect) s = .next s ∧ ∀ (b : Byte) (rest : List Byte),
        (b = 0x3C → exec (.controlFrameDiscard (b :: rest) protect) s = exec (.controlFrameDiscard rest protect)
          { joined with port := { joined.port with discarded := min (s.port.discarded + 1) 65535 } }) ∧
        (b ≠ 0x3C → exec (.controlFrameDiscard (b :: rest) protect) s =
          exec (.controlFrameDiscard (b :: rest) protect) joined)) ∧
    (s.port.rx = [] → exec (.controlFrameAbandoned protect) s = .next s) ∧
    (s.port.rx = [0xC3] → exec (.controlFrameAbandoned protect) s =
      .next { s with port := { s.port with rx := [], cut := true } }) ∧
    (2 ≤ s.port.rx.length → ∃ v, exec (.controlFrameDiscard (s.port.rx.drop 2) protect) counted = .next v ∧
      exec (.controlFrameAbandoned protect) s = exec (.controlFrameAbandoned protect) v)

/-- A short gap of jump j: j filled frames that repeat the last accepted raw frame's values, numbered on from the
expected number, are conditioned one after another before the arriving frame, each with the means that the one before it
left and each marked filled; the ring receives all of them and then the arriving frame, the oldest entries leaving a full
ring. Each filled frame in its turn, and then the arriving one, is handed to both detectors, the Chain Controller, the
Revert Stack and the Association Table, each once (in an order that log 3 and log 29 leave or fix), so that the part then
stands as these have left it and in nothing else. The Time Base sees the arriving frame alone. The premise that trials are on live parameters is an invariant of its
own (StepsKeepSettingsLegal). -/
def Obligations.ShortGapIsFilled : Prop :=
  ∀ (s : State) (f raw : RawFrame) (tick j : Nat) (e : Sample), s.power = true → s.intake.rx = [] →
    s.quietUntil tick → f.in24 → s.intake.link = .up → s.intake.expected = some e → s.intake.lastRaw = some raw →
    distance e f.seq = j → 1 ≤ j → j ≤ s.settings.station.gap → s.trialsLive →
    let fills : List (RawFrame × Bool) := (List.range j).map fun i => ({ raw with seq := e + BitVec.ofNat 32 i }, true)
    let frames := fills ++ [(f, false)]
    let push (ring : List RingEntry) (x : RingEntry) : List RingEntry :=
      (if ring.length < 16384 then ring else ring.drop 1) ++ [x]
    let take (acc : List RingEntry × Trio (Option Int)) (x : RawFrame × Bool) : List RingEntry × Trio (Option Int) :=
      let c := conditioned { s with dc := acc.2 } x.1 x.2
      (push acc.1 ⟨x.1.seq, c.1.d, c.1.clip, x.2⟩, c.2)
    ∃ t, exec (.sampleFrame (sampleBytes f) tick) s = .next t ∧
      (∃ v, handedOnAll fills { s with clock := tick } v ∧
        handedOn { v with intake := t.intake, time := t.time } t f false) ∧
      (t.ring, t.dc) = frames.foldl take (s.ring, s.dc) ∧
      t.intake = { s.intake with
        lastRaw := some f, expected := some (f.seq + 1), silence := some tick
        filled := min (s.intake.filled + j) 65535 } ∧
      t.time = { s.time with lastFrame := some (f.seq, tick) } ∧ t.newest = some f.seq

/-- A sample frame in sequence whose recentre flag is set, T being the active recentre tail before or after the trials
that expire at this frame (R165 leaves which). In RUN the blanking end becomes r + T, or the later of that and the end in
force; every detector is BLANKED with its averages held, but for an end that is this frame itself, where blanking ends
again by the entry tests; with no blanking in force before, every OPEN slot has closed at r, with BLANKED and TRUNCATED or
by its own auto-close at r. In WARMUP the pause end becomes r + T or the later one, both detectors hold their averages and
block, a block end discards the block, and a pause that ends at this frame restarts block count and learn sums at 0. In
HOLD and RESYNC the chain takes no notice. That the flagged frame itself, where it ends a block, discards that block is the
model's deduction (log 16). -/
def Obligations.RecentreFlagBlanksOrPauses : Prop :=
  ∀ (s : State) (f : RawFrame) (tick : Nat), s.power = true → s.intake.rx = [] → s.quietUntil tick →
    f.in24 → s.intake.link = .up → s.intake.expected = some f.seq → f.status.getLsbD 0 = true →
    s.chainAgrees → s.queueAgrees → s.trialsLive →
    let last := f.seq.toNat % 2 ^ s.active.blk = 2 ^ s.active.blk - 1
    let extended (cur : Option Sample) (tail : Nat) : Sample :=
      let e := f.seq + BitVec.ofNat 32 tail
      match cur with
      | none => e
      | some c => if 0 ≤ distance c e then e else c
    ∃ t, exec (.sampleFrame (sampleBytes f) tick) s = .next t ∧ t.chain.st = s.chain.st ∧
      (s.chain.st = .hold ∨ s.chain.st = .resync → t.chain = s.chain) ∧
      (s.chain.st = .run → ∃ tail ∈ [s.active.tail, t.active.tail],
        let e := extended s.chain.blankEnd tail
        (∀ d ∈ [(s.det.z, t.det.z), (s.det.h, t.det.h)], d.2.sta = d.1.sta ∧ d.2.lta = d.1.lta ∧
          (last → d.2.blkSum = 0 ∧ d.2.blkCount = 0) ∧
          (¬ last → d.2.blkSum = d.1.blkSum ∧ d.2.blkCount = d.1.blkCount) ∧
          (e ≠ f.seq → d.2.st = .blanked) ∧ (e = f.seq → d.2.st = .quiet ∨ d.2.st = .triggered)) ∧
        t.chain.blankEnd = if e = f.seq then none else some e) ∧
      (s.chain.st = .run → s.chain.blankEnd = none → ∀ i : Fin 8, (s.slot i).st = .opened →
        ((t.slot i).st = .closed ∨ (t.slot i).st = .refining) ∧ (t.slot i).close = f.seq ∧
        ((t.slot i).flags.blanked = true ∧ (t.slot i).flags.truncated = true ∨ (s.slot i).close = f.seq)) ∧
      (s.chain.st = .warmup → ∃ tail ∈ [s.active.tail, t.active.tail],
        let e := extended s.chain.pauseEnd tail
        let held (d : Detector) : Detector := { d with
          blkSum := if last then 0 else d.blkSum, blkCount := if last then 0 else d.blkCount
          learn := if e = f.seq then 0 else d.learn }
        t.det = ⟨held s.det.z, held s.det.h⟩ ∧ t.chain = { s.chain with
          pauseEnd := if e = f.seq then none else some e, k := if e = f.seq then 0 else s.chain.k })

/-- A long gap, and any good frame while the link is DOWN, start a new record at the arriving frame: the ring holds that
frame alone, the means start again from it, and it is handed to every recipient with the ring as the emptying left it. Every
OPEN (log 8), CLOSED and REFINING slot completes: the one in hand first, then the queue from its head, then the OPEN ones in
the order of their triggers, each taking the next completion order. Its record is that of its trigger alone, converted as
the Time Base stands: no share, sums or peaks, the call of its class with CONTEXT_CALL for Z and H, the slot's own SNR and
counts, weight 3, HISTORY_SHORT, an OPEN one with GAP and TRUNCATED too, and TIME_STEP in the first of them alone, which
takes the mark. The slot then waits in DONE, or its record has been admitted, those admitted numbered in that same order.
The chain is in a fresh warm-up, blanking ended (at a resumption log 8), but for HOLD, which an armed autostart alone
leaves, an import in progress then INVALID: both detectors are set up for LEARN, their averages, learn sums, owed counts and
blocks at 0, and k is 0, before the frame is handed on; in HOLD the block in progress alone is dropped. A long gap counts one and raises LONG_GAP with the expected and the arriving number: it waits or is in the queue.
The premise of the numbering is an invariant of its own (StepsKeepTheReportQueue). -/
def Obligations.ResynchronisingFrameStartsANewRecord : Prop :=
  ∀ (s : State) (f : RawFrame) (tick : Nat), s.power = true → s.intake.rx = [] → s.quietUntil tick → f.in24 →
    s.queueAgrees → s.slotsAgree → s.settingsLegal →
    (s.intake.link = .down ∨ ∃ e, s.intake.link = .up ∧ s.intake.expected = some e ∧
      (s.settings.station.gap : Int) < distance e f.seq) →
    let c := conditioned { s with dc := ⟨none, none, none⟩ } f false
    let stays := s.chain.st = .hold ∧
      ¬ (s.intake.link = .down ∧ s.chain.armed = true ∧ s.settings.station.autostart = true)
    let order := (s.unit.map (·.slot)).toList ++ s.table.queue ++ byTrigger s (s.slotsIn .opened)
    let ended (d : Detector) : Detector := { d with blkSum := 0, blkCount := 0 }
    let date := s.reports.waiting + (if s.intake.link = .up ∧ s.reports.notices[1] = none then 1 else 0)
    ∃ t, exec (.sampleFrame (sampleBytes f) tick) s = .next t ∧
      t.ring = [⟨f.seq, c.1.d, c.1.clip, false⟩] ∧ t.dc = c.2 ∧ t.newest = some f.seq ∧
      t.intake = { s.intake with
        link := .up, lastRaw := some f, expected := some (f.seq + 1), silence := some tick
        gaps := if s.intake.link = .up then min (s.intake.gaps + 1) 65535 else s.intake.gaps } ∧
      (∃ v, v.ring = [] ∧ v.dc = ⟨none, none, none⟩ ∧ v.settings = s.settings ∧ v.revert = s.revert ∧
        (stays → v.det = ⟨ended s.det.z, ended s.det.h⟩ ∧
          v.chain = { s.chain with armed := s.chain.armed && decide (s.intake.link = .up) }) ∧
        (¬ stays → v.det = ⟨learnDetector s.det.z, learnDetector s.det.h⟩ ∧
          v.chain = { s.chain with
            st := .warmup, k := 0, blankEnd := none, pauseEnd := none
            armed := s.chain.armed && decide (s.chain.st ≠ .hold)
            impSt := if s.chain.st = .hold then importLeft s.chain.impSt else s.chain.impSt }) ∧
        handedOn v t f false) ∧
      (∀ i : Fin 8, (s.slot i).st = .opened ∨ (s.slot i).st = .closed ∨ (s.slot i).st = .refining ↔ i ∈ order) ∧
      order.Nodup ∧ t.time = { s.time with lastFrame := some (f.seq, tick), step := s.time.step && order.isEmpty } ∧
      (∃ seq : Nat → BitVec 32, (s.waitsOnlyWhenFull → ∃ base, ∀ k, seq k = base + BitVec.ofNat 32 k) ∧
        ∀ (k : Nat) (i : Fin 8), order[k]? = some i →
          let x := s.slot i
          let early := decide (x.st = .opened)
          let call : Phase × Basis :=
            match x.cls with
            | .z => (.p, .context)
            | .h => (.s, .context)
            | .forced => (.unknown, .none)
          let formed : PickRecord := {
            seq := none, cls := x.cls, call := call.1, basis := call.2, profile := x.profile, trigger := x.trigger
            onset := x.trigger, secs := (convertTime s x.trigger).1, us := (convertTime s x.trigger).2
            timeSt := s.time.st, missed := s.time.missed, rise := 0, snr := x.peak, weight := 3, share := none
            sums := none, peaks := none, clips := 0, fills := 0, retrig := x.retrig, lost := x.lost
            flags := x.flags.union { historyShort := true, gap := early, truncated := early,
                                     contextCall := decide (x.cls ≠ .forced), timeStep := s.time.step && k == 0 }
            group := none, role := .none }
          ((t.slot i).st = .done ∧ (t.slot i).record = some formed ∧ (t.slot i).pin = none ∧
            (t.slot i).order = some (date + BitVec.ofNat 32 k)) ∨
          (t.slot i = freeSlot ∧ ∃ (g : Option (BitVec 8)) (role : Role),
            .pick { formed with seq := some (seq k), group := g, role := role } ∈ t.reports.queue)) ∧
      (∀ i : Fin 8, (t.slot i).st = .free ∨ (t.slot i).st = .done) ∧ t.unit = none ∧ t.table.queue = [] ∧
      t.chain.st = (if stays then .hold else .warmup) ∧
      (¬ stays → t.det.z.st = .warming ∧ t.det.h.st = .warming ∧ t.chain.k ≤ 1 ∧ t.chain.blankEnd = none) ∧
      ∀ e, s.intake.link = .up → s.intake.expected = some e → ∃ (count : Nat) (first : Option Sample),
        (s.reports.notices[1] = none → count = 1 ∧ first = s.newest) ∧
        (∀ p : PendingNotice, s.reports.notices[1] = some p → count = min (p.count + 1) 255 ∧ first = p.first) ∧
        (.notice ⟨count, first, .longGap e f.seq⟩ ∈ t.reports.queue ∨
          ∃ date, t.reports.notices[1] = some ⟨date, first, count, .longGap e f.seq⟩)

/-- LINK_LOSS while the silence timer runs: the link goes DOWN with no number expected, LINK_DOWN is raised with the
last accepted number, and a chain in WARMUP or RUN goes to RESYNC: every OPEN slot closes with GAP and TRUNCATED at the
newest sample, both detectors go to OFF, blanking and pause end. HOLD and RESYNC stay. The model's choices: the clock
stands at the timer's due tick, and a missing-pulse timer due before it expires first (log 5); with the link DOWN the row
is untimely and changes nothing (log 2). -/
def Obligations.LinkLossResynchronises : Prop :=
  ∀ s : State, s.power = true →
    (s.intake.link = .down → exec .linkLoss s = .next s) ∧
    ∀ t0 : Nat, s.intake.link = .up → s.intake.silence = some t0 →
      (∀ due : Nat, s.time.timer = some due → due < t0 + 2500000 →
        ∃ v, exec .missingPulse s = .next v ∧ exec .linkLoss s = exec .linkLoss v) ∧
      ((∀ due : Nat, s.time.timer = some due → t0 + 2500000 ≤ due) →
        let down := raise (.linkDown ((s.intake.lastRaw.map (·.seq)).getD 0))
          { s with
            clock := max s.clock (t0 + 2500000)
            intake := { s.intake with link := .down, expected := none, silence := none } }
        (s.chain.st = .hold ∨ s.chain.st = .resync → exec .linkLoss s = .next down) ∧
        (s.chain.st = .warmup ∨ s.chain.st = .run → s.queueAgrees → ∃ c : State,
          closes down c (byTrigger s (s.slotsIn .opened)) (fun i => s.newest.getD (s.slot i).close)
            (fun _ => { gap := true, truncated := true }) ∧
          exec .linkLoss s = .next
            { c with
              det := ⟨offDetector s.det.z, offDetector s.det.h⟩
              chain := { s.chain with st := .resync, blankEnd := none, pauseEnd := none } }))

/-! ## Events of the chain and the slots -/

/-- WARMUP_COMPLETION makes the completion test of a block just counted: once the counted blocks have reached W the
chain enters RUN, WARMUP_DONE is raised, each detector makes the entry test; below W nothing but the test itself. In an
unpaused WARMUP a frame that ends a block counts it, sets each LTA to floor(256 × learn sum / k), and makes that test; in a
paused one a frame ends the pause if it is the pause end sample, whatever block it ends, and does nothing else. In RUN a
frame that ends a block first fills a PENDING snapshot, then makes the blanking end's test; in HOLD and RESYNC nothing follows.
BLANKING_END acts in RUN at the blanking end sample: each BLANKED detector makes the entry test. WARMUP_PAUSE_END acts in
WARMUP at the pause end sample: block count and learn sums restart at 0. At any other moment each changes nothing, which is
the model's choice for such a command (log 2). -/
def Obligations.ChainEventsActAtTheirSample : Prop :=
  ∀ (s : State) (n : Sample), s.power = true → s.newest = some n →
    let p := s.active
    let unblank (q : DetParams) (d : Detector) : Detector := if d.st = .blanked then entryTested q d else d
    let tested := { s with due := { s.due with completion := false } }
    (s.chain.st = .warmup → s.due.completion = true → p.warm ≤ s.chain.k →
      exec .warmupCompletion s = .next (raise (.warmupDone n)
        { tested with
          det := ⟨entryTested p.det.z s.det.z, entryTested p.det.h s.det.h⟩
          chain := { s.chain with st := .run } })) ∧
    (s.chain.st = .warmup → s.due.completion = true → s.chain.k < p.warm →
      exec .warmupCompletion s = .next tested) ∧
    (s.chain.st ≠ .warmup ∨ s.due.completion = false → exec .warmupCompletion s = .next s) ∧
    (∀ f : Conditioned, f.n = n → s.chain.st = .warmup → s.chain.pauseEnd = none →
      (n.toNat % 2 ^ p.blk ≠ 2 ^ p.blk - 1 → receive f s .after = s) ∧
      (n.toNat % 2 ^ p.blk = 2 ^ p.blk - 1 → .next (receive f s .after) = exec .warmupCompletion { s with
        det := ⟨{ s.det.z with lta := 256 * s.det.z.learn / (s.chain.k + 1) },
          { s.det.h with lta := 256 * s.det.h.learn / (s.chain.k + 1) }⟩
        chain := { s.chain with k := s.chain.k + 1 }
        due := { s.due with completion := true } })) ∧
    (∀ f : Conditioned, f.n = n →
      (s.chain.st = .warmup → s.chain.pauseEnd.isSome → .next (receive f s .after) = exec .warmupPauseEnd s) ∧
      (s.chain.st = .run → ∃ v,
        v = { s with chain := { s.chain with expSt := v.chain.expSt, expBuf := v.chain.expBuf } } ∧
        (n.toNat % 2 ^ p.blk ≠ 2 ^ p.blk - 1 ∨ s.chain.expSt ≠ .pending → v = s) ∧
        (n.toNat % 2 ^ p.blk = 2 ^ p.blk - 1 → s.chain.expSt = .pending → v.chain.expSt = .ready) ∧
        .next (receive f s .after) = exec .blankingEnd v) ∧
      (s.chain.st = .hold ∨ s.chain.st = .resync → receive f s .after = s)) ∧
    (s.chain.st = .run → s.chain.blankEnd = some n →
      exec .blankingEnd s = .next
        { s with
          det := ⟨unblank p.det.z s.det.z, unblank p.det.h s.det.h⟩
          chain := { s.chain with blankEnd := none } }) ∧
    (s.chain.st ≠ .run ∨ s.chain.blankEnd ≠ some n → exec .blankingEnd s = .next s) ∧
    (s.chain.st = .warmup → s.chain.pauseEnd = some n →
      exec .warmupPauseEnd s = .next
        { s with
          det := ⟨{ s.det.z with learn := 0 }, { s.det.h with learn := 0 }⟩
          chain := { s.chain with pauseEnd := none, k := 0 } }) ∧
    (s.chain.st ≠ .warmup ∨ s.chain.pauseEnd ≠ some n → exec .warmupPauseEnd s = .next s)

/-- Each frame that a detector receives in RUN raises the peak SNR of every OPEN slot that belongs to it to the frame's
ratio if that is larger, and leaves the peak of every other OPEN slot. The detector is what its processing of the frame
leaves; a baseline it forces marks its OPEN slots and is raised; outside RUN nothing follows. In RUN the report raises the
peaks and makes the AUTO_CLOSE of its detector, and an ON crossing is then decided; which of the two comes first where the
crossing would retrigger a slot that closes at this report is left open (log 3). That no other recipient's act falls
between the detector's processing and what its report does is the model's choice (log 29). AUTO_CLOSE at a detector's report closes
the OPEN slots that belong to it and whose close sample is the newest sample, in order of trigger sample, ties by slot
number, each TRUNCATED exactly if its close sample is short of its full window. Outside RUN, where no report exists, the
command changes nothing (the model's choice, log 2). -/
def Obligations.ReportsRaisePeaksAndAutoClose : Prop :=
  (∀ (s : State) (w : Det) (f : Conditioned), s.chain.st = .run → ∀ i : Fin 8, (s.slot i).st = .opened →
    ((s.slot i).cls.owner = w →
      ((detectorFrame w f s).slot i).peak = max (s.slot i).peak (s.outOf w f).ratio) ∧
    ((s.slot i).cls.owner ≠ w → ((detectorFrame w f s).slot i).peak = (s.slot i).peak)) ∧
  (∀ (s : State) (w : Det) (f : Conditioned), s.power = true → s.newest = some f.n →
    let out := detStep w s.active s.chain.pauseEnd.isSome f (s.det.get w)
    let own (x : Slot) : Bool := x.st == .opened && x.cls.owner == w
    let taken := { s with det := s.det.set w out.det }
    let marked := if out.forcedNow then
        raise (.baselineForced w f.n) (taken.mapSlots fun _ x =>
          if own x then { x with flags := { x.flags with baselineForced := true } } else x)
      else taken
    let peaked := marked.mapSlots fun _ x => if own x then { x with peak := max x.peak out.ratio } else x
    let again : Prop := ∃ (i : Fin 8) (trig : Sample), s.table.recent.get w = some (i, trig) ∧
      (s.slot i).st = .opened ∧ distance trig f.n < (s.slot i).params.dsep ∧ (s.slot i).close = f.n
    let drawn := { peaked with choices := peaked.choices + 1 }
    (s.chain.st ≠ .run → detectorFrame w f s = marked) ∧
    (s.chain.st = .run → out.crossed = false → exec (.autoClose w) peaked = .next (detectorFrame w f s)) ∧
    (s.chain.st = .run → out.crossed = true → ¬ again → ∃ v, exec (.autoClose w) peaked = .next v ∧
      detectorFrame w f s = crossing w f.n out.eff out.ratio v) ∧
    (s.chain.st = .run → out.crossed = true → again → ∃ v, exec (.autoClose w) drawn = .next v ∧
      (detectorFrame w f s = crossing w f.n out.eff out.ratio v ∨
        exec (.autoClose w) (crossing w f.n out.eff out.ratio drawn) = .next (detectorFrame w f s)))) ∧
  ∀ (s : State) (w : Det) (n : Sample), s.power = true → s.newest = some n →
    let due := eight.filter fun i =>
      (s.slot i).st == .opened && (s.slot i).cls.owner == w && (s.slot i).close == n
    let short (x : Slot) : Bool := decide (0 < distance n (x.trigger + BitVec.ofNat 32 (x.params.lw - 1)))
    (s.chain.st ≠ .run → exec (.autoClose w) s = .next s) ∧
    (s.chain.st = .run → s.queueAgrees → ∃ (c : State) (order : List (Fin 8)),
      exec (.autoClose w) s = .next c ∧ order.Perm due ∧
      closes s c order (fun _ => n) (fun i => { truncated := short (s.slot i) }) ∧
      ((∀ i ∈ due, 0 ≤ distance (s.slot i).trigger n ∧ distance (s.slot i).trigger n < 2 ^ 30) →
        order.Pairwise fun i j => distance (s.slot j).trigger (s.slot i).trigger < 0 ∨
          ((s.slot i).trigger = (s.slot j).trigger ∧ i < j)))

/-- ENTRY_EXPIRY at the newest sample n, while a frame's tests are due, frees exactly the OPEN association entries whose
limit, P onset plus smax plus 2,048, lies behind n, unless a slot in progress has its trigger sample at or before that
limit. A frame that the Association Table receives makes that test and also frees every OPEN entry whose P onset is newer
than n. Nothing else changes but the test's mark, which no other recipient touches. The model's choices: a limit or a P onset exactly 2^31 from the newest
sample, at no meaningful distance, keeps its entry at that frame (log 24), and the command changes nothing where no test is
due (log 2). -/
def Obligations.EntryExpiryFreesPassedEntries : Prop :=
  ∀ (s : State) (n : Sample), s.power = true →
    let limit (e : Entry) : Sample := e.pOnset + BitVec.ofNat 32 (e.smax + 2048)
    let held (e : Entry) : Prop := ∃ j : Fin 8, (s.slot j).st ≠ .free ∧ distance (limit e) (s.slot j).trigger ≤ 0
    let passed (e : Entry) : Prop := 0 < distance (limit e) n ∧ ¬ held e
    let newer (e : Entry) : Prop := 0 < distance n e.pOnset
    (s.due.entries = false → exec .entryExpiry s = .next s) ∧
    (s.newest = some n → s.due.entries = true → ∃ t, exec .entryExpiry s = .next t ∧
      t = { s with assoc := { s.assoc with entries := t.assoc.entries }, due := { s.due with entries := false } } ∧
      ∀ i : Fin 8,
        let e := s.assoc.entries[i]
        (e.opened = true ∧ passed e → t.assoc.entries[i] = freeEntry) ∧
        (¬ (e.opened = true ∧ passed e) → t.assoc.entries[i] = e)) ∧
    (∀ (f : Conditioned) (r : Recipient), r ≠ .assoc → (receive f s r).due.entries = s.due.entries) ∧
    ∀ f : Conditioned, f.n = n → s.due.entries = true →
      let t := receive f s .assoc
      t = { s with assoc := { s.assoc with entries := t.assoc.entries }, due := { s.due with entries := false } } ∧
      ∀ i : Fin 8,
        let e := s.assoc.entries[i]
        (e.opened = true ∧ (passed e ∨ newer e) → t.assoc.entries[i] = freeEntry) ∧
        (¬ (e.opened = true ∧ (passed e ∨ newer e)) → t.assoc.entries[i] = e)

/-- TRIAL_EXPIRY at the newest sample n, while a frame's tests are due, pops every entry from the top of the Revert
Stack down to the first that has not expired, restoring each old value in turn whatever the lock. A frame that the Revert
Stack receives makes that same test, which no other recipient makes or takes away. Each raises
TRIAL_EXPIRED in its turn. Where a notice of that key is pending they fold into it; where the queue is full the first becomes
pending and the others fold into it, the count theirs and the data that of the last; where nothing waits and the queue has
their places each becomes a record at once (that they fold only while one is pending, as R131 says and 10.6 supposes, is the
model's reading of R165, log 14). That an expiry sample exactly 2^31 from n expires nothing is the model's choice (log 24),
and so is that the command changes nothing where no test is due (log 2). -/
def Obligations.TrialExpiryUnwindsFromTheTop : Prop :=
  ∀ (s : State) (n : Sample), s.power = true →
    let passed (t : Trial) : Bool :=
      decide (0 ≤ distance t.expiry n) || decide ((16777215 : Int) < distance n t.expiry)
    let restore (ps : Vector Profile 8) (t : Trial) : Vector Profile 8 :=
      ps.set t.entry (ps[t.entry].put t.item t.old)
    let data (t : Trial) : NoticeData := .trialExpired t.entry t.item t.old
    let gone := s.revert.takeWhile passed
    let back := { s with
      revert := s.revert.dropWhile passed
      settings := { s.settings with profiles := gone.foldl restore s.settings.profiles }
      due := { s.due with trials := false } }
    (s.due.trials = false → exec .trialExpiry s = .next s) ∧
    (s.newest = some n → s.due.trials = true →
      exec .trialExpiry s = .next ((gone.map data).foldl (fun x d => raise d x) back) ∧
      (∀ (t : Trial) (p : PendingNotice), gone.getLast? = some t → s.reports.notices[7] = some p →
        exec .trialExpiry s = .next { back with reports := { s.reports with
          notices := s.reports.notices.set 7 (some ⟨p.date, p.first, min (p.count + gone.length) 255, data t⟩) } }) ∧
      (∀ t : Trial, gone.getLast? = some t → s.reports.notices[7] = none → s.reports.queue.length = 32 →
        exec .trialExpiry s = .next { back with reports := { s.reports with
          notices := s.reports.notices.set 7 (some ⟨s.reports.waiting, s.newest, min gone.length 255, data t⟩)
          waiting := s.reports.waiting + 1 } }) ∧
      (gone ≠ [] → s.nothingWaits → s.reports.queue.length + gone.length ≤ 32 → exec .trialExpiry s = .next
        { back with reports := { s.reports with
          queue := s.reports.queue ++ gone.map fun t => .notice ⟨1, s.newest, data t⟩
          waiting := s.reports.waiting + BitVec.ofNat 32 gone.length
          blocked := false } })) ∧
    (∀ f : Conditioned, f.n = n → s.newest = some n → .next (receive f s .stack) = exec .trialExpiry s) ∧
    ∀ (f : Conditioned) (r : Recipient), r ≠ .stack → (receive f s r).due.trials = s.due.trials

/-! ## Events of the Time Base -/

/-- A PULSE edge less than 0.9 s after the last accepted one is discarded. Any other is accepted: it takes the
pending label, else the label inferred from the last, else none; with the link UP after a first frame it makes a
capture referred to the last accepted frame; it restarts the missing-pulse timer at 1.1 s and clears the count; a
label makes the state LOCKED, from NEVER_SET only with a capture. TIME_STEP is marked in LOCKED by a given label that
is not the last plus 1. A change of state raises TIME_STATE. An edge whose tick lies after a timer's due tick is what it is
after that timer's own row, the earlier timer first (that a timer due before the edge expires first is log 5, the order of
two due at one tick log 3). -/
def Obligations.PulseEdgeSetsTheTimeBase : Prop :=
  (∀ (s : State) (tick : Nat), s.power = true → timersFirst (.pulseEdge tick) tick s) ∧
  ∀ (s : State) (tick : Nat), s.power = true → s.quietUntil tick →
    (∀ e : Nat, s.time.lastEdge = some e → tick - e < 9000000 →
      exec (.pulseEdge tick) s = .next { s with clock := tick }) ∧
    ∀ (label : Option Nat) (cap : Option Capture) (mark : Bool),
      (∀ e : Nat, s.time.lastEdge = some e → 9000000 ≤ tick - e) →
      (∀ l : Nat, s.time.pendLabel = some l → label = some l) →
      (∀ l e : Nat, s.time.pendLabel = none → s.time.lastLabel = some l → s.time.lastEdge = some e →
        label = some ((l + (2 * (tick - e) + 10000000) / 20000000) % 2 ^ 40)) →
      (s.time.pendLabel = none → s.time.lastLabel = none ∨ s.time.lastEdge = none → label = none) →
      (∀ (f : Sample) (a : Nat), s.intake.link = .up → s.time.lastFrame = some (f, a) →
        let p := 10 * (1000000 / s.settings.station.rate)
        cap = some ⟨f + BitVec.ofNat 32 ((tick - a) / p), (tick - a) % p, label⟩) →
      (s.intake.link = .down ∨ s.time.lastFrame = none → cap = none) →
      (mark = true ↔ s.time.step = true ∨ (s.time.st = .locked ∧ ∃ g l : Nat, s.time.pendLabel = some g ∧
        s.time.lastLabel = some l ∧ g ≠ (l + 1) % 2 ^ 40)) →
      let st := if label.isSome ∧ (s.time.st ≠ .neverSet ∨ cap.isSome) then .locked else s.time.st
      let moved := { s with
        clock := tick
        time := { s.time with
          st := st, lastEdge := some tick, lastLabel := if label.isSome then label else s.time.lastLabel
          pendLabel := none, capture := if cap.isSome then cap else s.time.capture, missed := 0
          timer := some (tick + 11000000), step := mark } }
      (st = s.time.st → exec (.pulseEdge tick) s = .next moved) ∧
      (st ≠ s.time.st → exec (.pulseEdge tick) s = .next (raise (.timeState st 0) moved))

/-- MISSING_PULSE while the timer runs: the count rises (in LOCKED it becomes 1) and the timer runs a further second;
LOCKED goes to HOLDOVER, HOLDOVER to UNLOCKED when the count reaches 600, and a change of state raises TIME_STATE with the
new state and count. The model's choices: the clock stands at the timer's due tick, and a silence timer due before it
expires first (log 5); with the timer stopped the row is untimely and changes nothing (log 2). -/
def Obligations.MissingPulseCountsAndUnlocks : Prop :=
  ∀ s : State, s.power = true →
    (s.time.timer = none → exec .missingPulse s = .next s) ∧
    ∀ due : Nat, s.time.timer = some due →
      (∀ t0 : Nat, s.intake.link = .up → s.intake.silence = some t0 → t0 + 2500000 < due →
        ∃ v, exec .linkLoss s = .next v ∧ exec .missingPulse s = exec .missingPulse v) ∧
      ((∀ t0 : Nat, s.intake.link = .up → s.intake.silence = some t0 → due ≤ t0 + 2500000) →
        let missed := if s.time.st = .locked then 1 else min (s.time.missed + 1) 65535
        let st : TimeState :=
          if s.time.st = .locked then .holdover
          else if s.time.st = .holdover ∧ 600 ≤ missed then .unlocked
          else s.time.st
        let moved := { s with
          clock := max s.clock due
          time := { s.time with st := st, missed := missed, timer := some (due + 10000000) } }
        (st = s.time.st → exec .missingPulse s = .next moved) ∧
        (st ≠ s.time.st → exec .missingPulse s = .next (raise (.timeState st missed) moved)))

/-! ## Refinement -/

/-- The three ring stages of the slot in hand run once each and in their order: ONSET_SEARCH, then POLARIZATION, then
PEAKS_AND_COUNTS, each changing the Unit's results alone; REFINEMENT_COMPLETION has no effect before all three have run.
That a row out of its turn, or with the Refinement Unit idle, changes nothing is the model's choice for an untimely row
(log 2). -/
def Obligations.RefinementStagesRunOnceInOrder : Prop :=
  ∀ s : State, s.power = true →
    (s.unit = none → ∀ c ∈ [Instr.onsetSearch, .polarization, .peaksAndCounts, .refinementCompletion],
      exec c s = .next s) ∧
    ∀ u : RefineUnit, s.unit = some u →
      let x := s.slot u.slot
      (u.onset = none → exec .onsetSearch s =
        .next { s with unit := some { u with onset := some (onsetStage s.ring u.cf x) } }) ∧
      (∀ o, u.onset = some o → u.pol = none → exec .polarization s =
        .next { s with unit := some { u with pol := some (polStage s.ring u.cf x o.onset) } }) ∧
      (∀ o p, u.onset = some o → u.pol = some p → u.peaks = none → exec .peaksAndCounts s =
        .next { s with unit := some { u with peaks := some (peakStage s.ring x o.onset) } }) ∧
      (u.onset.isSome → exec .onsetSearch s = .next s) ∧
      (u.onset = none ∨ u.pol.isSome → exec .polarization s = .next s) ∧
      (u.onset = none ∨ u.pol = none ∨ u.peaks.isSome → exec .peaksAndCounts s = .next s) ∧
      (u.onset = none ∨ u.pol = none ∨ u.peaks = none → exec .refinementCompletion s = .next s)

/-- The onset search of a slot whose search start is not newer than its trigger t examines t, t − 1, … down to the
search start: the onset is the sample after the first at which the stop test holds (t when it holds there), the rise
span its distance to t; when the test holds nowhere the onset is the search start, and SEARCH_LIMIT is set then alone.
With the search start newer than the trigger there is no search and the onset is the trigger. The stop test at k holds when
16 × 256 times the forward level is below the onset level times the LTA at trigger; the forward level is the floor of the
mean of the class's CF, under the latched CF scale, over the ring's samples from k to k + 2^o − 1, cut at the close
sample. -/
def Obligations.OnsetSearchStopsAtTheFirstQuietSample : Prop :=
  ∀ (ring : List RingEntry) (cf : Nat) (x : Slot),
    let start := x.pin.getD x.trigger
    let back (j : Nat) : Sample := x.trigger - BitVec.ofNat 32 j
    let level (k : Sample) : Nat :=
      let newest := k + BitVec.ofNat 32 (2 ^ x.params.osm - 1)
      let last := if 0 ≤ distance newest x.close then newest else x.close
      let win := ring.filter fun e => decide (0 ≤ distance k e.n ∧ 0 ≤ distance e.n last)
      let u (y : Int) : Nat := (y / (2 ^ cf : Nat)).natAbs
      let energy (e : RingEntry) : Nat :=
        match x.cls with
        | .h => u e.d.n ^ 2 + u e.d.e ^ 2
        | _ => u e.d.z ^ 2
      (win.map energy).sum / win.length
    let quiet (j : Nat) : Prop := 16 * 256 * level (back j) < x.params.ons * x.ltaTrig
    (0 < distance x.trigger start → onsetStage ring cf x = ⟨x.trigger, 0, false⟩) ∧
    ∀ span : Nat, distance start x.trigger = span →
      (∀ j : Nat, j ≤ span → quiet j → (∀ i : Nat, i < j → ¬ quiet i) →
        onsetStage ring cf x = ⟨back (j - 1), j - 1, false⟩) ∧
      ((∀ j : Nat, j ≤ span → ¬ quiet j) → onsetStage ring cf x = ⟨start, span, true⟩)

/-- Stage 2 reads the ring from the onset, or from a search start newer than it, to onset + 2^p − 1 or the close sample if
that is older, TRUNCATED exactly in the last case. Over a window that holds a sample it forms the six sums of the scaled
outputs, the share as the floor of 256 times the vertical sum over the total of the three squares, in 0..256, absent with
NO_ENERGY for a total of 0, and POL_CLIPPED exactly if a sample of the window has a clip mark. Over a window that holds none
sums and share are absent and neither flag is set. Stage 3 reads from the same start to the close sample: it counts the
samples with a clip mark and the filled ones, and over a span that holds a sample finds for each component the largest
magnitude and the first sample at which it occurs, its offset counted from the onset; over an empty span the peaks are
absent and both counts 0. -/
def Obligations.PeaksAreFirstLargestAndShareIsBounded : Prop :=
  (∀ (ring : List RingEntry) (cf : Nat) (x : Slot) (onset : Sample),
    let first := match x.pin with
      | none => onset
      | some q => if 0 ≤ distance onset q then q else onset
    let span (last : Sample) : List RingEntry :=
      ring.filter fun e => decide (0 ≤ distance first e.n ∧ 0 ≤ distance e.n last)
    let marked (e : RingEntry) : Bool := e.clip.z || e.clip.n || e.clip.e
    let newest := onset + BitVec.ofNat 32 (2 ^ x.params.pol - 1)
    let win := span (if 0 < distance x.close newest then x.close else newest)
    let pol := polStage ring cf x onset
    let u (y : Int) : Int := y / (2 ^ cf : Nat)
    let sum (a b : Trio Int → Int) : Int := (win.map fun e => u (a e.d) * u (b e.d)).sum
    let zz := sum Trio.z Trio.z
    let total := zz + sum Trio.n Trio.n + sum Trio.e Trio.e
    let peaks := span x.close
    let k := peakStage ring x onset
    (pol.truncated = true ↔ 0 < distance x.close newest) ∧
    (win = [] → pol.sums = none ∧ pol.share = none ∧ pol.polClipped = false ∧ pol.noEnergy = false) ∧
    (win ≠ [] →
      pol.sums = some ⟨zz, sum Trio.n Trio.n, sum Trio.e Trio.e, sum Trio.z Trio.n, sum Trio.z Trio.e,
        sum Trio.n Trio.e⟩ ∧
      (pol.polClipped = true ↔ ∃ e ∈ win, marked e = true) ∧
      (total = 0 → pol.share = none ∧ pol.noEnergy = true) ∧
      (total ≠ 0 → pol.noEnergy = false ∧ ∃ v : Nat, pol.share = some v ∧ v ≤ 256 ∧ (v : Int) * total ≤ 256 * zz ∧
        256 * zz < ((v : Int) + 1) * total)) ∧
    k.clips = min (peaks.filter marked).length 65535 ∧
    k.fills = min (peaks.filter fun e => e.filled).length 65535 ∧
    (peaks = [] → k.peaks = none) ∧
    (peaks ≠ [] → ∃ z n e : Peak, k.peaks = some ⟨z, n, e⟩ ∧
      ∀ cp ∈ [(Trio.z, z), (Trio.n, n), (Trio.e, e)], ∃ (older newer : List RingEntry) (f : RingEntry),
        peaks = older ++ f :: newer ∧ cp.2.mag = (cp.1 f.d).natAbs ∧
        cp.2.offset = min (distance onset f.n).toNat 65535 ∧
        (∀ g ∈ older, (cp.1 g.d).natAbs < cp.2.mag) ∧ ∀ g ∈ newer, (cp.1 g.d).natAbs ≤ cp.2.mag)) ∧
  ∀ (cf : Nat) (win : List RingEntry),
    let c := polSums cf win
    let total := c.zz + c.nn + c.ee
    (total = 0 → shareOf c = none) ∧
    (total ≠ 0 → ∃ v : Nat, shareOf c = some v ∧ v ≤ 256 ∧ (v : Int) * total ≤ 256 * c.zz ∧
      256 * c.zz < ((v : Int) + 1) * total)

/-- The phase call follows its table: a present, unclipped share gives P at or above the P limit, S at or below the S
limit, UNKNOWN between, with basis POLAR; otherwise class Z gives P and class H S with basis CONTEXT and CONTEXT_CALL
set, and class FORCED gives UNKNOWN with basis NONE. -/
def Obligations.PhaseCallFollowsItsTable : Prop :=
  ∀ (share : Option Nat) (clipped : Bool) (cls : SlotClass) (vp vs : Nat), vs < vp →
    let call := phaseCall share clipped cls vp vs
    (∀ v : Nat, share = some v → clipped = false →
      (vp ≤ v → call = (.p, .polar, false)) ∧ (v ≤ vs → call = (.s, .polar, false)) ∧
      (vs < v → v < vp → call = (.unknown, .polar, false))) ∧
    (share = none ∨ clipped = true →
      (cls = .z → call = (.p, .context, true)) ∧ (cls = .h → call = (.s, .context, true)) ∧
      (cls = .forced → call = (.unknown, .none, false)))

/-- REFINEMENT_COMPLETION with every stage taken forms the pick record from the slot and the results, with the time of
its onset, exactly the flags of slot, stages, call and TIME_STEP, and the weight that its flags, peak and rise give; it
takes the next completion order and the TIME_STEP mark, and lets the Unit take the next slot of the queue. The slot is
then DONE with that record, or its record has been admitted with its sequence number, role and group. -/
def Obligations.RefinementCompletionFormsTheRecord : Prop :=
  ∀ (s : State) (u : RefineUnit) (o : OnsetResult) (p : PolResult) (k : PeakResult), s.power = true →
    s.unit = some u → u.onset = some o → u.pol = some p → u.peaks = some k → s.queueAgrees →
    let x := s.slot u.slot
    let flags := x.flags.union { searchLimit := o.searchLimit, polClipped := p.polClipped, noEnergy := p.noEnergy,
                                 truncated := p.truncated, gap := decide (1 ≤ k.fills) }
    let three := flags.historyShort || flags.gap || flags.polClipped || flags.baselineForced
    let call := phaseCall p.share p.polClipped x.cls x.params.vp x.params.vs
    ∃ (t : State) (rec : PickRecord), exec .refinementCompletion s = .next t ∧
      rec.cls = x.cls ∧ rec.trigger = x.trigger ∧ rec.onset = o.onset ∧ rec.rise = o.rise ∧ rec.snr = x.peak ∧
      rec.share = p.share ∧ rec.sums = p.sums ∧ rec.peaks = k.peaks ∧ rec.clips = k.clips ∧ rec.fills = k.fills ∧
      rec.retrig = x.retrig ∧ rec.lost = x.lost ∧ rec.profile = x.profile ∧
      (rec.secs, rec.us) = convertTime s o.onset ∧ rec.timeSt = s.time.st ∧ rec.missed = s.time.missed ∧
      rec.call = call.1 ∧ rec.basis = call.2.1 ∧
      rec.flags = flags.union { contextCall := call.2.2, timeStep := s.time.step } ∧
      (three = true → rec.weight = 3) ∧
      (three = false →
        (x.params.snrA ≤ x.peak ∧ o.rise ≤ x.params.riseA → rec.weight = 0) ∧
        (¬ (x.params.snrA ≤ x.peak ∧ o.rise ≤ x.params.riseA) → x.params.snrB ≤ x.peak ∧ o.rise ≤ x.params.riseB →
          rec.weight = 1) ∧
        (¬ (x.params.snrA ≤ x.peak ∧ o.rise ≤ x.params.riseA) →
          ¬ (x.params.snrB ≤ x.peak ∧ o.rise ≤ x.params.riseB) →
          rec.weight = if x.params.snrC ≤ x.peak then 2 else 3)) ∧
      t.time = { s.time with step := false } ∧ t.reports.waiting = s.reports.waiting + 1 ∧
      t.table.queue = s.table.queue.tail ∧
      t.unit = s.table.queue.head?.map (fun i => ⟨i, s.active.cf, forcedOnset (s.slot i), none, none⟩) ∧
      ((t.slot u.slot = { x with
          st := .done, pin := none, order := some s.reports.waiting, record := some rec, flags := rec.flags }) ∨
        (t.slot u.slot = freeSlot ∧ ∃ q ∈ t.reports.queue, ∃ (n : BitVec 32) (g : Option (BitVec 8)) (role : Role),
          q = .pick { rec with seq := some n, group := g, role := role }))

/-- The conversion of a sample number: 0 s and 0 µs in NEVER_SET; otherwise, with a labelled capture, the time is the
label plus the signed sample count times the sample period, less the rounded capture offset and the group delay, with
the µs in 0..999,999 and the seconds modulo 2^40. That a sample exactly 2^31 from the capture's counts as 2^31 before it,
where R121 gives no valid distance, is the model's choice (log 24). -/
def Obligations.ConversionIsExact : Prop :=
  ∀ (s : State) (n : Sample),
    (s.time.st = .neverSet → convertTime s n = (0, 0)) ∧
    ∀ (sp : Sample) (delta label : Nat), s.time.st ≠ .neverSet → s.time.capture = some ⟨sp, delta, some label⟩ →
      let period : Int := (1000000 / s.settings.station.rate : Nat)
      let offset : Int := distance sp n * period - ((delta + 5) / 10 : Nat) - s.settings.station.gd
      (convertTime s n).2 < 1000000 ∧ (convertTime s n).1 < 2 ^ 40 ∧
      ∃ turns : Int, (label : Int) * 1000000 + offset =
        ((convertTime s n).1 + turns * 2 ^ 40) * 1000000 + (convertTime s n).2

/-! ## Detection, association and admission -/

/-- What a detector does with a frame, `paused` saying that a warm-up pause is in force. A frame that carries the recentre
flag, comes in a pause, or meets BLANKED is not processed: averages and block are held, a block end discards the block, a
QUIET or TRIGGERED detector goes to BLANKED; OFF takes no notice at all. Every other frame moves the STA toward 256 times
its CF value by the floor of the difference over 2^a. WARMING: a block that ends adds its mean to the learn sum. QUIET: a
block that ends moves the LTA alike; the frame is an ON crossing, and the detector TRIGGERED, exactly when
16·STA ≥ θon·LTA_eff. TRIGGERED: a block that ends is owed up to eight times with the LTA held; the ninth forces the
baseline and moves the LTA; the detector goes to QUIET exactly when 16·STA < θoff·LTA_eff, and else, where no block ends,
owed count and mark stand. The ratio is the floor of 16·STA over LTA_eff, at most 65,535, LTA_eff being the largest of LTA,
256 times the floor and 1. Pending lost-trigger count and learn sum stand in QUIET and TRIGGERED. That a QUIET or TRIGGERED
detector's flagged frame which ends a block discards that block is the model's deduction (log 16). -/
def Obligations.DetectorsProcessFrames : Prop :=
  ∀ (w : Det) (prof : Profile) (paused : Bool) (f : Conditioned) (d : Detector),
    let p := prof.det.get w
    let out := detStep w prof paused f d
    let u (y : Int) : Nat := (y / (2 ^ prof.cf : Nat)).natAbs
    let e : Nat := match w with
      | .z => u f.d.z ^ 2
      | .h => u f.d.n ^ 2 + u f.d.e ^ 2
    let last := f.n.toNat % 2 ^ prof.blk = 2 ^ prof.blk - 1
    let mean := (d.blkSum + e) / (d.blkCount + 1)
    let moved (old target shift : Nat) : Int := (old : Int) + ((target : Int) - old) / (2 ^ shift : Nat)
    let held : Detector :=
      { d with blkSum := if last then 0 else d.blkSum, blkCount := if last then 0 else d.blkCount }
    let floored := max out.det.lta (max (256 * p.floor) 1)
    out.eff = floored ∧ out.ratio = min (16 * out.det.sta / floored) 65535 ∧
    (out.crossed = true → d.st = .quiet ∧ f.recentre = false) ∧
    (out.forcedNow = true → d.st = .triggered ∧ f.recentre = false ∧ last ∧ d.forced = false) ∧
    (d.st = .off → out.det = d) ∧
    (d.st = .blanked → out.det = held) ∧
    (d.st = .warming → paused = true ∨ f.recentre = true → out.det = held) ∧
    (d.st = .quiet → f.recentre = true → out.det = { held with st := .blanked }) ∧
    (d.st = .triggered → f.recentre = true → out.det = { held with st := .blanked, owed := 0, forced := false }) ∧
    (d.st = .warming → paused = false → f.recentre = false →
      (out.det.sta : Int) = moved d.sta (256 * e) p.sta ∧
      out.det = { d with
        sta := out.det.sta
        blkSum := if last then 0 else d.blkSum + e
        blkCount := if last then 0 else d.blkCount + 1
        learn := if last then d.learn + mean else d.learn }) ∧
    (d.st = .quiet ∨ d.st = .triggered → f.recentre = false →
      (out.det.sta : Int) = moved d.sta (256 * e) p.sta ∧ out.det.pendLost = d.pendLost ∧ out.det.learn = d.learn ∧
      (¬ last → out.det.lta = d.lta ∧ out.det.blkSum = d.blkSum + e ∧ out.det.blkCount = d.blkCount + 1) ∧
      (last → out.det.blkSum = 0 ∧ out.det.blkCount = 0)) ∧
    (d.st = .quiet → f.recentre = false →
      (last → (out.det.lta : Int) = moved d.lta (256 * mean) p.lta) ∧
      (p.on * floored ≤ 16 * out.det.sta → out.crossed = true ∧ out.det.st = .triggered ∧ out.det.owed = 0 ∧
        out.det.forced = false) ∧
      (16 * out.det.sta < p.on * floored → out.crossed = false ∧ out.det.st = .quiet ∧ out.det.owed = d.owed ∧
        out.det.forced = d.forced)) ∧
    (d.st = .triggered → f.recentre = false →
      (¬ last → out.forcedNow = false ∧
        (out.det.st = .triggered → out.det.owed = d.owed ∧ out.det.forced = d.forced)) ∧
      (last → d.forced = false → d.owed < 8 → out.det.lta = d.lta ∧ out.forcedNow = false ∧
        (out.det.st = .triggered → out.det.owed = d.owed + 1 ∧ out.det.forced = false)) ∧
      (last → d.forced = false → d.owed = 8 → (out.det.lta : Int) = moved d.lta (256 * mean) p.lta ∧
        out.forcedNow = true ∧ (out.det.st = .triggered → out.det.owed = 8 ∧ out.det.forced = true)) ∧
      (last → d.forced = true → (out.det.lta : Int) = moved d.lta (256 * mean) p.lta ∧ out.forcedNow = false ∧
        (out.det.st = .triggered → out.det.owed = d.owed ∧ out.det.forced = true)) ∧
      (16 * out.det.sta < p.off * floored → out.det.st = .quiet ∧ out.det.owed = 0 ∧ out.det.forced = false) ∧
      (p.off * floored ≤ 16 * out.det.sta → out.det.st = .triggered))

/-- The crossing decision of detector w at t: within the separation of its own most recent opening, still OPEN, that
slot counts a retrigger and nothing else changes; otherwise the lowest-numbered FREE slot opens with the detector's
pending lost-trigger count, which becomes 0, and becomes its most recent opening; without a FREE slot the trigger is
lost and both its counters rise. -/
def Obligations.CrossingRetriggersOpensOrIsLost : Prop :=
  ∀ (s : State) (w : Det) (t : Sample) (eff ratio : Nat),
    let d := s.det.get w
    (∀ (i : Fin 8) (trig : Sample), s.table.recent.get w = some (i, trig) → (s.slot i).st = .opened →
      distance trig t < (s.slot i).params.dsep →
      crossing w t eff ratio s = { s with table := { s.table with
        slots := s.table.slots.set i { s.slot i with retrig := min ((s.slot i).retrig + 1) 255 } } }) ∧
    ((∀ (i : Fin 8) (trig : Sample), s.table.recent.get w = some (i, trig) →
        (s.slot i).st ≠ .opened ∨ (s.slot i).params.dsep ≤ distance trig t) →
      (∀ i : Fin 8, (s.slot i).st = .free → (∀ j : Fin 8, j < i → (s.slot j).st ≠ .free) →
        crossing w t eff ratio s = { s with
          table := { s.table with
            slots := s.table.slots.set i {
              st := .opened, cls := classOf w, trigger := t, close := t + BitVec.ofNat 32 (s.active.lw - 1)
              ltaTrig := eff, peak := ratio, retrig := 0, lost := d.pendLost, profile := s.settings.active
              params := copyParams s.active w, flags := {}, pin := none, order := none, record := none }
            recent := s.table.recent.set w (some (i, t)) }
          det := s.det.set w { d with pendLost := 0 } }) ∧
      ((∀ i : Fin 8, (s.slot i).st ≠ .free) →
        crossing w t eff ratio s = { s with
          table := { s.table with lost := s.table.lost.set w (min (s.table.lost.get w + 1) 65535) }
          det := s.det.set w { d with pendLost := min (d.pendLost + 1) 65535 } }))

/-- A pick that is called S, or is an UNKNOWN of class H, seeks a match, and no other does: what it completes is what an S at
its onset takes. An S at onset q seeks among the OPEN entries whose P onset lies smin..smax samples before q: it takes none when
there is none, otherwise one with the latest P onset, and among those one created after every other, the creation orders
of the OPEN entries being within 2^30 of each other. -/
def Obligations.AssociationTakesTheLatestP : Prop :=
  ∀ (s : State) (q : Sample) (base : BitVec 32),
    (∀ i : Fin 8, s.assoc.entries[i].opened = true → 0 ≤ distance base s.assoc.entries[i].created ∧
      distance base s.assoc.entries[i].created < 2 ^ 30) →
    let fits (i : Fin 8) : Prop :=
      let e := s.assoc.entries[i]
      e.opened = true ∧ (e.smin : Int) ≤ distance e.pOnset q ∧ distance e.pOnset q ≤ e.smax
    (∀ p : PickRecord, p.onset = q →
      (p.call = .s ∨ (p.call = .unknown ∧ p.cls = .h) → s.completes p = s.candidate q) ∧
      (¬ (p.call = .s ∨ (p.call = .unknown ∧ p.cls = .h)) → s.completes p = none)) ∧
    (s.candidate q = none ↔ ∀ i : Fin 8, ¬ fits i) ∧
    ∀ j : Fin 8, s.candidate q = some j → fits j ∧ ∀ i : Fin 8, fits i →
      let e := s.assoc.entries[i]
      let c := s.assoc.entries[j]
      distance c.pOnset q < distance e.pOnset q ∨
        (e.pOnset = c.pOnset ∧ distance c.created e.created ≤ 0)

/-- A block's notice becomes pending with the next date, the newest sample and a count of 1, and an admission attempt
follows: it is admitted in the same event when nothing waits and the queue has a place; while one of its key is pending the count rises, saturating
at 255, its data is replaced, and its date and first sample stand. -/
def Obligations.RaisedNoticesWaitOrCoalesce : Prop :=
  ∀ (d : NoticeData) (s : State),
    (s.reports.notices[d.key] = none → raise d s = admitAll
      { s with reports := { s.reports with
        notices := s.reports.notices.set d.key (some ⟨s.reports.waiting, s.newest, 1, d⟩)
        waiting := s.reports.waiting + 1 } }) ∧
    (s.nothingWaits → s.reports.queue.length < 32 → raise d s = reported d s) ∧
    (s.reports.notices[d.key] = none → s.reports.queue.length = 32 → raise d s =
      { s with reports := { s.reports with
        notices := s.reports.notices.set d.key (some ⟨s.reports.waiting, s.newest, 1, d⟩)
        waiting := s.reports.waiting + 1 } }) ∧
    ∀ p : PendingNotice, s.reports.notices[d.key] = some p → raise d s =
      { s with reports := { s.reports with
        notices := s.reports.notices.set d.key (some { p with count := min (p.count + 1) 255, data := d }) } }

/-- The attempts that follow an item that begins to wait, or COLLECT, are these two rows over again, each on the oldest
waiting item as it then is, until nothing waits or the oldest does not fit; none overtakes it, and the blocked indication is
set if it is a completing pick that finds one place; that a DONE slot carries its record is an invariant of its own
(StepsKeepTheReportQueue).
PICK_ADMISSION of the oldest waiting item, a DONE slot: with its places free the record takes the next sequence
number and joins the queue's tail, and the slot is FREE. A P opens an association entry and takes a group id; an S, or
an UNKNOWN of class H, and no other pick, seeks an entry; if it completes a group it takes its role and group id, frees the
entry and is followed by the group record; any other has no role. A completing pick that finds one place sets the blocked
indication and nothing else; any pick that finds none changes nothing.
NOTICE_ADMISSION of an oldest waiting notice moves it to the queue's tail and clears its key. While the blocked indication
stands the attempts have stopped; that the two rows then change nothing is the model's choice for a row without an attempt
(log 2). The oldest waiting item is one of the oldest date among the DONE slots' completion orders and the pending notices'
dates, none exactly when nothing waits; a P takes the lowest-numbered FREE entry, and of a table with none FREE the one of
the oldest P onset, of several the oldest created, where the compared numbers lie within half of their numbering; which P onset is the oldest
where none is older than every other is the model's choice (log 30), and nothing is said of it here. -/
def Obligations.AdmissionNumbersAndAssociates : Prop :=
  ∀ s : State, s.power = true →
    let dated (w : Waiting) (d : BitVec 32) : Prop :=
      match w with
      | .pick i => (s.slot i).st = .done ∧ (s.slot i).order = some d
      | .notice k => s.reports.notices[k].map (fun p => p.date) = some d
    let unblocked := { s with reports := { s.reports with blocked := false } }
    let row (w : Waiting) : Instr := match w with | .pick _ => .pickAdmission | .notice _ => .noticeAdmission
    let needs (w : Waiting) : Nat :=
      match w with
      | .pick i => if (s.slot i).record.any (fun p => (s.completes p).isSome) then 2 else 1
      | .notice _ => 1
    (s.oldestWaiting = none → admitAll s = s) ∧
    (∀ w : Waiting, s.oldestWaiting = some w →
      (32 < s.reports.queue.length + needs w → admitAll s =
        if needs w = 2 ∧ s.reports.queue.length = 31 then { s with reports := { s.reports with blocked := true } } else s) ∧
      (s.reports.queue.length + needs w ≤ 32 → (∀ i : Fin 8, (s.slot i).st = .done → (s.slot i).record.isSome) →
        ∃ t, exec (row w) unblocked = .next t ∧ admitAll s = admitAll t)) ∧
    (∀ p : PickRecord, s.completes p =
      if p.call = .s ∨ (p.call = .unknown ∧ p.cls = .h) then s.candidate p.onset else none) ∧
    (s.oldestWaiting = none ↔ ∀ (w : Waiting) (d : BitVec 32), ¬ dated w d) ∧
    (∀ (base : BitVec 32) (w : Waiting), (∀ (x : Waiting) (d : BitVec 32), dated x d → 0 ≤ distance base d) →
      s.oldestWaiting = some w → ∃ d, dated w d ∧ ∀ (x : Waiting) (y : BitVec 32), dated x y → 0 ≤ distance d y) ∧
    (∀ i : Fin 8, s.assoc.entries[i].opened = false → (∀ j : Fin 8, j < i → s.assoc.entries[j].opened = true) →
      s.entryForP = i) ∧
    (∀ (base : Sample) (origin : BitVec 32),
      (∀ i : Fin 8, let e := s.assoc.entries[i]
        e.opened = true ∧ 0 ≤ distance base e.pOnset ∧ 0 ≤ distance origin e.created) →
      ∀ i : Fin 8,
        let e := s.assoc.entries[i]
        let v := s.assoc.entries[s.entryForP]
        0 < distance v.pOnset e.pOnset ∨ (e.pOnset = v.pOnset ∧ 0 ≤ distance v.created e.created)) ∧
    (s.reports.blocked = true → exec .pickAdmission s = .next s ∧ exec .noticeAdmission s = .next s) ∧
    (s.reports.blocked = false → ∀ (i : Fin 8) (p : PickRecord),
      s.oldestWaiting = some (.pick i) → (s.slot i).record = some p →
      let x := s.slot i
      let seq := s.reports.pickSeq
      let freed := s.table.slots.set i freeSlot
      let full := 32 - s.reports.queue.length
      (p.call = .p → 1 ≤ full → exec .pickAdmission s = .next { s with
        table := { s.table with slots := freed }
        assoc := ⟨s.assoc.entries.set s.entryForP
          ⟨true, s.reports.groupId, seq, p.onset, p.secs, p.us, x.params.smin, x.params.smax, s.assoc.created⟩,
          s.assoc.created + 1⟩
        reports := { s.reports with
          pickSeq := seq + 1, groupId := s.reports.groupId + 1, blocked := false
          queue := s.reports.queue ++
            [.pick { p with seq := some seq, role := .p, group := some s.reports.groupId }] } }) ∧
      (p.call ≠ .p → s.completes p = none → 1 ≤ full → exec .pickAdmission s = .next { s with
        table := { s.table with slots := freed }
        reports := { s.reports with
          pickSeq := seq + 1, blocked := false
          queue := s.reports.queue ++ [.pick { p with seq := some seq, role := .none, group := none }] } }) ∧
      (full = 0 → exec .pickAdmission s = .next s) ∧
      ∀ j : Fin 8, p.call ≠ .p → s.completes p = some j →
        let e := s.assoc.entries[j]
        let role : Role := if p.call = .s then .sMeasured else .sInferred
        let us : Int := ((p.secs : Int) - e.pSecs) * 1000000 + ((p.us : Int) - e.pUs)
        (2 ≤ full → exec .pickAdmission s = .next { s with
          table := { s.table with slots := freed }
          assoc := { s.assoc with entries := s.assoc.entries.set j freeEntry }
          reports := { s.reports with
            pickSeq := seq + 1, blocked := false
            queue := s.reports.queue ++ [.pick { p with seq := some seq, role := role, group := some e.group },
              .group ⟨e.group, e.pSeq, seq, role, (distance e.pOnset p.onset).toNat, us⟩] } }) ∧
        (full = 1 → exec .pickAdmission s = .next { s with reports := { s.reports with blocked := true } })) ∧
    (s.reports.blocked = false → ∀ (k : Fin 8) (p : PendingNotice),
      s.oldestWaiting = some (.notice k) → s.reports.notices[k] = some p →
      (s.reports.queue.length < 32 → exec .noticeAdmission s = .next { s with reports := { s.reports with
        blocked := false, notices := s.reports.notices.set k none
        queue := s.reports.queue ++ [.notice ⟨p.count, p.first, p.data⟩] } }) ∧
      (32 ≤ s.reports.queue.length → exec .noticeAdmission s = .next s))

/-! ## Store and resets -/

/-- STORE_SAVE_COMPLETION: the store is IDLE and holds the image in flight with its mark set and store defaulted clear;
a reset that waited for it takes effect on that store. That the row changes nothing with no save in flight is the model's
choice for an untimely row (log 2). POWER_LOSS ends a pending reset and a save in flight, whose mark stays cleared; that
every other field keeps its value until power-on is the model's choice (log 7), and what the torn image holds is left open
(log 4). -/
def Obligations.SaveCompletesOrIsLost : Prop :=
  ∀ s : State, s.power = true →
    (s.store.writing = none → exec .storeSaveCompletion s = .next s ∧
      exec .powerLoss s = .next { s with power := false, resetPending := none }) ∧
    ∀ im : Image, s.store.writing = some im →
      let saved := { s with store := { s.store with image := im, mark := true, writing := none, defaulted := false } }
      ((∀ k : ResetKind, s.resetPending ≠ some ⟨k, true⟩) → exec .storeSaveCompletion s = .next saved) ∧
      (s.resetPending = some ⟨.request, true⟩ ∨ s.resetPending = some ⟨.line, true⟩ →
        exec .storeSaveCompletion s = exec .resetTakesEffect saved) ∧
      ∃ t, exec .powerLoss s = .next t ∧ t.store.mark = false ∧ t.store.writing = none ∧
        t = { s with power := false, resetPending := none, store := t.store, choices := s.choices + 1 } ∧
        t.store.defaulted = s.store.defaulted

/-- The three resets with no save in flight: every block is as at State.reset (log 1), and the working tables are those
of the store's image if its mark is set, otherwise the factory's with store defaulted set and STORE_DEFAULTED in the queue.
POWER_ON reads the straps, clears every power lock mark and starts the clock; the RESET line's release reads the straps and
keeps locks in POWER; the RESET request keeps those, the floor and the Time Base. With a save in flight a release waits for
its completion, and POWER_ON finds what POWER_LOSS leaves, the mark cleared; RESET_TAKES_EFFECT of a released line's reset
is that line's reset. The model's choices: POWER_ON of a part that has power is a power cycle (log 7); the line asserted
turns a pending RESET request into its own, and asserted again leaves the line's pending reset as it is (log 9); the line's
reset takes the straps of the last RESET_LINE command, at either edge (log 28); RESET_TAKES_EFFECT is itself the moment at
which the reply has been sent (log 10), and with no reset to take effect it changes nothing (log 2). -/
def Obligations.ResetsReloadTheTables : Prop :=
  ∀ (s : State) (b : Baud),
    let im := if s.store.mark then s.store.image else factoryImage
    let loaded := loadImage im
    let keep (was : Lock) (l : Lock) : Lock :=
      match was, l with
      | .power _, .base u => .power u
      | _, _ => l
    let kept : Settings := { loaded with
      profileLock := Vector.ofFn fun e : Fin 8 => keep s.settings.profileLock[e] loaded.profileLock[e]
      stationLock := keep s.settings.stationLock loaded.stationLock
      gateLock := keep s.settings.gateLock loaded.gateLock }
    let noted (k : ResetKind) (t : State) : State := if s.store.mark then t else reported (.storeDefaulted k) t
    let cold := { State.reset with
      settings := loaded, store := ⟨s.store.image, s.store.mark, none, !s.store.mark⟩, baud := b, straps := b
      protect := s.protect, resetLow := s.resetLow, choices := s.choices, pending := s.pending }
    (s.power = true → exec (.resetLine true b) s = .next { s with
      straps := b, resetLow := true
      resetPending := s.resetPending.map fun p => if p.kind = .request then ⟨.line, false⟩ else p }) ∧
    (s.store.writing = none →
      exec (.powerOn b) s = .next (noted .powerOn cold) ∧
      (s.power = true → s.resetLow = true → exec (.resetLine false b) s =
        .next (noted .line { cold with clock := s.clock, settings := kept, resetLow := false })) ∧
      (s.power = true → ∀ r : Bool, s.resetPending = some ⟨.request, r⟩ → exec .resetTakesEffect s =
        .next (noted .request { cold with
          clock := s.clock, settings := kept, baud := s.baud, straps := s.straps, floor := s.floor, time := s.time })) ∧
      (s.power = true → s.resetPending = some ⟨.line, true⟩ → exec .resetTakesEffect s = .next (noted .line
        { cold with clock := s.clock, settings := kept, baud := s.straps, straps := s.straps }))) ∧
    (s.power = true → s.resetPending = none ∨ s.resetPending = some ⟨.line, false⟩ ∨ s.store.writing.isSome →
      exec .resetTakesEffect s = .next s) ∧
    ∀ new : Image, s.store.writing = some new →
      (s.power = true → s.resetLow = true → exec (.resetLine false b) s = .next
        { s with straps := b, resetLow := false, resetPending := some ⟨.line, true⟩ }) ∧
      ∃ v, exec .powerLoss s = .next v ∧ v.store.mark = false ∧ v.store.writing = none ∧
        exec (.powerOn b) s = exec (.powerOn b) v

/-! ## Layouts -/

/-- A sample frame and a snapshot survive their bytes: the fields read from a frame's bytes are the frame's, its check
good; and the seven records of a legal snapshot, as SNAPSHOT READ lays them out and taken in order by SNAPSHOT WRITE,
pass every check and leave the import buffer holding that snapshot. What the host reads stands where 11.5 and 11.1 put it:
the PICK record with its optional parts behind one another, its flags, and its sums at the least shift that fits; the GROUP
record; the NOTICE record with each key's data; the frame of a reply with its length, codes and CRC; and the data of
STATUS, PROFILE READ, STATION READ and GATE READ, field by field. A record's values are taken to fit their fields as their
rules say; that the state's do is an invariant of its own (StepsKeepCapacities, StepsKeepTheSlotTable,
StepsKeepTheTimeBase, StepsKeepSettingsLegal). -/
def Obligations.BytesFollowTheirLayouts : Prop :=
  (∀ f : RawFrame, f.in24 →
    sampleFields (sampleBytes f) = f ∧ sampleCheck (sampleBytes f) = true ∧ (sampleBytes f).length = 18) ∧
  (∀ sn old : Snapshot, sn.header.legal = true → sn.count = 7 →
    meanLegal sn.mean.z = true → meanLegal sn.mean.n = true → meanLegal sn.mean.e = true →
    sn.avg.z.sta ≤ 2 ^ (54 - 2 * sn.header.cf) → sn.avg.z.lta ≤ 2 ^ (54 - 2 * sn.header.cf) →
    sn.avg.h.sta ≤ 2 ^ (55 - 2 * sn.header.cf) → sn.avg.h.lta ≤ 2 ^ (55 - 2 * sn.header.cf) →
    [1, 2, 3, 4, 5, 6, 7].foldl (fun acc k => acc.bind (importRecord k (sn.bytes k))) (some old) = some sn) ∧
  (∀ q : Record, q.fits → q.laidOut q.bytes) ∧
  (∀ rep : Reply, rep.data.length ≤ 238 → rep.level < 256 → rep.laidOut rep.frame) ∧
  (∀ s : State, s.withinCapacity → s.queueAgrees → s.timeAgrees → s.statusLaidOut (statusBytes s)) ∧
  ∀ s : State, s.settingsLegal →
    (∀ e : Fin 8, s.profileLaidOut e (profileBytes s e)) ∧ s.stationLaidOut (stationBytes s) ∧
    ∀ k : Fin 16, s.gateLaidOut k (gateReadBytes s k)

/-- Every row that is a request has the effect of its frame's bytes in every state of the receiver: the row of a well-formed
request is what those bytes do, its kind code, level, tag, body and CRC behind the sync pair, with PROTECT as it stands. So a
receiver inside a frame takes them as that frame's, and one that is searching, whatever it holds, takes the request and
holds nothing behind it. That a row stands for its bytes, and that the row CONTROL_FRAME_DISCARD carries any bytes to the
receiver and dispatches a correct frame found in them, are the model's choice (log 11). -/
def Obligations.RequestRowsAreTheirFrames : Prop :=
  ∀ (c : Instr) (kind : Byte) (r : Req) (body : List Byte) (s : State), requestOf c = some (kind, r, body) →
    c.wf = true → s.power = true →
    exec (.controlFrameDiscard (requestBytes kind r body) r.protect) s = exec c s ∧
    (s.port.searching = true → exec c s = exec c { s with port := { s.port with rx := [], cut := false } } ∧
      ∃ t, exec c s = .next t ∧ t.port.rx = [] ∧ t.port.cut = false)

/-! ## What every step keeps -/

/-- Every store stays within its capacity (ring, Report Queue, Revert Stack, floor), and every saturating counter within
its range: the four link counters, the port's discards, both detectors' lost-trigger and owed counts, the missed pulses,
the peak SNR, retrigger and lost counts of every slot, the counts of its record and of every queued pick, the occurrence
count, 1..255, of every pending and queued notice, and the records, 1..6, of an import in progress. -/
def Obligations.StepsKeepCapacities : Prop :=
  ∀ s t : State, s.withinCapacity → step s = .next t → t.withinCapacity

/-- The sample link agrees with its records, the ring holds consecutive samples ending in the newest, both detectors
follow the chain and its blanking, and no test of a frame is left over after the frame's own event (that a frame's tests
are made in its event is log 2). -/
def Obligations.StepsKeepTheSampleRecord : Prop :=
  ∀ s t : State, s.linkAgrees → s.ringAgrees → s.chainAgrees → s.settled → step s = .next t →
    t.linkAgrees ∧ t.ringAgrees ∧ t.chainAgrees ∧ t.settled

/-- The refinement queue and the Unit hold exactly the slots in CLOSED and REFINING, slots are OPEN in RUN alone, a
DONE slot carries its record, a closed one its pin, and every pin is retained by the ring. -/
def Obligations.StepsKeepTheSlotTable : Prop :=
  ∀ s t : State, s.linkAgrees → s.ringAgrees → s.chainAgrees → s.queueAgrees → s.slotsAgree → s.pinsRetained →
    step s = .next t → t.queueAgrees ∧ t.slotsAgree ∧ t.pinsRetained

/-- Outside NEVER_SET a labelled capture and a last label exist; LOCKED has no missed pulse, HOLDOVER 1..599, UNLOCKED
at least 600; the missing-pulse timer runs exactly once an edge has been accepted. -/
def Obligations.StepsKeepTheTimeBase : Prop :=
  ∀ s t : State, s.timeAgrees → step s = .next t → t.timeAgrees

/-- While an item waits, at most one place of the Report Queue is free; the queue's picks are numbered by exactly one
each, the last one below the counter, and each group record stands behind the pick of its S. ATTN is high exactly while
the queue holds a record, so that nothing waits while it is low: it falls at a COLLECT that takes every record and stays
high at any other that is DONE, and it rises with the first notice raised or pick completed, which is admitted at once (that
it is low without supply is the model's choice, log 19). -/
def Obligations.StepsKeepTheReportQueue : Prop :=
  (∀ s t : State, s.waitsOnlyWhenFull → s.queueNumbered → step s = .next t →
    t.waitsOnlyWhenFull ∧ t.queueNumbered) ∧
  (∀ s : State, s.power = false → s.attn = false) ∧
  ∀ s : State, s.power = true → s.waitsOnlyWhenFull →
    (s.attn = true ↔ s.reports.queue ≠ []) ∧
    (s.attn = false → s.nothingWaits) ∧
    (∀ (r : Req) (body : List Byte), s.takes r 1 → body.length = 1 → 1 ≤ field body 0 1 → field body 0 1 ≤ 4 →
      s.attn = true → ∃ t, exec (.collect r body) s = .next t ∧
        (t.attn = true ↔ field body 0 1 < s.reports.queue.length)) ∧
    (s.attn = false →
      (∀ d : NoticeData, (raise d s).attn = true) ∧
      ∀ (u : RefineUnit) (o : OnsetResult) (pr : PolResult) (pk : PeakResult),
        s.unit = some u → u.onset = some o → u.pol = some pr → u.peaks = some pk →
        ∃ t, exec .refinementCompletion s = .next t ∧ t.attn = true)

/-- Every profile entry, the station record and every valid gate are legal, every gate's fields fit their bytes, every trial is on a live parameter and can be
taken back to a legal entry, and so is every image that a reset can load; the completion mark is clear while a save is in
flight. -/
def Obligations.StepsKeepSettingsLegal : Prop :=
  ∀ s t : State, s.settingsLegal → s.storeAgrees → step s = .next t → t.settingsLegal ∧ t.storeAgrees

/-- The state after reset, a power-on that finds the factory image saved (log 1), is one that every invariant holds in. -/
def Obligations.ResetMeetsEveryInvariant : Prop :=
  State.reset.withinCapacity ∧ State.reset.linkAgrees ∧ State.reset.ringAgrees ∧ State.reset.chainAgrees ∧
  State.reset.settled ∧ State.reset.queueAgrees ∧ State.reset.slotsAgree ∧ State.reset.pinsRetained ∧
  State.reset.timeAgrees ∧ State.reset.waitsOnlyWhenFull ∧ State.reset.queueNumbered ∧ State.reset.settingsLegal ∧
  State.reset.storeAgrees

/-- Only a reset lowers the link floor or opens a lock in POWER: after any other command, run with no reset pending,
the floor is at least what it was, and every object whose lock was POWER has that same lock. -/
def Obligations.OnlyResetsLowerTheFloorOrLeavePower : Prop :=
  ∀ (c : Instr) (s t : State), (∀ b, c ≠ .powerOn b) → (∀ low b, c ≠ .resetLine low b) → s.resetPending = none →
    exec c s = .next t →
    s.floor ≤ t.floor ∧
    (∀ (e : Fin 8) (u : BaseLock), s.settings.profileLock[e] = .power u → t.settings.profileLock[e] = .power u) ∧
    (∀ u : BaseLock, s.settings.stationLock = .power u → t.settings.stationLock = .power u) ∧
    ∀ u : BaseLock, s.settings.gateLock = .power u → t.settings.gateLock = .power u
end

