-- ==== Sys2Proof/Laws/State.lean ====
section
/-! SUPPORT. One lemma per field that each named update of the state touches, and the fields it leaves, so that no
later proof unfolds a record update. -/

namespace Sys2Proof.Machine

/-! ## Detectors -/

/-- A detector's value just written. -/
@[simp] theorem pair_get_set {α : Type} (p : Pair α) (w : Det) (x : α) : (p.set w x).get w = x := by
  cases w <;> rfl

/-- The other detector's value stands. -/
theorem pair_get_set_ne {α : Type} (p : Pair α) {v w : Det} (x : α) (h : v ≠ w) : (p.set w x).get v = p.get v := by
  cases v <;> cases w <;> first | rfl | exact absurd rfl h

/-- A function applied to both detectors' values. -/
@[simp] theorem pair_get_map {α β : Type} (f : α → β) (p : Pair α) (w : Det) : (p.map f).get w = f (p.get w) := by
  cases w <;> rfl

/-! ## Slots -/

/-- The slot just written. -/
@[simp] theorem setSlot_slot_self (s : State) (i : Fin 8) (x : Slot) : (s.setSlot i x).slot i = x := by
  simp [State.slot, State.setSlot]

/-- Every other slot stands. -/
theorem setSlot_slot_ne (s : State) {i j : Fin 8} (x : Slot) (h : j ≠ i) : (s.setSlot i x).slot j = s.slot j := by
  have : i.val ≠ j.val := fun e => h (Fin.ext e.symm)
  simp [State.slot, State.setSlot, this]

@[simp] theorem setSlot_queue (s : State) (i : Fin 8) (x : Slot) : (s.setSlot i x).table.queue = s.table.queue := rfl
@[simp] theorem setSlot_recent (s : State) (i : Fin 8) (x : Slot) : (s.setSlot i x).table.recent = s.table.recent := rfl
@[simp] theorem setSlot_lost (s : State) (i : Fin 8) (x : Slot) : (s.setSlot i x).table.lost = s.table.lost := rfl
@[simp] theorem setSlot_ring (s : State) (i : Fin 8) (x : Slot) : (s.setSlot i x).ring = s.ring := rfl
@[simp] theorem setSlot_unit (s : State) (i : Fin 8) (x : Slot) : (s.setSlot i x).unit = s.unit := rfl
@[simp] theorem setSlot_det (s : State) (i : Fin 8) (x : Slot) : (s.setSlot i x).det = s.det := rfl
@[simp] theorem setSlot_chain (s : State) (i : Fin 8) (x : Slot) : (s.setSlot i x).chain = s.chain := rfl
@[simp] theorem setSlot_newest (s : State) (i : Fin 8) (x : Slot) : (s.setSlot i x).newest = s.newest := rfl
@[simp] theorem setSlot_reports (s : State) (i : Fin 8) (x : Slot) : (s.setSlot i x).reports = s.reports := rfl
@[simp] theorem setSlot_assoc (s : State) (i : Fin 8) (x : Slot) : (s.setSlot i x).assoc = s.assoc := rfl
@[simp] theorem setSlot_active (s : State) (i : Fin 8) (x : Slot) : (s.setSlot i x).active = s.active := rfl
@[simp] theorem setSlot_settings (s : State) (i : Fin 8) (x : Slot) : (s.setSlot i x).settings = s.settings := rfl

/-- The slots rewritten slot by slot. -/
@[simp] theorem mapSlots_slot (s : State) (f : Fin 8 → Slot → Slot) (i : Fin 8) :
    (s.mapSlots f).slot i = f i (s.slot i) := by
  fin_cases i <;> rfl

@[simp] theorem mapSlots_queue (s : State) (f : Fin 8 → Slot → Slot) : (s.mapSlots f).table.queue = s.table.queue := rfl
@[simp] theorem mapSlots_recent (s : State) (f : Fin 8 → Slot → Slot) :
    (s.mapSlots f).table.recent = s.table.recent := rfl
@[simp] theorem mapSlots_unit (s : State) (f : Fin 8 → Slot → Slot) : (s.mapSlots f).unit = s.unit := rfl
@[simp] theorem mapSlots_ring (s : State) (f : Fin 8 → Slot → Slot) : (s.mapSlots f).ring = s.ring := rfl
@[simp] theorem mapSlots_det (s : State) (f : Fin 8 → Slot → Slot) : (s.mapSlots f).det = s.det := rfl
@[simp] theorem mapSlots_chain (s : State) (f : Fin 8 → Slot → Slot) : (s.mapSlots f).chain = s.chain := rfl
@[simp] theorem mapSlots_newest (s : State) (f : Fin 8 → Slot → Slot) : (s.mapSlots f).newest = s.newest := rfl
@[simp] theorem mapSlots_reports (s : State) (f : Fin 8 → Slot → Slot) : (s.mapSlots f).reports = s.reports := rfl

/-! ## One detector replaced -/

@[simp] theorem setDet_self (s : State) (w : Det) (d : Detector) : (s.setDet w d).detector w = d := by
  cases w <;> rfl
@[simp] theorem setDet_slot (s : State) (w : Det) (d : Detector) (i : Fin 8) : (s.setDet w d).slot i = s.slot i := rfl
@[simp] theorem setDet_table (s : State) (w : Det) (d : Detector) : (s.setDet w d).table = s.table := rfl
@[simp] theorem setDet_chain (s : State) (w : Det) (d : Detector) : (s.setDet w d).chain = s.chain := rfl
@[simp] theorem setDet_ring (s : State) (w : Det) (d : Detector) : (s.setDet w d).ring = s.ring := rfl
@[simp] theorem setDet_unit (s : State) (w : Det) (d : Detector) : (s.setDet w d).unit = s.unit := rfl
@[simp] theorem setDet_reports (s : State) (w : Det) (d : Detector) : (s.setDet w d).reports = s.reports := rfl
@[simp] theorem setDet_active (s : State) (w : Det) (d : Detector) : (s.setDet w d).active = s.active := rfl

/-! ## Association entries and notices -/

/-- The association entry just written. -/
@[simp] theorem setEntry_self (s : State) (i : Fin 8) (x : Entry) : (s.setEntry i x).assoc.entries[i] = x := by
  simp [State.setEntry]

@[simp] theorem setEntry_reports (s : State) (i : Fin 8) (x : Entry) : (s.setEntry i x).reports = s.reports := rfl
@[simp] theorem setEntry_slot (s : State) (i j : Fin 8) (x : Entry) : (s.setEntry i x).slot j = s.slot j := rfl

/-- The pending notice just written. -/
@[simp] theorem setNotice_self (s : State) (k : Fin 8) (x : Option PendingNotice) :
    (s.setNotice k x).reports.notices[k] = x := by
  simp [State.setNotice]

/-- Every other key's notice stands. -/
theorem setNotice_ne (s : State) {k j : Fin 8} (x : Option PendingNotice) (h : j ≠ k) :
    (s.setNotice k x).reports.notices[j] = s.reports.notices[j] := by
  have : k.val ≠ j.val := fun e => h (Fin.ext e.symm)
  simp [State.setNotice, this]

@[simp] theorem setNotice_queue (s : State) (k : Fin 8) (x : Option PendingNotice) :
    (s.setNotice k x).reports.queue = s.reports.queue := rfl
@[simp] theorem setNotice_waiting (s : State) (k : Fin 8) (x : Option PendingNotice) :
    (s.setNotice k x).reports.waiting = s.reports.waiting := rfl
@[simp] theorem setNotice_assoc (s : State) (k : Fin 8) (x : Option PendingNotice) :
    (s.setNotice k x).assoc = s.assoc := rfl
@[simp] theorem setNotice_slot (s : State) (k : Fin 8) (x : Option PendingNotice) (i : Fin 8) :
    (s.setNotice k x).slot i = s.slot i := rfl
@[simp] theorem setNotice_table (s : State) (k : Fin 8) (x : Option PendingNotice) :
    (s.setNotice k x).table = s.table := rfl

@[simp] theorem takeDate_waiting (s : State) : s.takeDate.reports.waiting = s.reports.waiting + 1 := rfl
@[simp] theorem takeDate_queue (s : State) : s.takeDate.reports.queue = s.reports.queue := rfl
@[simp] theorem takeDate_notices (s : State) : s.takeDate.reports.notices = s.reports.notices := rfl
@[simp] theorem takeDate_slot (s : State) (i : Fin 8) : s.takeDate.slot i = s.slot i := rfl
@[simp] theorem takeDate_assoc (s : State) : s.takeDate.assoc = s.assoc := rfl

/-! ## The newest frame's tests -/

@[simp] theorem setSlot_due (s : State) (i : Fin 8) (x : Slot) : (s.setSlot i x).due = s.due := rfl
@[simp] theorem mapSlots_due (s : State) (f : Fin 8 → Slot → Slot) : (s.mapSlots f).due = s.due := rfl
@[simp] theorem setDet_due (s : State) (w : Det) (d : Detector) : (s.setDet w d).due = s.due := rfl
@[simp] theorem setEntry_due (s : State) (i : Fin 8) (x : Entry) : (s.setEntry i x).due = s.due := rfl
@[simp] theorem setNotice_due (s : State) (k : Fin 8) (x : Option PendingNotice) : (s.setNotice k x).due = s.due := rfl
@[simp] theorem setProfile_due (s : State) (e : Fin 8) (p : Profile) : (s.setProfile e p).due = s.due := rfl
@[simp] theorem takeDate_due (s : State) : s.takeDate.due = s.due := rfl
@[simp] theorem enqueue_due (rs : List Record) (s : State) : (enqueue rs s).due = s.due := rfl
@[simp] theorem sampled_due (s : State) (p : Bool) : (s.sampled p).due = s.due := rfl
@[simp] theorem replying_due (s : State) (r : Reply) : (s.replying r).due = s.due := rfl
@[simp] theorem draw_due (s : State) : s.draw.2.due = s.due := rfl

/-! ## The Report Queue's tail -/

@[simp] theorem enqueue_queue (rs : List Record) (s : State) :
    (enqueue rs s).reports.queue = s.reports.queue ++ rs := rfl
@[simp] theorem enqueue_pickSeq (rs : List Record) (s : State) :
    (enqueue rs s).reports.pickSeq = s.reports.pickSeq := rfl
@[simp] theorem enqueue_notices (rs : List Record) (s : State) :
    (enqueue rs s).reports.notices = s.reports.notices := rfl
@[simp] theorem enqueue_assoc (rs : List Record) (s : State) : (enqueue rs s).assoc = s.assoc := rfl
@[simp] theorem enqueue_slot (rs : List Record) (s : State) (i : Fin 8) : (enqueue rs s).slot i = s.slot i := rfl

/-! ## Settings -/

/-- The profile entry just written. -/
@[simp] theorem setProfile_self (s : State) (e : Fin 8) (p : Profile) :
    (s.setProfile e p).settings.profiles[e] = p := by
  simp [State.setProfile]

/-- Every other profile entry stands. -/
theorem setProfile_ne (s : State) {e f : Fin 8} (p : Profile) (h : f ≠ e) :
    (s.setProfile e p).settings.profiles[f] = s.settings.profiles[f] := by
  have : e.val ≠ f.val := fun x => h (Fin.ext x.symm)
  simp [State.setProfile, this]

@[simp] theorem setProfile_revert (s : State) (e : Fin 8) (p : Profile) : (s.setProfile e p).revert = s.revert := rfl
@[simp] theorem setProfile_store (s : State) (e : Fin 8) (p : Profile) : (s.setProfile e p).store = s.store := rfl

/-! ## The port -/

@[simp] theorem sampled_protect (s : State) (p : Bool) : (s.sampled p).protect = p := rfl
@[simp] theorem sampled_floor (s : State) (p : Bool) : (s.sampled p).floor = s.floor := rfl
@[simp] theorem sampled_settings (s : State) (p : Bool) : (s.sampled p).settings = s.settings := rfl
@[simp] theorem sampled_chain (s : State) (p : Bool) : (s.sampled p).chain = s.chain := rfl
@[simp] theorem sampled_newest (s : State) (p : Bool) : (s.sampled p).newest = s.newest := rfl
@[simp] theorem sampled_revert (s : State) (p : Bool) : (s.sampled p).revert = s.revert := rfl
@[simp] theorem sampled_slot (s : State) (p : Bool) (i : Fin 8) : (s.sampled p).slot i = s.slot i := rfl
@[simp] theorem sampled_active (s : State) (p : Bool) : (s.sampled p).active = s.active := rfl
@[simp] theorem sampled_det (s : State) (p : Bool) : (s.sampled p).det = s.det := rfl
@[simp] theorem sampled_reports (s : State) (p : Bool) : (s.sampled p).reports = s.reports := rfl
@[simp] theorem sampled_pending (s : State) (p : Bool) : (s.sampled p).pending = s.pending := rfl
@[simp] theorem replying_busy (s : State) (r : Reply) : (s.replying r).port.busy = some r := rfl
@[simp] theorem replying_discarded (s : State) (r : Reply) : (s.replying r).port.discarded = s.port.discarded := rfl
@[simp] theorem replying_rx (s : State) (r : Reply) : (s.replying r).port.rx = s.port.rx := rfl
@[simp] theorem replying_cut (s : State) (r : Reply) : (s.replying r).port.cut = s.port.cut := rfl
@[simp] theorem replying_pending (s : State) (r : Reply) : (s.replying r).pending = s.pending := rfl

/-! ## Free values -/

@[simp] theorem draw_choices (s : State) : s.draw.2.choices = s.choices + 1 := rfl
@[simp] theorem draw_slot (s : State) (i : Fin 8) : s.draw.2.slot i = s.slot i := rfl
@[simp] theorem draw_table (s : State) : s.draw.2.table = s.table := rfl
@[simp] theorem draw_chain (s : State) : s.draw.2.chain = s.chain := rfl
@[simp] theorem draw_det (s : State) : s.draw.2.det = s.det := rfl
@[simp] theorem draw_reports (s : State) : s.draw.2.reports = s.reports := rfl
@[simp] theorem draw_ring (s : State) : s.draw.2.ring = s.ring := rfl

end Sys2Proof.Machine
end

