-- ==== Sys2Proof/Laws/Reports.lean ====
section
/-! SUPPORT. What the Report Queue's arbiter and the Notice Set can do to a state (chapter 8): the parts of the
state that an admission, an admission attempt and a raised notice may touch, and what each does when it fits. -/

namespace Sys2Proof.Laws

open Sys2Proof.Machine

/-- An admission touches the slots, the association entries and the reports, and nothing else. -/
theorem admitPick_shape (i : Fin 8) (s : State) :
    ∃ t a r, admitPick i s = { s with table := t, assoc := a, reports := r } := by
  unfold admitPick
  dsimp only
  split
  · exact ⟨s.table, s.assoc, s.reports, rfl⟩
  · unfold associate
    dsimp only
    split
    · exact ⟨_, _, _, rfl⟩
    · split <;> exact ⟨_, _, _, rfl⟩

/-- A notice's admission touches the reports only. -/
theorem admitNotice_shape (k : Fin 8) (s : State) : ∃ r, admitNotice k s = { s with reports := r } := by
  unfold admitNotice
  split
  · exact ⟨s.reports, rfl⟩
  · exact ⟨_, rfl⟩

/-- A blocked attempt touches the reports only. -/
theorem blockedAttempt_shape (w : Waiting) (s : State) : ∃ r, blockedAttempt w s = { s with reports := r } := by
  unfold blockedAttempt
  split
  · exact ⟨_, rfl⟩
  · exact ⟨s.reports, rfl⟩

/-- An item's admission touches the slots, the association entries and the reports, and nothing else. -/
theorem admitItem_shape (w : Waiting) (s : State) :
    ∃ t a r, admitItem w s = { s with table := t, assoc := a, reports := r } := by
  cases w with
  | pick i => exact admitPick_shape i s
  | notice k =>
    obtain ⟨r, h⟩ := admitNotice_shape k s
    exact ⟨s.table, s.assoc, r, h⟩

/-- The admission attempts of one event touch the slots, the association entries and the reports only. -/
theorem attempts_shape (n : Nat) : ∀ s : State,
    ∃ t a r, attempts n s = { s with table := t, assoc := a, reports := r } := by
  induction n with
  | zero => exact fun s => ⟨s.table, s.assoc, s.reports, rfl⟩
  | succ n ih =>
    intro s
    unfold attempts
    split
    · exact ⟨s.table, s.assoc, s.reports, rfl⟩
    · rename_i w _
      split
      · obtain ⟨t, a, r, h⟩ := admitItem_shape w s
        obtain ⟨t', a', r', h'⟩ := ih (admitItem w s)
        exact ⟨t', a', r', by rw [h', h]⟩
      · obtain ⟨r, h⟩ := blockedAttempt_shape w s
        exact ⟨s.table, s.assoc, r, h⟩

theorem admitAll_shape (s : State) : ∃ t a r, admitAll s = { s with table := t, assoc := a, reports := r } :=
  attempts_shape 16 s

/-- A notice entered into the Notice Set touches the reports only. -/
theorem post_shape (d : NoticeData) (s : State) : ∃ r, post d s = { s with reports := r } := by
  unfold post
  split <;> exact ⟨_, rfl⟩

/-- A raised notice touches the slots, the association entries and the reports only. -/
theorem raise_shape (d : NoticeData) (s : State) :
    ∃ t a r, raise d s = { s with table := t, assoc := a, reports := r } := by
  obtain ⟨r, h⟩ := post_shape d s
  unfold raise
  split
  · obtain ⟨t, a, r', h'⟩ := admitAll_shape (post d s)
    exact ⟨t, a, r', by rw [h', h]⟩
  · exact ⟨s.table, s.assoc, r, h⟩

@[simp] theorem raise_chain (d : NoticeData) (s : State) : (raise d s).chain = s.chain := by
  obtain ⟨_, _, _, h⟩ := raise_shape d s; rw [h]
@[simp] theorem raise_det (d : NoticeData) (s : State) : (raise d s).det = s.det := by
  obtain ⟨_, _, _, h⟩ := raise_shape d s; rw [h]
@[simp] theorem raise_ring (d : NoticeData) (s : State) : (raise d s).ring = s.ring := by
  obtain ⟨_, _, _, h⟩ := raise_shape d s; rw [h]
@[simp] theorem raise_newest (d : NoticeData) (s : State) : (raise d s).newest = s.newest := by
  obtain ⟨_, _, _, h⟩ := raise_shape d s; rw [h]
@[simp] theorem raise_intake (d : NoticeData) (s : State) : (raise d s).intake = s.intake := by
  obtain ⟨_, _, _, h⟩ := raise_shape d s; rw [h]
@[simp] theorem raise_settings (d : NoticeData) (s : State) : (raise d s).settings = s.settings := by
  obtain ⟨_, _, _, h⟩ := raise_shape d s; rw [h]
@[simp] theorem raise_time (d : NoticeData) (s : State) : (raise d s).time = s.time := by
  obtain ⟨_, _, _, h⟩ := raise_shape d s; rw [h]
@[simp] theorem raise_unit (d : NoticeData) (s : State) : (raise d s).unit = s.unit := by
  obtain ⟨_, _, _, h⟩ := raise_shape d s; rw [h]

/-- A notice of a key that is pending coalesces (R131). -/
theorem post_pending {d : NoticeData} {s : State} {p : PendingNotice} (h : s.reports.notices[d.key] = some p) :
    post d s = s.setNotice d.key (some { p with count := sat8 (p.count + 1), data := d }) := by
  simp only [post, h]

/-- A notice of a key that is not pending takes the next date (R127, R131). -/
theorem post_new {d : NoticeData} {s : State} (h : s.reports.notices[d.key] = none) :
    post d s = (s.setNotice d.key (some ⟨s.reports.waiting, s.newest, 1, d⟩)).takeDate := by
  simp only [post, h]

/-- A notice that coalesces brings no attempt (R131). -/
theorem raise_pending {d : NoticeData} {s : State} {p : PendingNotice} (h : s.reports.notices[d.key] = some p) :
    raise d s = s.setNotice d.key (some { p with count := sat8 (p.count + 1), data := d }) := by
  simp only [raise, h, post_pending h]

/-- A notice that begins to wait is followed by the attempts (R128, R131). -/
theorem raise_new {d : NoticeData} {s : State} (h : s.reports.notices[d.key] = none) :
    raise d s = admitAll ((s.setNotice d.key (some ⟨s.reports.waiting, s.newest, 1, d⟩)).takeDate) := by
  simp only [raise, h, post_new h]

/-- With nothing waiting the attempts change nothing (R128). -/
theorem admitAll_none {s : State} (h : s.oldestWaiting = none) : admitAll s = s := by
  simp only [admitAll, attempts, h]

/-- A pick of a DONE slot is admitted with the next sequence number, its slot FREE (R129). -/
theorem admitPick_some {i : Fin 8} {s : State} {p : PickRecord} (h : (s.slot i).record = some p) :
    admitPick i s =
      (associate p s.reports.pickSeq (s.slot i).params.smin (s.slot i).params.smax
        { s with reports := { s.reports with pickSeq := s.reports.pickSeq + 1, blocked := false } }).setSlot i
        freeSlot := by
  simp only [admitPick, h]

/-- A slot that enters DONE touches the slots, the association entries, the reports and the TIME_STEP mark, and
nothing else. -/
theorem enterDone_shape (i : Fin 8) (rec' : PickRecord) (s : State) :
    ∃ t a r, enterDone i rec' s =
      { s with table := t, assoc := a, reports := r, time := { s.time with step := false } } := by
  unfold enterDone
  dsimp only
  generalize hu : State.takeDate _ = u
  obtain ⟨t, a, r, h⟩ := admitAll_shape u
  exact ⟨t, a, r, by rw [h, ← hu]; rfl⟩

end Sys2Proof.Laws
end

