-- ==== Sys2Proof/Laws/Attempts.lean ====
section
/-! SUPPORT. The admission attempts of one event (R128): an admission of an item that waits leaves one item fewer, so the
attempts that the model grants an event are enough for all of them, and they go on from each admission as from the start. -/

namespace Sys2Proof.Laws

open Sys2Proof.Machine

/-- How many items wait. -/
def waits (s : State) : Nat :=
  eight.countP (fun i => decide ((s.slot i).st = .done) && (s.slot i).order.isSome) +
  eight.countP fun k => s.reports.notices[k].isSome

/-- Every DONE slot carries its record (R72). -/
abbrev doneRecorded (s : State) : Prop := ∀ i : Fin 8, (s.slot i).st = .done → (s.slot i).record.isSome

theorem waits_le (s : State) : waits s ≤ 16 := by
  have a := List.countP_le_length (p := fun i => decide ((s.slot i).st = .done) && (s.slot i).order.isSome) (l := eight)
  have b := List.countP_le_length (p := fun k : Fin 8 => s.reports.notices[k].isSome) (l := eight)
  have l : eight.length = 8 := by decide
  unfold waits
  omega

/-- An item kept by a scan for the oldest is one of those scanned. -/
theorem scan_mem (xs : List (BitVec 32 × Waiting)) : ∀ (b : Option (BitVec 32 × Waiting)) (x : BitVec 32 × Waiting),
    xs.foldl (fun best x => match best with
      | none => some x
      | some y => if olderDate y.1 x.1 then some x else some y) b = some x → x ∈ xs ∨ b = some x := by
  induction xs with
  | nil => exact fun b x h => .inr h
  | cons y ys ih =>
    intro b x h
    rw [List.foldl_cons] at h
    rcases ih _ x h with m | m
    · exact .inl (List.mem_cons_of_mem _ m)
    · split at m
      · cases m; exact .inl (List.mem_cons_self ..)
      · split at m
        · cases m; exact .inl (List.mem_cons_self ..)
        · exact .inr m

/-- The oldest waiting item waits: a DONE slot with a completion order, or a pending notice (R127). -/
theorem oldest_waits {s : State} {w : Waiting} (h : s.oldestWaiting = some w) :
    match w with
    | .pick i => (s.slot i).st = .done ∧ (s.slot i).order.isSome
    | .notice k => s.reports.notices[k].isSome := by
  unfold State.oldestWaiting at h
  rw [Option.map_eq_some_iff] at h
  obtain ⟨x, hx, rfl⟩ := h
  rcases scan_mem _ _ _ hx with m | m
  · unfold State.waitingItems at m
    simp only [List.mem_append, List.mem_filterMap] at m
    rcases m with ⟨i, -, m⟩ | ⟨k, -, m⟩
    · split at m
      · rename_i hd
        obtain ⟨d, ho, rfl⟩ := Option.map_eq_some_iff.1 m
        exact ⟨hd, by simp [ho]⟩
      · cases m
    · obtain ⟨p, hp, rfl⟩ := Option.map_eq_some_iff.1 m
      simp [hp]
  · cases m

/-- A count falls where one that was counted no longer is, and none is counted anew. -/
theorem countP_falls {α : Type} {p q : α → Bool} (l : List α) (h : ∀ x ∈ l, q x = true → p x = true) {a : α} (ha : a ∈ l)
    (hp : p a = true) (hq : q a = false) : l.countP q < l.countP p := by
  induction l with
  | nil => cases ha
  | cons x xs ih =>
    have le := List.countP_mono_left (l := xs) fun y hy => h y (List.mem_cons_of_mem _ hy)
    have hx := h x (List.mem_cons_self ..)
    rcases List.mem_cons.1 ha with rfl | ha
    · simp only [List.countP_cons, hp, hq, if_true, Bool.false_eq_true, if_false]
      omega
    · have := ih (fun y hy => h y (List.mem_cons_of_mem _ hy)) ha
      simp only [List.countP_cons]
      by_cases e : q x = true
      · rw [if_pos e, if_pos (hx e)]; omega
      · rw [if_neg e]; omega

@[simp] theorem associate_slot (p : PickRecord) (seq : BitVec 32) (a b : Nat) (s : State) (j : Fin 8) :
    (associate p seq a b s).slot j = s.slot j := by
  unfold associate
  dsimp only
  split
  · rfl
  · split <;> rfl

@[simp] theorem associate_notices (p : PickRecord) (seq : BitVec 32) (a b : Nat) (s : State) :
    (associate p seq a b s).reports.notices = s.reports.notices := by
  unfold associate
  dsimp only
  split
  · rfl
  · split <;> rfl

/-- A pick's admission frees its slot and leaves every other, and the pending notices (R129). -/
theorem admitPick_frees {i : Fin 8} {s : State} (h : (s.slot i).record.isSome) :
    (admitPick i s).slot i = freeSlot ∧ (∀ j : Fin 8, j ≠ i → (admitPick i s).slot j = s.slot j) ∧
      (admitPick i s).reports.notices = s.reports.notices := by
  obtain ⟨p, hp⟩ := Option.isSome_iff_exists.1 h
  rw [admitPick_some hp]
  refine ⟨by simp, fun j hj => ?_, by simp⟩
  rw [setSlot_slot_ne _ _ hj, associate_slot]
  rfl

/-- A notice's admission clears its key and leaves every other, and the slots (R130). -/
theorem admitNotice_clears {k : Fin 8} {s : State} (h : s.reports.notices[k].isSome) :
    (admitNotice k s).reports.notices[k] = none ∧
      (∀ j : Fin 8, j ≠ k → (admitNotice k s).reports.notices[j] = s.reports.notices[j]) ∧
      ∀ i : Fin 8, (admitNotice k s).slot i = s.slot i := by
  obtain ⟨p, hp⟩ := Option.isSome_iff_exists.1 h
  have e : admitNotice k s = enqueue [.notice ⟨p.count, p.first, p.data⟩]
      ((({ s with reports := { s.reports with blocked := false } } : State)).setNotice k none) := by
    simp only [admitNotice, hp]
  rw [e]
  refine ⟨setNotice_self _ k none, fun j hj => ?_, fun i => rfl⟩
  rw [enqueue_notices, setNotice_ne _ _ hj]

/-- The admission of the oldest waiting item leaves fewer items waiting, and every DONE slot its record. -/
theorem admitItem_waits {s : State} {w : Waiting} (hw : s.oldestWaiting = some w) (hs : doneRecorded s) :
    waits (admitItem w s) < waits s ∧ doneRecorded (admitItem w s) := by
  have all (i : Fin 8) : i ∈ eight := by revert i; decide
  have h := oldest_waits hw
  cases w with
  | pick i =>
    obtain ⟨own, other, notices⟩ := admitPick_frees (hs i h.1)
    simp only [admitItem]
    constructor
    · unfold waits
      rw [notices]
      refine Nat.add_lt_add_right (countP_falls _ (fun j _ hj => ?_) (all i) (by simpa using h) ?_) _
      · by_cases e : j = i
        · subst e; rw [own] at hj; simp [freeSlot] at hj
        · rwa [other j e] at hj
      · rw [own]; rfl
    · intro j hj
      by_cases e : j = i
      · subst e; rw [own] at hj; cases hj
      · rw [other j e] at hj ⊢; exact hs j hj
  | notice k =>
    obtain ⟨own, other, slots⟩ := admitNotice_clears h
    simp only [admitItem]
    constructor
    · unfold waits
      simp only [slots]
      refine Nat.add_lt_add_left (countP_falls _ (fun j _ hj => ?_) (all k) h ?_) _
      · by_cases e : j = k
        · subst e; rw [own] at hj; cases hj
        · rwa [other j e] at hj
      · rw [own]; rfl
    · intro j hj
      rw [slots] at hj ⊢
      exact hs j hj

/-- As many attempts as items wait are enough: more of them change nothing. -/
theorem attempts_enough (n : Nat) : ∀ (m : Nat) (s : State), doneRecorded s → waits s ≤ n → waits s ≤ m →
    attempts n s = attempts m s := by
  induction n with
  | zero =>
    intro m s hs hn _
    cases m with
    | zero => rfl
    | succ m =>
      cases hw : s.oldestWaiting with
      | none => simp only [attempts, hw]
      | some w => exact absurd (admitItem_waits hw hs).1 (by omega)
  | succ n ih =>
    intro m s hs hn hm
    cases hw : s.oldestWaiting with
    | none => cases m <;> simp only [attempts, hw]
    | some w =>
      obtain ⟨less, kept⟩ := admitItem_waits hw hs
      cases m with
      | zero => omega
      | succ m => simp only [attempts, hw, ih m _ kept (by omega) (by omega)]

/-- An oldest item that fits is admitted, and the attempts go on as if from there (R128). -/
theorem admitAll_fits {s : State} {w : Waiting} (hw : s.oldestWaiting = some w) (hs : doneRecorded s)
    (hf : s.placesFor w ≤ s.places) : admitAll s = admitAll (admitItem w s) := by
  obtain ⟨less, kept⟩ := admitItem_waits hw hs
  have bound := waits_le s
  have step : admitAll s = attempts 15 (admitItem w s) := by
    simp only [admitAll, attempts, hw, hf, if_true]
  rw [step]
  exact attempts_enough 15 16 _ kept (by omega) (by omega)

/-- An oldest item that does not fit is not overtaken (R128). -/
theorem admitAll_stuck {s : State} {w : Waiting} (hw : s.oldestWaiting = some w) (hf : s.places < s.placesFor w) :
    admitAll s = blockedAttempt w s := by
  simp only [admitAll, attempts, hw, Nat.not_le.2 hf, if_false]

end Sys2Proof.Laws
end

