-- ==== Sys2Proof/Laws/Delivery.lean ====
section
/-! SUPPORT. The delivery of a conditioned frame, said once: which recipients take it, and how often. -/

namespace Sys2Proof.Laws

open Sys2Proof.Machine

/-- An order of delivery: every recipient once, the Chain Controller's last act behind both detectors and the recentre flag
(R16, R33, R57, R58). -/
def delivers (order : List Recipient) : Prop :=
  order.Perm [.detector .z, .detector .h, .recentre, .after, .stack, .assoc] ∧
  ∃ ahead behind : List Recipient, order = ahead ++ .after :: behind ∧
    .detector .z ∈ ahead ∧ .detector .h ∈ ahead ∧ .recentre ∈ ahead

/-- An order whose first three recipients, in any order, stand before the Chain Controller's last act. -/
theorem delivers_of {order : List Recipient}
    (h : order.Perm [.detector .z, .detector .h, .recentre, .after, .stack, .assoc] ∧
      order = order.takeWhile (· != .after) ++ .after :: (order.dropWhile (· != .after)).tail ∧
      .detector .z ∈ order.takeWhile (· != .after) ∧ .detector .h ∈ order.takeWhile (· != .after) ∧
      .recentre ∈ order.takeWhile (· != .after)) : delivers order :=
  ⟨h.1, _, _, h.2⟩

theorem plainOrder_delivers : delivers plainOrder := delivers_of (by decide)

/-- A free value names its order by its remainder. -/
theorem frameOrder_mod (v : Nat) : frameOrder v = frameOrder (v % 180) := by
  have a : v % 180 / 30 % 6 = v / 30 % 6 := by omega
  have b : v % 180 / 6 % 5 = v / 6 % 5 := by omega
  have c : v % 180 % 6 = v % 6 := by omega
  simp only [frameOrder, firstThree, a, b, c]

/-- Every order that a free value names delivers the frame. -/
theorem frameOrder_delivers (v : Nat) : delivers (frameOrder v) := by
  rw [frameOrder_mod]
  have h : v % 180 < 180 := Nat.mod_lt _ (by decide)
  generalize v % 180 = m at h
  refine delivers_of ?_
  revert m
  decide +kernel

/-- What a delivery does: the recipients take the frame in one such order, at most one free value being drawn (log 3). -/
theorem deliver_shape (f : Conditioned) (s : State) : ∃ order drawn, delivers order ∧ drawn ≤ 1 ∧
    deliver f s = order.foldl (receive f) { s with choices := s.choices + drawn } := by
  unfold deliver
  split
  · exact ⟨_, 1, frameOrder_delivers _, le_refl 1, rfl⟩
  · exact ⟨plainOrder, 0, plainOrder_delivers, Nat.zero_le 1, rfl⟩

end Sys2Proof.Laws
end

