-- ==== Sys2Proof/Laws/FrameTests.lean ====
section
/-! SUPPORT. The tests of a frame (State.due): a test that is not due changes nothing, and what popping expired trials
does to the stack, said once. -/

namespace Sys2Proof.Laws

open Sys2Proof.Machine

/-- A completion test that has been made is not made again (R33). -/
theorem completionTest_made {n : Sample} {s : State} (h : s.due.completion = false) : completionTest n s = s := by
  simp only [completionTest, h, Bool.false_eq_true, if_false]

/-- Expiry tests of the Association Table that have been made are not made again (R109). -/
theorem entryTests_made {n : Sample} {s : State} (h : s.due.entries = false) : entryTests n s = s := by
  simp only [entryTests, h, Bool.false_eq_true, if_false]

/-- Expiry tests of the Revert Stack that have been made are not made again (R165). -/
theorem trialTests_made {n : Sample} {s : State} (h : s.due.trials = false) : trialTests n s = s := by
  simp only [trialTests, h, Bool.false_eq_true, if_false]

/-- A popped trial touches the stack and the profile entries, and its notice what a raised notice touches; nothing else
changes. -/
theorem popExpired_shape (n : Sample) (ts : List Trial) : ∀ s : State,
    ∃ rv st t a r, popExpired n ts s =
      { s with revert := rv, settings := st, table := t, assoc := a, reports := r } := by
  induction ts with
  | nil => exact fun s => ⟨s.revert, s.settings, s.table, s.assoc, s.reports, rfl⟩
  | cons t rest ih =>
    intro s
    unfold popExpired
    split
    · obtain ⟨tb, a, r, h⟩ := raise_shape (.trialExpired t.entry t.item t.old) (popTrial t rest s)
      obtain ⟨rv, st, tb', a', r', h'⟩ := ih (raise (.trialExpired t.entry t.item t.old) (popTrial t rest s))
      exact ⟨rv, st, tb', a', r', by rw [h', h]; rfl⟩
    · exact ⟨s.revert, s.settings, s.table, s.assoc, s.reports, rfl⟩

/-- The stack that popping leaves: everything from the first trial on that has not expired (R165). -/
theorem popExpired_revert (n : Sample) (ts : List Trial) : ∀ s : State, s.revert = ts →
    (popExpired n ts s).revert = ts.dropWhile (·.expired n) := by
  induction ts with
  | nil => exact fun s h => h
  | cons t rest ih =>
    intro s h
    unfold popExpired
    split
    · rename_i he
      obtain ⟨_, _, _, hp⟩ := raise_shape (.trialExpired t.entry t.item t.old) (popTrial t rest s)
      rw [ih _ (by rw [hp]; rfl), List.dropWhile_cons, if_pos he]
    · rename_i he
      rw [h, List.dropWhile_cons, if_neg he]

/-- The Revert Stack's expiry leaves exactly that stack (R165). -/
theorem expireTrials_revert (n : Sample) (s : State) :
    (expireTrials n s).revert = s.revert.dropWhile (·.expired n) :=
  popExpired_revert n s.revert s rfl

end Sys2Proof.Laws
end

