-- ==== Sys2Proof/Laws/Framing.lean ====
section
/-! SUPPORT. The search for a sync pair (R1, R167): what it keeps of bytes in which no frame stands yet. -/

namespace Sys2Proof.Laws

open Sys2Proof.Machine

/-- Of bytes that hold no sync pair the search keeps a last first-sync byte, and nothing else. -/
theorem syncSearch_without {a b : Byte} (l : List Byte) (h : ¬ [a, b] <:+: l) :
    syncSearch a b l = if l.getLast? = some a then [a] else [] := by
  induction l with
  | nil => rfl
  | cons x r ih =>
    cases r with
    | nil =>
      simp only [syncSearch, List.getLast?_singleton, Option.some.injEq]
      split <;> simp_all
    | cons y r =>
      have tail : ¬ [a, b] <:+: y :: r := fun q => h (q.trans (List.suffix_cons x _).isInfix)
      rw [syncSearch, if_neg, ih tail, List.getLast?_cons_cons]
      rintro ⟨rfl, rfl⟩
      exact h ⟨[], r, rfl⟩

/-- The search finds the first sync pair, and keeps all that stands from it on. -/
theorem syncSearch_finds {a b : Byte} (ne : a ≠ b) (rest : List Byte) (pre : List Byte) (h : ¬ [a, b] <:+: pre ++ [a]) :
    syncSearch a b (pre ++ a :: b :: rest) = a :: b :: rest := by
  induction pre with
  | nil => simp [syncSearch]
  | cons x r ih =>
    have tail : ¬ [a, b] <:+: r ++ [a] := fun q => h (q.trans (List.suffix_cons x _).isInfix)
    cases r with
    | nil =>
      rw [List.cons_append, List.nil_append, syncSearch, if_neg fun q => ne q.2]
      exact ih tail
    | cons y r =>
      rw [List.cons_append, List.cons_append, syncSearch, if_neg]
      · exact ih tail
      · rintro ⟨rfl, rfl⟩
        exact h ⟨[], r ++ [x], by simp⟩

end Sys2Proof.Laws
end

