-- ==== Sys2Proof/Laws/Layout.lean ====
section
/-! SUPPORT. What the byte order does: the length of a number's bytes, what they read back as, and how fields are found
among bytes laid one behind another. -/

namespace Sys2Proof.Machine

@[simp] theorem be_length (k x : Nat) : (be k x).length = k := by
  induction k with
  | zero => rfl
  | succ k ih => simp [be, ih]

@[simp] theorem beInt_length (k : Nat) (x : Int) : (beInt k x).length = k := be_length _ _

/-- Reading on from bytes already read. -/
theorem unbe_from (bs : List Byte) (a : Nat) :
    bs.foldl (fun acc b => acc * 256 + b.toNat) a = a * 256 ^ bs.length + unbe bs := by
  induction bs generalizing a with
  | nil => simp [unbe]
  | cons b bs ih =>
    have h := ih (0 * 256 + b.toNat)
    simp only [unbe, List.foldl_cons, List.length_cons] at h ⊢
    rw [ih, h]
    simp only [unbe]
    ring

/-- Bytes read as one number: the first stand above the rest. -/
theorem unbe_append (as bs : List Byte) : unbe (as ++ bs) = unbe as * 256 ^ bs.length + unbe bs := by
  rw [unbe, List.foldl_append, unbe_from]
  rfl

/-- A number's bytes read back as the number modulo what they hold. -/
theorem unbe_be (k x : Nat) : unbe (be k x) = x % 256 ^ k := by
  induction k with
  | zero => simp [be, unbe, Nat.mod_one]
  | succ k ih =>
    have h := unbe_append [BitVec.ofNat 8 (x / 256 ^ k)] (be k x)
    have one : unbe [BitVec.ofNat 8 (x / 256 ^ k)] = x / 256 ^ k % 256 := by simp [unbe]
    rw [List.singleton_append, one, ih, be_length] at h
    rw [be, h, pow_succ, Nat.mod_mul, Nat.mul_comm, Nat.add_comm]

/-- A field behind bytes that it does not touch. -/
theorem field_behind (as bs : List Byte) (off len : Nat) :
    field (as ++ bs) (as.length + off) len = field bs off len := by
  have h : as.drop (as.length + off) = [] := List.drop_eq_nil_of_le (by omega)
  simp [field, slice, List.drop_append, h]

/-- A field within the first of two runs of bytes. -/
theorem field_before (as bs : List Byte) {off len : Nat} (h : off + len ≤ as.length) :
    field (as ++ bs) off len = field as off len := by
  have hd : off ≤ as.length := by omega
  have ht : len ≤ (as.drop off).length := by simp; omega
  simp [field, slice, List.drop_append_of_le_length hd, List.take_append_of_le_length ht]

/-- The field that a number's bytes fill at the front. -/
theorem field_be {k x : Nat} (bs : List Byte) (h : x < 256 ^ k) : field (be k x ++ bs) 0 k = x := by
  rw [field_before _ _ (by simp)]
  have : slice (be k x) 0 k = be k x := by simp [slice]
  rw [field, this, unbe_be, Nat.mod_eq_of_lt h]

end Sys2Proof.Machine
end

