-- ==== Sys2Proof/Laws/Recipients.lean ====
section
/-! SUPPORT. The tests of a frame that stand due (State.due), through every recipient of the frame: which operations leave
the marks as they are. -/

namespace Sys2Proof.Laws

open Sys2Proof.Machine

@[simp] theorem raise_due (d : NoticeData) (s : State) : (raise d s).due = s.due := by
  obtain ⟨_, _, _, h⟩ := raise_shape d s; rw [h]

theorem foldl_due {α : Type} (g : State → α → State) (h : ∀ s a, (g s a).due = s.due) (l : List α) :
    ∀ s : State, (l.foldl g s).due = s.due := by
  induction l with
  | nil => exact fun _ => rfl
  | cons a l ih => intro s; rw [List.foldl_cons, ih, h]

@[simp] theorem takeNext_due (s : State) : (takeNext s).due = s.due := by
  unfold takeNext; split <;> rfl

@[simp] theorem closeSlot_due (c : Sample) (f : Flags) (i : Fin 8) (s : State) : (closeSlot c f i s).due = s.due := by
  unfold closeSlot; dsimp only; rw [takeNext_due]; rfl

@[simp] theorem closeAll_due (f : Flags) (s : State) : (closeAll f s).due = s.due :=
  foldl_due _ (fun _ _ => closeSlot_due _ _ _ _) _ s

@[simp] theorem reportSteps_due (w : Det) (n : Sample) (r : Nat) (s : State) : (reportSteps w n r s).due = s.due := by
  unfold reportSteps autoClose
  rw [foldl_due _ (fun _ _ => closeSlot_due _ _ _ _)]
  rfl

@[simp] theorem crossing_due (w : Det) (t : Sample) (e r : Nat) (s : State) : (crossing w t e r s).due = s.due := by
  unfold crossing
  split
  · rfl
  · split <;> rfl

@[simp] theorem crossingReport_due (w : Det) (n : Sample) (e r : Nat) (s : State) :
    (crossingReport w n e r s).due = s.due := by
  unfold crossingReport
  repeat' split
  all_goals simp only [crossing_due, reportSteps_due]
  all_goals rename_i q _; exact (congrArg (fun x : Nat × State => x.2.due) q).symm

/-- A detector's act leaves the marks. -/
@[simp] theorem detectorFrame_due (w : Det) (f : Conditioned) (s : State) : (detectorFrame w f s).due = s.due := by
  unfold detectorFrame announceForced
  dsimp only
  repeat' split
  all_goals simp [flagForced]

/-- The reading of the recentre flag leaves the marks. -/
@[simp] theorem readRecentre_due (f : Conditioned) (s : State) : (readRecentre f s).due = s.due := by
  unfold readRecentre blankTo beginBlanking pauseTo
  dsimp only
  repeat' split
  all_goals simp

/-- The Chain Controller's last act makes the completion test, and no other. -/
theorem afterDetectors_due (f : Conditioned) (s : State) :
    (afterDetectors f s).due.trials = s.due.trials ∧ (afterDetectors f s).due.entries = s.due.entries := by
  unfold afterDetectors afterWarmupFrame afterRunFrame warmupBlock completionTest completeWarmup endBlanking capture
  dsimp only
  repeat' split
  all_goals simp [enterRun, countBlock, endPause]

/-- The Revert Stack makes its own test, and no other. -/
theorem trialTests_due (n : Sample) (s : State) :
    (trialTests n s).due.entries = s.due.entries ∧ (trialTests n s).due.completion = s.due.completion := by
  unfold trialTests expireTrials
  split
  · obtain ⟨_, _, _, _, _, h⟩ := popExpired_shape n s.revert { s with due := { s.due with trials := false } }
    dsimp only
    rw [h]
    exact ⟨rfl, rfl⟩
  · exact ⟨rfl, rfl⟩

end Sys2Proof.Laws
end

