-- ==== Sys2Proof/Laws/Requests.lean ====
section
/-! SUPPORT. What the port does with a request frame, said once: discarded while busy, refused by the checks of
dispatch, or answered by the request's own action. -/

namespace Sys2Proof.Machine

/-- The effective level does not depend on what a request samples. -/
@[simp] theorem effLevel_eq (s : State) (r : Req) : effLevel s r = max r.level.toNat s.floor := rfl

/-- A frame that completes while a request is in progress is only counted (R167, R168). -/
theorem request_busy {s : State} {kind : Byte} {r : Req} {lens : List Nat} {body : List Byte} {act : Action}
    (hp : s.power = true) (hb : s.port.busy.isSome = true) :
    request kind r lens body act s = countDiscard s := by
  obtain ⟨b, hb⟩ := Option.isSome_iff_exists.mp hb
  simp only [request, hp, hb, if_true]

/-- An unpowered part takes no frame. -/
theorem request_off {s : State} {kind : Byte} {r : Req} {lens : List Nat} {body : List Byte} {act : Action}
    (hp : s.power = false) : request kind r lens body act s = s := by simp [request, hp]

/-- A frame that reaches a free port is taken: the outcome of its dispatch, with the reply in progress. -/
theorem request_taken {s : State} {kind : Byte} {r : Req} {lens : List Nat} {body : List Byte} {act : Action}
    (hp : s.power = true) (hb : s.port.busy = none) {t : State} {a : Answer}
    (hd : dispatch r lens body act (s.sampled r.protect) = (t, a)) :
    request kind r lens body act s =
      t.replying ⟨max r.level.toNat s.floor, kind + 0x80, r.tag, a.status, a.clamped, a.data⟩ := by
  simp only [request, hp, hb, if_true, hd]
  rfl

/-- Dispatch refuses an originator level above 3 first (R153, R169). -/
theorem dispatch_level {r : Req} {lens : List Nat} {body : List Byte} {act : Action} {s : State}
    (h : 3 < r.level.toNat) : dispatch r lens body act s = (s, refuse .level) := by simp [dispatch, h]

/-- Dispatch refuses a body length that the catalogue does not allow (R169). -/
theorem dispatch_length {r : Req} {lens : List Nat} {body : List Byte} {act : Action} {s : State}
    (h : r.level.toNat ≤ 3) (hl : lens.contains body.length = false) :
    dispatch r lens body act s = (s, refuse .badLength) := by
  have h' : ¬ 3 < r.level.toNat := by omega
  simp only [dispatch, h', hl, if_false, Bool.not_false, if_true]

/-- Dispatch hands over a frame that passes its checks. -/
theorem dispatch_act {r : Req} {lens : List Nat} {body : List Byte} {act : Action} {s : State}
    (h : r.level.toNat ≤ 3) (hl : lens.contains body.length = true) :
    dispatch r lens body act s = act (max r.level.toNat s.floor) s := by
  have h' : ¬ 3 < r.level.toNat := by omega
  simp only [dispatch, h', hl, if_false, Bool.not_true, effLevel_eq, Bool.false_eq_true]

/-- A fixed required level that is met (R156). -/
theorem needLevel_met {n eff : Nat} {act : Action} {s : State} (h : eff ≤ n) :
    needLevel n act eff s = act eff s := by simp [needLevel, h]

/-- A fixed required level that is not met (R156). -/
theorem needLevel_unmet {n eff : Nat} {act : Action} {s : State} (h : n < eff) :
    needLevel n act eff s = (s, refuse .level) := by
  have h' : ¬ eff ≤ n := by omega
  simp [needLevel, h']

/-! ## The receiver -/

@[simp] theorem setRx_rx (rx : List Byte) (s : State) : (setRx rx s).port.rx = rx := rfl
@[simp] theorem setRx_cut (rx : List Byte) (s : State) : (setRx rx s).port.cut = s.port.cut := rfl
@[simp] theorem setRx_busy (rx : List Byte) (s : State) : (setRx rx s).port.busy = s.port.busy := rfl
@[simp] theorem setCut_rx (c : Bool) (s : State) : (setCut c s).port.rx = s.port.rx := rfl
@[simp] theorem setCut_cut (c : Bool) (s : State) : (setCut c s).port.cut = c := rfl
@[simp] theorem countDiscard_rx (s : State) : (countDiscard s).port.rx = s.port.rx := rfl
@[simp] theorem countDiscard_cut (s : State) : (countDiscard s).port.cut = s.port.cut := rfl

/-- Hearing bytes changes the receiver and its counter alone, and leaves no silence behind a byte heard (R167). -/
theorem hear_shape (bs : List Byte) (s : State) :
    hear bs s = { s with port := (hear bs s).port } ∧ (hear bs s).port.busy = s.port.busy ∧
      (bs ≠ [] → (hear bs s).port.cut = false) := by
  simp only [hear]
  split
  · split <;> exact ⟨rfl, rfl, fun _ => rfl⟩
  · rename_i h
    refine ⟨rfl, rfl, fun hb => ?_⟩
    cases hx : s.port.rx ++ bs with
    | nil => exact absurd (List.append_eq_nil_iff.1 hx).2 hb
    | cons b rest =>
      cases hc : s.port.cut with
      | false => exact hc
      | true => exact (h b rest hc hx).elim

/-- A silence moves a lone first sync byte out of the bytes held, and changes nothing else (R167). -/
theorem cutSync_shape (s : State) :
    (s.port.rx = [0xC3] ∧ cutSync s = { s with port := { s.port with rx := [], cut := true } }) ∨
      (s.port.rx ≠ [0xC3] ∧ cutSync s = s) := by
  unfold cutSync
  split
  · exact .inl ⟨‹_›, rfl⟩
  · exact .inr ⟨‹_›, rfl⟩

/-- The receiver with nothing held differs in the receiver alone. -/
@[simp] theorem listen_power (s : State) : (listen s).power = s.power := rfl
@[simp] theorem listen_floor (s : State) : (listen s).floor = s.floor := rfl
@[simp] theorem listen_busy (s : State) : (listen s).port.busy = s.port.busy := rfl
@[simp] theorem listen_discarded (s : State) : (listen s).port.discarded = s.port.discarded := rfl
@[simp] theorem listen_rx (s : State) : (listen s).port.rx = [] := rfl
@[simp] theorem listen_cut (s : State) : (listen s).port.cut = false := rfl
@[simp] theorem listen_settings (s : State) : (listen s).settings = s.settings := rfl
@[simp] theorem listen_chain (s : State) : (listen s).chain = s.chain := rfl
@[simp] theorem listen_newest (s : State) : (listen s).newest = s.newest := rfl
@[simp] theorem listen_reports (s : State) : (listen s).reports = s.reports := rfl
@[simp] theorem listen_pending (s : State) : (listen s).pending = s.pending := rfl

/-- A searching receiver takes a request row's frame (R167). -/
theorem requestRow_searching {s : State} {kind : Byte} {r : Req} {body : List Byte} (hp : s.power = true)
    (hs : s.port.searching = true) : requestRow kind r body s = takeFrame kind r body (listen s) := by
  simp only [requestRow, hp, hs, if_true]

/-- A receiver inside a frame takes a request row's bytes as that frame's (R167). -/
theorem requestRow_inside {s : State} {kind : Byte} {r : Req} {body : List Byte} (hp : s.power = true)
    (hs : s.port.searching = false) :
    requestRow kind r body s = portBytes r.protect (requestBytes kind r body) s := by
  simp only [requestRow, hp, hs, if_true, Bool.false_eq_true, if_false]

/-- A frame of a kind of the catalogue is taken with that kind's lengths and action (R169, R171). -/
theorem takeFrame_known {kind : Byte} {r : Req} {body : List Byte} {s : State} {lens : List Nat} {act : Action}
    (h : catalogue kind.toNat body = some (lens, act)) :
    takeFrame kind r body s = request kind r lens body act s := by simp only [takeFrame, h]

/-- A request that passes dispatch, by its action's outcome: the reply that a statement names. -/
theorem requestRow_replies {s t : State} {kind : Byte} {r : Req} {lens : List Nat} {body : List Byte}
    {act : Action} {st : Status} {c : Bool} {data : List Byte} (h : s.portFree) (hr : r.level.toNat ≤ 3)
    (hk : catalogue kind.toNat body = some (lens, act)) (hl : lens.contains body.length = true)
    (ha : act (max r.level.toNat s.floor) ((listen s).sampled r.protect) =
      ((listen t).sampled r.protect, ⟨st, c, data⟩)) :
    requestRow kind r body s = replied s t r kind st c data := by
  rw [requestRow_searching h.1 h.2.2, takeFrame_known hk]
  exact request_taken (s := listen s) h.1 h.2.1 ((dispatch_act hr hl).trans ha)

/-- The same behind a fixed required level that is met. -/
theorem requestRow_replies_level {s t : State} {n : Nat} {kind : Byte} {r : Req} {lens : List Nat}
    {body : List Byte} {act : Action} {st : Status} {c : Bool} {data : List Byte} (h : s.takes r n)
    (hk : catalogue kind.toNat body = some (lens, needLevel n act)) (hl : lens.contains body.length = true)
    (ha : act (max r.level.toNat s.floor) ((listen s).sampled r.protect) =
      ((listen t).sampled r.protect, ⟨st, c, data⟩)) :
    requestRow kind r body s = replied s t r kind st c data :=
  requestRow_replies h.1 h.2.1 hk hl ((needLevel_met h.2.2).trans ha)

/-- A fixed required level that is not met: LEVEL, and nothing changes. -/
theorem requestRow_below_level {s : State} {n : Nat} {kind : Byte} {r : Req} {lens : List Nat}
    {body : List Byte} {act : Action} (h : s.portFree) (hr : r.level.toNat ≤ 3)
    (hk : catalogue kind.toNat body = some (lens, needLevel n act)) (hl : lens.contains body.length = true)
    (hn : n < max r.level.toNat s.floor) : requestRow kind r body s = answered s s r kind .level :=
  requestRow_replies h hr hk hl (needLevel_unmet hn)

end Sys2Proof.Machine
end

