-- ==== Sys2Proof/Laws/Slots.lean ====
section
/-! SUPPORT. What closing slots does, said once: one slot, then any number of them in an order. -/

namespace Sys2Proof.Machine

/-- The order of closing holds exactly the slots to be closed (R69). -/
theorem byTrigger_perm (s : State) (is : List (Fin 8)) : (byTrigger s is).Perm is := by
  have ins : ∀ (i : Fin 8) (l : List (Fin 8)), (insertByTrigger s i l).Perm (i :: l) := by
    intro i l
    induction l with
    | nil => exact List.Perm.refl _
    | cons j rest ih =>
      simp only [insertByTrigger]
      split
      · exact List.Perm.refl _
      · exact (ih.cons j).trans (List.Perm.swap i j rest)
  induction is with
  | nil => exact List.Perm.refl _
  | cons i rest ih => exact (ins i _).trans (ih.cons i)

/-- The order of closing depends on the trigger samples alone. -/
theorem byTrigger_congr {s t : State} (h : ∀ i, (t.slot i).trigger = (s.slot i).trigger) (is : List (Fin 8)) :
    byTrigger t is = byTrigger s is := by
  have ins : insertByTrigger t = insertByTrigger s := by
    funext i l
    induction l with
    | nil => simp only [insertByTrigger]
    | cons j rest ih => simp only [insertByTrigger, h, ih]
  simp only [byTrigger, ins]

/-- A slot belongs to the list of its state. -/
theorem mem_slotsIn (s : State) (st : SlotState) (i : Fin 8) : i ∈ s.slotsIn st ↔ (s.slot i).st = st := by
  simp [State.slotsIn, eight]
  intro _
  fin_cases i <;> simp

/-- The slots of a state are listed once each. -/
theorem slotsIn_nodup (s : State) (st : SlotState) : (s.slotsIn st).Nodup :=
  List.Nodup.filter _ (by decide)

/-- An idle Unit takes the head of the refinement queue (R71, R80). -/
theorem takeNext_idle {s : State} {i : Fin 8} {rest : List (Fin 8)} (hu : s.unit = none)
    (hq : s.table.queue = i :: rest) :
    takeNext s = { s.setSlot i { s.slot i with st := .refining } with
      table := { (s.setSlot i { s.slot i with st := .refining }).table with queue := rest }
      unit := some ⟨i, s.active.cf, forcedOnset (s.slot i), none, none⟩ } := by
  simp only [takeNext, hu, hq]
  rfl

/-- A busy Unit takes nothing. -/
theorem takeNext_busy {s : State} {u : RefineUnit} (hu : s.unit = some u) : takeNext s = s := by
  simp only [takeNext, hu]

/-- An empty queue gives the Unit nothing. -/
theorem takeNext_empty {s : State} (hq : s.table.queue = []) : takeNext s = s := by
  unfold takeNext
  split
  · simp_all
  · rfl

/-- The most recent openings after slot i has closed (R61, R69). -/
theorem clearRecent_get (i : Fin 8) (s : State) (w : Det) :
    (clearRecent i s).table.recent.get w = (s.table.recent.get w).filter fun x => !([i].contains x.1) := by
  simp only [clearRecent, pair_get_map]
  cases h : s.table.recent.get w with
  | none => rfl
  | some x =>
    by_cases hx : x.1 = i <;> simp [Option.filter, hx]

/-- The slot as it enters CLOSED (R69). -/
def closedSlot (s : State) (x : Slot) (close : Sample) (f : Flags) : Slot :=
  let pin := placePin s.ring (before x.trigger x.params.lb)
  { x with st := .closed, close := close, pin := some pin.1 }.raise (f.union { historyShort := pin.2 })

/-- Flags are raised together or one after another alike. -/
theorem union_assoc (a b c : Flags) : a.union (b.union c) = (a.union b).union c := by
  simp [Flags.union, Bool.or_assoc]

/-- A slot that has entered CLOSED, whatever its state since. -/
theorem closedSlot_closedAs (s : State) (x : Slot) (close : Sample) (f : Flags) (st : SlotState) :
    closedAs s x { closedSlot s x close f with st := st } close f := by
  simp only [closedAs, closedSlot, Slot.raise, union_assoc]

/-- The state before the Unit looks at the queue. -/
def closing (close : Sample) (f : Flags) (i : Fin 8) (s : State) : State :=
  let t := clearRecent i (s.setSlot i (closedSlot s (s.slot i) close f))
  { t with table := { t.table with queue := t.table.queue ++ [i] } }

/-- A close is the entry into CLOSED, then the Unit's look at the queue. -/
theorem closeSlot_eq (close : Sample) (f : Flags) (i : Fin 8) (s : State) :
    closeSlot close f i s = takeNext (closing close f i s) := rfl

theorem closing_slot_self (close : Sample) (f : Flags) (i : Fin 8) (s : State) :
    (closing close f i s).slot i = closedSlot s (s.slot i) close f := setSlot_slot_self s i _

theorem closing_slot_ne (close : Sample) (f : Flags) {i j : Fin 8} (s : State) (h : j ≠ i) :
    (closing close f i s).slot j = s.slot j := setSlot_slot_ne s _ h

theorem closing_recent (close : Sample) (f : Flags) (i : Fin 8) (s : State) (w : Det) :
    (closing close f i s).table.recent.get w =
      (s.table.recent.get w).filter fun x => !([i].contains x.1) := clearRecent_get i _ w

/-- One slot closes (R19, R69, R71). -/
theorem closeSlot_closes (s : State) (i : Fin 8) (close : Sample) (f : Flags)
    (hq : s.unit = none → s.table.queue = []) :
    closes s (closeSlot close f i s) [i] (fun _ => close) (fun _ => f) := by
  rw [closeSlot_eq]
  cases hu : s.unit with
  | some u =>
    rw [takeNext_busy (s := closing close f i s) (u := u) hu]
    refine ⟨rfl, ?_, ?_, closing_recent close f i s, ?_⟩
    · intro j hj
      exact closing_slot_ne _ _ _ (by simpa using hj)
    · intro j hj
      obtain rfl : j = i := by simpa using hj
      rw [closing_slot_self]
      exact closedSlot_closedAs s _ close f .closed
    · rw [hu]
      refine ⟨hu, rfl, ?_⟩
      intro j hj
      obtain rfl : j = i := by simpa using hj
      rw [closing_slot_self]
      rfl
  | none =>
    have hq' : (closing close f i s).table.queue = i :: [] := by
      show s.table.queue ++ [i] = [i]
      rw [hq hu]; rfl
    rw [takeNext_idle (s := closing close f i s) (i := i) (rest := []) hu hq']
    refine ⟨rfl, ?_, ?_, closing_recent close f i s, ?_⟩
    · intro j hj
      have hj : j ≠ i := by simpa using hj
      exact (setSlot_slot_ne (closing close f i s) _ hj).trans (closing_slot_ne _ _ _ hj)
    · intro j hj
      obtain rfl : j = i := by simpa using hj
      have h := setSlot_slot_self (closing close f j s) j { (closing close f j s).slot j with st := .refining }
      rw [closing_slot_self] at h
      refine (congrArg (fun y => closedAs s (s.slot j) y close f) ?_).mpr
        (closedSlot_closedAs s (s.slot j) close f .refining)
      rw [← h, ← closing_slot_self close f j s]
      rfl
    · rw [hu]
      refine ⟨?_, rfl, ?_⟩
      · have h : forcedOnset ((closing close f i s).slot i) = forcedOnset (s.slot i) := by
          rw [closing_slot_self]; rfl
        simp only [h, List.head?_cons, Option.map_some]
        rfl
      · intro j hj
        obtain rfl : j = i := by simpa using hj
        refine Eq.trans ?_ (if_pos rfl).symm
        exact congrArg Slot.st (setSlot_slot_self (closing close f j s) j _)

/-- A closing keeps what the next one needs: an idle Unit leaves nothing waiting. -/
theorem closes_idle {s t : State} {order : List (Fin 8)} {close : Fin 8 → Sample} {f : Fin 8 → Flags}
    (h : closes s t order close f) :
    t.unit = none → t.table.queue = [] := by
  intro hu
  have h5 := h.2.2.2.2
  cases hs : s.unit with
  | some u => rw [hs] at h5; rw [h5.1] at hu; cases hu
  | none =>
    rw [hs] at h5
    cases order with
    | nil => rw [h5.2.1]; rfl
    | cons i rest => rw [h5.1] at hu; cases hu

/-- One closing after another is one closing, in the order of both. -/
theorem closes_append {s t u : State} {os ps : List (Fin 8)} {close : Fin 8 → Sample} {f : Fin 8 → Flags}
    (h : closes s t os close f) (h' : closes t u ps close f) (hd : ∀ i ∈ ps, i ∉ os) :
    closes s u (os ++ ps) close f := by
  obtain ⟨he, hk, hc, hr, hm⟩ := h
  obtain ⟨he', hk', hc', hr', hm'⟩ := h'
  have hring : t.ring = s.ring := by rw [he]
  have hact : t.active = s.active := by rw [he]; rfl
  refine ⟨by rw [he', he], ?_, ?_, ?_, ?_⟩
  · intro i hi
    rw [hk' i (fun h => hi (by simp [h])), hk i (fun h => hi (by simp [h]))]
  · intro i hi
    rcases List.mem_append.mp hi with hi | hi
    · rw [hk' i (fun h => hd i h hi)]
      exact hc i hi
    · have := hc' i hi
      rw [hk i (hd i hi)] at this
      simpa only [closedAs, hring] using this
  · intro w
    rw [hr' w, hr w, Option.filter_filter]
    congr 1
    funext x
    simp
  · have hforced : ∀ i ∈ ps, forcedOnset (t.slot i) = forcedOnset (s.slot i) := by
      intro i hi; rw [hk i (hd i hi)]
    cases hs : s.unit with
    | some v =>
      rw [hs] at hm
      rw [hm.1] at hm'
      refine ⟨hm'.1, ?_, ?_⟩
      · rw [hm'.2.1, hm.2.1, List.append_assoc]
      · intro i hi
        rcases List.mem_append.mp hi with hi | hi
        · rw [hk' i (fun h => hd i h hi)]; exact hm.2.2 i hi
        · exact hm'.2.2 i hi
    | none =>
      rw [hs] at hm
      cases os with
      | nil =>
        have hu : t.unit = none := hm.1
        rw [hu] at hm'
        refine ⟨?_, hm'.2.1, hm'.2.2⟩
        rw [hm'.1, hact]
        cases ps with
        | nil => rfl
        | cons p rest => simp only [List.head?_cons, Option.map_some, hforced p (by simp), List.nil_append]
      | cons o rest =>
        have hu : t.unit = some ⟨o, s.active.cf, forcedOnset (s.slot o), none, none⟩ := hm.1
        rw [hu] at hm'
        refine ⟨hm'.1, ?_, ?_⟩
        · rw [hm'.2.1, hm.2.1]; rfl
        · intro i hi
          rcases List.mem_append.mp hi with hi | hi
          · rw [hk' i (fun h => hd i h hi)]; exact hm.2.2 i hi
          · have hne : i ≠ o := fun e => hd i hi (by simp [e])
            rw [hm'.2.2 i hi, if_neg]
            simpa using fun e : o = i => hne e.symm

/-- No slot closes, nothing changes. -/
theorem closes_refl (s : State) (close : Fin 8 → Sample) (f : Fin 8 → Flags)
    (hq : s.unit = none → s.table.queue = []) : closes s s [] close f := by
  refine ⟨rfl, fun _ _ => rfl, by simp, ?_, ?_⟩
  · intro w; cases h : s.table.recent.get w <;> simp [Option.filter]
  · cases hu : s.unit with
    | some u => exact ⟨rfl, by simp, by simp⟩
    | none => exact ⟨rfl, hq hu, by simp⟩

/-- Slots close one after another, each with its own close sample and flags (R69). -/
theorem foldl_closes (order : List (Fin 8)) (close : Fin 8 → Sample) (f : Fin 8 → Flags)
    (g : State → Fin 8 → State) (s : State) (hn : order.Nodup) (hq : s.unit = none → s.table.queue = [])
    (hg : ∀ t : State, ∀ i ∈ order, (∃ os, closes s t os close f ∧ i ∉ os) → g t i = closeSlot (close i) (f i) i t) :
    closes s (order.foldl g s) order close f := by
  have key : ∀ (ps os : List (Fin 8)) (t : State), (os ++ ps).Nodup → closes s t os close f →
      (∀ i ∈ ps, i ∈ order) → closes s (ps.foldl g t) (os ++ ps) close f := by
    intro ps
    induction ps with
    | nil => intro os t _ h _; simpa using h
    | cons p rest ih =>
      intro os t hn h hm
      have hp : p ∉ os := fun hp => (List.nodup_append.mp hn).2.2 p hp p (by simp) rfl
      have hstep : g t p = closeSlot (close p) (f p) p t := hg t p (hm p (by simp)) ⟨os, h, hp⟩
      have hc := closeSlot_closes t p (close p) (f p) (closes_idle h)
      have hc' : closes t (g t p) [p] close f := by
        rw [hstep]
        obtain ⟨h1, h2, h3, h4, h5⟩ := hc
        refine ⟨h1, h2, ?_, h4, h5⟩
        intro i hi
        obtain rfl : i = p := by simpa using hi
        exact h3 i hi
      have := ih (os ++ [p]) (g t p) (by simpa using hn)
        (closes_append h hc' (by intro i hi; obtain rfl : i = p := by simpa using hi
                                 exact hp)) (fun i hi => hm i (by simp [hi]))
      simpa using this
  simpa using key order [] s (by simpa using hn) (closes_refl s close f hq) (fun i hi => hi)

/-- Every OPEN slot closes at the newest sample with the given flags (R66, R67, R68, R69). -/
theorem closeAll_closes (s : State) (f : Flags) (hq : s.unit = none → s.table.queue = []) :
    closes s (closeAll f s) (byTrigger s (s.slotsIn .opened)) (fun i => s.newest.getD (s.slot i).close)
      (fun _ => f) := by
  refine foldl_closes _ _ _ _ s ((byTrigger_perm s _).nodup_iff.mpr (slotsIn_nodup s _)) hq ?_
  rintro t i _ ⟨os, h, hi⟩
  have hn : t.newest = s.newest := by rw [h.1]
  simp only [hn, h.2.1 i hi]

end Sys2Proof.Machine
end

