-- ==== Sys2Proof/Tests/Slice0.lean ====
section
/-! SUPPORT. Tests of the ND-3P model: ill-formed commands refused by WellFormed, the guide's worked examples, and
for every statement of Certificates a concrete state and operands that meet its hypotheses. -/

namespace Sys2Proof.Tests

open Sys2Proof.Machine

/-! ## States to test on -/

/-- A request of a level, with PROTECT high. -/
def req (level : Byte) : Req := ⟨level, 0x5A, true⟩

/-- A request of a level, with PROTECT low. -/
def reqLow (level : Byte) : Req := ⟨level, 0x5A, false⟩

/-- The state that a command leaves. -/
def after (c : Instr) (s : State) : State :=
  match exec c s with
  | .next t => t
  | _ => s

/-- The status of the reply in progress. -/
def replyStatus (s : State) : Option Status := s.port.busy.map (·.status)

/-- A short ring of silent samples ending at n. -/
def silence (n : Sample) (count : Nat) : List RingEntry :=
  (List.range count).map fun j => ⟨n - BitVec.ofNat 32 (count - 1 - j), ⟨0, 0, 0⟩, ⟨false, false, false⟩, false⟩

/-- The chain RUN with the link UP at newest sample n, both detectors QUIET, the next frame due at tick 100,000. -/
def running (n : Sample) : State :=
  { State.reset with
    newest := some n
    ring := silence n 4
    dc := ⟨some 0, some 0, some 0⟩
    intake := { resetIntake with
      link := .up, expected := some (n + 1), lastRaw := some ⟨n, 0, 0, 0, 0⟩, silence := some 0 }
    time := { resetTime with lastFrame := some (n, 0) }
    det := ⟨{ resetDetector with st := .quiet, sta := 256000, lta := 256000 },
      { resetDetector with st := .quiet, sta := 256000, lta := 256000 }⟩
    chain := { resetChain with st := .run, armed := false } }

/-- An OPEN slot of class Z with trigger t and the factory parameters. -/
def openAt (t : Sample) : Slot := openSlot State.reset .z t 256000 94 0 false

/-- RUN at newest sample n with slot 4 OPEN at trigger t, the Z Detector's most recent opening. -/
def opened (n t : Sample) : State :=
  let s := (running n).setSlot 4 (openAt t)
  { s with table := { s.table with recent := ⟨some (4, t), none⟩ } }

/-- RUN with slot 4 in hand and slot 2 waiting behind it, the Unit's results as given. -/
def refining (o : Option OnsetResult) (p : Option PolResult) (k : Option PeakResult) : State :=
  let s := (running 1000).setSlot 4 { openAt 998 with st := .refining, close := 1000, pin := some 997 }
  let s := s.setSlot 2 { openAt 999 with st := .closed, close := 1000, pin := some 997 }
  { s with unit := some ⟨4, 4, o, p, k⟩, table := { s.table with queue := [2] } }

/-- Results of the three stages for a clean P. -/
def stages : OnsetResult × PolResult × PeakResult :=
  (⟨998, 0, false⟩, ⟨some ⟨9, 1, 1, 0, 0, 0⟩, some 209, false, false, false⟩, ⟨none, 0, 0⟩)

/-- A formed pick record: class Z, called P at onset 900. -/
def record (call : Phase) (cls : SlotClass) (onset : Sample) : PickRecord :=
  { formRecord State.reset (openAt onset) ⟨onset, 0, false⟩ ⟨none, none, false, false, false⟩ ⟨none, 0, 0⟩ with
    call := call, cls := cls }

/-- A DONE slot 1 that waits with a record, behind a queue of `fill` records. -/
def waiting (fill : Nat) (p : PickRecord) : State :=
  let s := (running 2000).setSlot 1 { openAt p.onset with st := .done, order := some 0, record := some p }
  { s with reports := { s.reports with
    waiting := 1, queue := List.replicate fill (.notice ⟨1, none, .linkDown 0⟩) } }

/-- An association entry of a P at onset n, created as the k-th. -/
def entryAt (n : Sample) (k : BitVec 32) : Entry := ⟨true, 7, 3, n, 50, 100, 20, 3000, k⟩

/-- The state with association entry i. -/
def withEntry (i : Fin 8) (e : Entry) (s : State) : State := s.setEntry i e

/-- A valid gate for the OFF threshold of the H Detector of entry 2 (10.7). -/
def gate9 : Gate := ⟨true, 2, 1, 2, 10, 16, 40, 1000⟩

/-- Entry 2 of 10.7: ON threshold of the H Detector 36, onset level 32. -/
def entry2 : Profile := (factoryProfile.put (.on .h) 36).put (.ons .h) 32

/-- The reset state with entry 2 and gate 9 of 10.7. -/
def gated : State :=
  let s := State.reset.setProfile 2 entry2
  { s with settings := { s.settings with gates := s.settings.gates.set 9 gate9 } }

/-- The state with one trial on entry 2's OFF threshold of the H Detector, 28 to 35, expiring at sample x. -/
def onTrial (x : Sample) (s : State) : State :=
  { storeValue 2 (.off .h) 35 s with revert := [⟨2, .off .h, 28, 35, 2, x⟩] }

/-- Ticks of the last edge 5,000,000 and a LOCKED Time Base with label 80,000 (7.3.1). -/
def locked : State :=
  { running 1000 with
    time := { resetTime with
      st := .locked, lastEdge := some 15000003, lastLabel := some 80000, timer := some 26000003
      capture := some ⟨1000, 37412, some 80000⟩, lastFrame := some (1000, 14900000) }
    intake := { (running 1000).intake with silence := some 14900000 }
    clock := 15000003 }

/-- The state with the tests of a frame still to be made, as the frame's own event has them. -/
def testing (s : State) : State := { s with due := ⟨true, true, true⟩ }

/-- WARMUP with the link UP at newest sample n, k blocks counted, both detectors WARMING. -/
def warming (n : Sample) (k : Nat) : State :=
  { running n with
    det := ⟨{ resetDetector with st := .warming, learn := 500 }, { resetDetector with st := .warming, learn := 500 }⟩
    chain := { resetChain with st := .warmup, k := k, armed := false } }

/-- HOLD with the link UP at newest sample n. -/
def holding (n : Sample) : State :=
  { running n with det := ⟨resetDetector, resetDetector⟩, chain := { resetChain with armed := false } }

/-! ## WellFormed refuses what is ill-formed -/

theorem test_wf_sample_without_bytes : (Instr.sampleFrame [] 0).wf = false := by decide
theorem test_wf_receiver_without_bytes : (Instr.controlFrameDiscard [] true).wf = false := by decide
theorem test_wf_body_too_long : (Instr.status (req 0) (List.replicate 241 0)).wf = false := by decide +kernel
theorem test_wf_learn_with_mode_restore : (Instr.chainRunLearn (req 0) [1]).wf = false := by decide
theorem test_wf_restore_with_mode_learn : (Instr.chainRunRestore (req 0) [0]).wf = false := by decide
theorem test_wf_immediate_with_mode_learn : (Instr.chainRunImmediate (req 0) [0]).wf = false := by decide
theorem test_wf_set_with_mode_try : (Instr.adjustSet (req 0) [0, 1, 0, 0, 0, 0, 0, 0, 0]).wf = false := by decide
theorem test_wf_try_with_mode_set : (Instr.adjustTry (req 0) [0, 0, 0, 0, 0, 0, 0, 0, 0]).wf = false := by decide
theorem test_wf_unknown_kind_in_catalogue : (Instr.unknownKind (req 0) 0x18 []).wf = false := by decide
theorem test_wf_unknown_kind_outside : (Instr.unknownKind (req 0) 0x19 []).wf = true := by decide

/-! ## Worked examples of the guide -/

/-- The check value of this CRC over the nine digits (general knowledge of the polynomial of R166). -/
theorem test_crc_check_value :
    crc16 [0x31, 0x32, 0x33, 0x34, 0x35, 0x36, 0x37, 0x38, 0x39] = 0x29B1 := by decide +kernel

/-- 1.2.1, its four cases. -/
theorem test_trim_cases :
    trimmed 33000 1000000 = 1007080 ∧ trimmed 33000 (-1000000) = -1007081 ∧ trimmed 49152 8000000 = 8388607 ∧
    trimmed 16384 (polarize true (-8388608)) = 4194303 ∧ clipMark 8000000 false 8000000 = true := by decide

/-- 1.2.2, frames 1, 2, 4 and the saturated step. -/
theorem test_dc_removal :
    removeDc 4 none 100 = (0, 100) ∧ removeDc 4 (some 100) 260 = (160, 110) ∧ removeDc 4 (some 119) 20 = (-99, 112) ∧
    removeDc 12 (some (-5000000)) 8000000 = (8388607, -4997953) := by decide

/-- 2.1.1. -/
theorem test_cf_case :
    cfValue .z 4 ⟨3200, -3201, 1615⟩ = 40000 ∧ cfValue .h 4 ⟨3200, -3201, 1615⟩ = 50401 := by decide

/-- 2.2.1 and 3.3.1: the STA rises and falls. -/
theorem test_sta_cases :
    approach 256000 (256 * 40000) 3 = 1504000 ∧ approach 1504000 0 3 = 1316000 ∧
    approach 300000 (256 * 50401) 4 = 1087666 ∧ approach 1151500 0 3 = 1007562 := by decide

/-- 2.2.1: the ratio, with the LTA and with the floor. -/
theorem test_ratio_cases :
    ratioOf factoryProfile.det.z { resetDetector with sta := 1504000, lta := 256000 } = 94 ∧
    ratioOf factoryProfile.det.z { resetDetector with sta := 20000, lta := 1200 } = 78 := by decide

/-- 2.3.1: a block settled in QUIET. -/
theorem test_block_case :
    ({ resetDetector with st := .quiet, lta := 256000, blkSum := 38400, blkCount := 32 } : Detector).applyBlock 6 =
      { resetDetector with st := .quiet, lta := 256800, blkSum := 38400, blkCount := 32 } := by decide

/-- 2.4.1: the ninth block of a long coda forces the baseline. -/
theorem test_ninth_block_forces :
    ({ resetDetector with st := .triggered, lta := 256000, blkSum := 160000, blkCount := 32, owed := 8 } :
      Detector).settleTriggered 6 =
      { resetDetector with st := .triggered, lta := 272000, owed := 8, forced := true } := by decide

/-- 3.3.1: the crossing at 1,200,000 and the OFF test at 1,200,010 and 1,200,011. -/
theorem test_on_and_off :
    onMet factoryProfile.det.z { resetDetector with sta := 1504000, lta := 256000 } = true ∧
    offMet factoryProfile.det.z { resetDetector with sta := 395663, lta := 256000 } = false ∧
    offMet factoryProfile.det.z { resetDetector with sta := 346205, lta := 256000 } = true := by decide

/-- 5.2.1: the walk back over the levels 9,000, 4,100, 2,300, 1,700. -/
theorem test_onset_walk :
    walkBack (fun k => decide (4096 * (if k = 1200000 then 9000 else if k = 1199999 then 4100
      else if k = 1199998 then 2300 else 1700) < 8192000)) 1200000 256 1200000 = (1199998, false) := by decide

/-- 5.3.1: the share. -/
theorem test_share : shareOf ⟨900000, 180000, 120000, -210000, 95000, 40000⟩ = some 192 := by decide

/-- 7.6.1: three conversions. -/
theorem test_conversions :
    let s := { State.reset with
      settings := { State.reset.settings with station := { factoryStation with gd := 2500 } }
      time := { resetTime with st := .locked, capture := some ⟨1000000, 37412, some 81200⟩ } }
    convertTime s 1000437 = (81204, 363759) ∧ convertTime s 999990 = (81199, 893759) ∧
    convertTime s 1004200 = (81241, 993759) := by decide

/-- 7.3.1: a given label locks, the next edge infers 80,001. -/
theorem test_inferred_label : (after (.pulseEdge 25000001) locked).time.lastLabel = some 80001 := by decide

/-- 7.3.1: a label that is not the last plus 1 marks TIME_STEP. -/
theorem test_time_step :
    (after (.pulseEdge 25000001) { locked with time := { locked.time with pendLabel := some 80007 } }).time.step =
      true := by decide

/-- 4.9: a SLOT CLOSE inside the minimum window moves the close sample. -/
theorem test_deferred_close :
    (after (.slotClose (req 1) [4]) (opened 2400050 2400000)).slot 4 =
      { openAt 2400000 with close := 2400127 } := by decide

/-- 4.9: past the minimum window it closes at the newest sample, TRUNCATED, and the idle Unit takes it. -/
theorem test_close_now :
    let x := (after (.slotClose (req 1) [4]) (opened 2400200 2400000)).slot 4
    x.st = .refining ∧ x.close = 2400200 ∧ x.flags.truncated = true := by decide

/-- 4.10: SLOT FORCE ahead of the newest sample, behind the bound, and inside it. -/
theorem test_force_checks :
    let s := running 7000000
    replyStatus (after (.slotForce (req 2) (be 4 7000010)) s) = some .range ∧
    replyStatus (after (.slotForce (req 2) (be 4 6980000)) s) = some .late ∧
    (after (.slotForce (req 2) (be 4 6999500)) s).slot 0 =
      { openSlot s .forced 6999500 256000 16 0 false with close := 7000523 } := by decide

/-- 3.5.1: a crossing 50 samples after its slot's trigger is a retrigger; one 300 samples after opens a slot. -/
theorem test_crossing_decision :
    ((crossing .z 3000150 1 94 (opened 3000150 3000100)).slot 4).retrig = 1 ∧
    (crossing .z 3000400 1 94 (opened 3000400 3000100)).table.recent.z = some (0, 3000400) := by decide

/-- 1.1.2: a jump of 1 fills frame 70,002. -/
theorem test_short_gap :
    ((after (.sampleFrame (sampleBytes ⟨70003, 0, 1, 2, 3⟩) 100000) (running 70001)).ring.drop 4).map
      (fun e => (e.n, e.filled)) = [(70002, true), (70003, false)] := by decide +kernel

/-- 1.1.2: a jump of 6 is a long gap: one frame in the ring, one notice, WARMUP. -/
theorem test_long_gap :
    let t := after (.sampleFrame (sampleBytes ⟨70010, 0, 1, 2, 3⟩) 100000) (running 70003)
    t.ring.map (·.n) = [70010] ∧ t.chain.st = .warmup ∧
    t.reports.queue = [.notice ⟨1, some 70003, .longGap 70004 70010⟩] := by decide +kernel

/-- 1.1.3: the silence timer takes the link down at 250 ms and the chain to RESYNC. -/
theorem test_link_loss :
    let t := after .linkLoss (running 3999999)
    t.intake.link = .down ∧ t.chain.st = .resync ∧ t.clock = 2500000 ∧
    t.reports.queue = [.notice ⟨1, some 3999999, .linkDown 3999999⟩] := by decide

/-- A missing-pulse timer due before the silence timer expires first at a link loss (log 5). -/
theorem test_link_loss_counts_the_earlier_pulse :
    let s := { running 1000 with time := { resetTime with lastEdge := some 0, timer := some 2000000 } }
    let t := after .linkLoss s
    t.time.missed = 1 ∧ t.time.timer = some 12000000 ∧ t.clock = 2500000 ∧ t.intake.link = .down := by decide

/-- 10.7: the TRY of 38 is clamped to 35 by the entry's ON threshold. -/
theorem test_worked_clamp :
    let t := after (.adjustTry (req 2) ([9, 1] ++ be 4 38 ++ be 3 500)) { gated with newest := some 4000 }
    (t.settings.profiles[2]).get (.off .h) = 35 ∧ t.revert.length = 1 ∧
    t.port.busy.map (·.clamped) = some true := by decide

/-- A LINE lock with PROTECT low is passed at level 0 only with STRICT clear (R143). -/
theorem test_line_lock :
    lockAllows (.base .line) 0 false true = false ∧ lockAllows (.base .line) 0 false false = true ∧
    lockAllows (.base .line) 1 false false = false ∧ lockAllows (.base .line) 3 true true = true := by decide

/-- R33: W lowered to the counted blocks after a block was counted completes nothing; the next block does. -/
theorem test_lowered_warmup :
    let s := (warming 31 20).setProfile 0 (factoryProfile.put .warm 20)
    (after .warmupCompletion s).chain.st = .warmup ∧
    (after (.sampleFrame (sampleBytes ⟨32, 0, 0, 0, 0⟩) 100000) s).chain.st = .warmup ∧
    (after (.sampleFrame (sampleBytes ⟨63, 0, 0, 0, 0⟩) 100000) { s with intake := { s.intake with
      expected := some 63 } }).chain.st = .run := by decide +kernel

/-- R39: record 1 that fails its check has discarded the earlier import. -/
theorem test_record_one_discards :
    let s := { holding 5 with chain := { (holding 5).chain with
      impSt := .valid, impBuf := { blankSnapshot with count := 7 } } }
    let t := after (.snapshotWrite (req 0) (1 :: be 16 0)) s
    t.chain.impSt = .invalid ∧ t.chain.impBuf = blankSnapshot ∧ replyStatus t = some .range := by decide

/-- R109: an entry whose holding slot has left is kept until the next frame, which frees it. -/
theorem test_entry_waits_for_a_frame :
    let s := withEntry 0 (entryAt 1000 0) (running 6049)
    (after .entryExpiry s).assoc.entries[0].opened = true ∧
    (after (.sampleFrame (sampleBytes ⟨6050, 0, 0, 0, 0⟩) 100000) s).assoc.entries[0].opened = false := by
  decide +kernel

/-- R128: a pick that is blocked is not tried again before COLLECT, whatever has become of its candidate. -/
theorem test_no_attempt_while_blocked :
    let s := waiting 31 (record .s .h 1500)
    let b := { s with reports := { s.reports with blocked := true } }
    (after .pickAdmission b).reports.queue.length = 31 ∧
    (after (.collect (req 1) [1]) b).reports.queue.length = 31 ∧
    ((after (.collect (req 1) [1]) b).slot 1).st = .free := by decide

/-- R157: the factory gate's parameter is θon Z, identifier 7 of 11.3. -/
theorem test_factory_gate : gateBytes 3 factoryGate = [3, 0, 0, 0, 8, 7] ++ be 11 0 ∧ factoryGate.item = .on .z := by
  decide

/-- 10.6: two trials that end at one frame find the queue full: one pending notice of count 2 with the data of the last.
With room each becomes a record (R131); with no frame's test due the row expires nothing. -/
theorem test_trials_fold :
    let s := onTrial 1000 { running 1000 with settings := gated.settings }
    let s := { storeValue 2 .lw 1000 s with revert := ⟨2, .lw, 1024, 1000, 2, 1000⟩ :: s.revert }
    let full := { s with reports := { s.reports with queue := List.replicate 32 (.notice ⟨1, none, .linkDown 0⟩) } }
    let t := after .trialExpiry (testing full)
    t.revert = [] ∧ t.settings.profiles = gated.settings.profiles ∧
    t.reports.notices[7] = some ⟨0, some 1000, 2, .trialExpired 2 (.off .h) 28⟩ ∧
    (after .trialExpiry (testing s)).reports.queue =
      [.notice ⟨1, some 1000, .trialExpired 2 .lw 1024⟩, .notice ⟨1, some 1000, .trialExpired 2 (.off .h) 28⟩] ∧
    (after .trialExpiry s).revert.length = 2 := by decide

/-- R167: a request's frame shows that a first sync byte held before it began no frame; 3C and F1 behind it begin none. -/
theorem test_held_sync_byte_is_skipped :
    let s := after (.status (req 3) []) (after (.controlFrameDiscard [0xC3] true) State.reset)
    let t := after (.controlFrameDiscard [0x3C, 0xF1] true) s
    replyStatus s = some .done ∧ s.port.rx = [] ∧ t.port.discarded = 0 ∧ t.port.rx = [] := by decide

/-- R167: a silence between the two sync bytes of a frame falls inside it: the frame is counted and not taken; in front of
another byte the sync byte counts nothing. -/
theorem test_silence_inside_the_sync :
    let s := after (.controlFrameAbandoned true) (after (.controlFrameDiscard [0xC3] true) State.reset)
    let f := requestBytes 0x01 (req 3) []
    let t := after (.controlFrameDiscard (f.drop 1) true) s
    t.port.busy = none ∧ t.port.discarded = 1 ∧
    replyStatus (after (.controlFrameDiscard f true) s) = some .done ∧
    (after (.controlFrameDiscard f true) s).port.discarded = 0 := by decide

/-- R167: a request's bytes inside a frame that is being received are that frame's. -/
theorem test_row_inside_a_frame :
    let s := after (.controlFrameDiscard [0xC3, 0x3C, 0x05] true) State.reset
    let t := after (.status (req 3) []) s
    t.port.busy = none ∧ t.port.rx = [0xC3, 0x3C, 0x05] ++ requestBytes 0x01 (req 3) [] ∧
    replyStatus (after (.controlFrameAbandoned true) t) = some .done ∧
    (after (.controlFrameAbandoned true) t).port.discarded = 1 := by decide

/-- The layouts' sizes (R173, R174): STATUS 150 bytes, PROFILE READ 136, STATION READ 66, GATE READ 19, PICK 34. -/
theorem test_layout_sizes :
    (statusBytes State.reset).length = 150 ∧ (profileBytes State.reset 0).length = 136 ∧
    (stationBytes State.reset).length = 66 ∧ (gateReadBytes State.reset 0).length = 19 ∧
    (record .p .z 900).bytes.length = 34 := by decide +kernel

/-- The sums' common shift is the least at which all six fit (R173). -/
theorem test_sums_shift :
    Sums.shift ⟨511, 0, 0, -512, 0, 0⟩ = 0 ∧ Sums.shift ⟨512, 0, 0, 0, 0, 0⟩ = 1 ∧
    Sums.shift ⟨0, 0, 0, -513, 0, 0⟩ = 1 := by decide

/-- A STATUS request frame arriving whole is answered DONE. -/
theorem test_status_frame :
    replyStatus (after (.controlFrameDiscard (requestBytes 0x01 (req 3) []) true) State.reset) = some .done := by
  decide

/-! ## Witnesses: every statement's hypotheses are met, clause by clause -/

/-- Nothing waits and the queue has a place: notices are admitted at once. -/
theorem witness_idle_queue :
    (running 1000).nothingWaits ∧ (running 1000).reports.queue.length < 32 ∧ (running 1000).queueAgrees := by decide

theorem witness_StepRunsTheFrontCommand :
    State.reset.pending = [] ∧ ({ State.reset with pending := [.linkLoss] } : State).pending = .linkLoss :: [] := by
  decide

theorem witness_ReadingRequestsReplyAndChangeNothing :
    State.reset.takes (req 3) 3 ∧ field [7] 0 1 = (7 : Fin 8).val ∧ 8 ≤ field [8] 0 1 ∧
    field [15] 0 1 = (15 : Fin 16).val ∧ 16 ≤ field [16] 0 1 := by decide

theorem witness_PortChecksComeFirst :
    requestOf (.status (req 4) []) = some (0x01, req 4, []) ∧ State.reset.power = true ∧
    State.reset.port.searching = true ∧ (after (.status (req 3) []) State.reset).port.searching = true ∧
    (after (.status (req 3) []) State.reset).port.busy.isSome ∧ State.reset.port.busy = none ∧
    3 < (req 4).level.toNat ∧ (req 3).level.toNat ≤ 3 ∧
    (0x00 : Byte).toNat = 0 ∧ 0x18 < (0x19 : Byte).toNat ∧
    requestOf (.stationWrite (req 0) [0]) = some (0x0D, req 0, [0]) ∧ [0].length ∉ allowedLengths 0x0D ∧
    ([(.collect (req 2) [1], 0x02), (.chainHold (req 2) [], 0x03), (.chainRunLearn (req 2) [0], 0x04),
      (.profileSelect (req 2) [1], 0x0A), (.slotClose (req 2) [1], 0x06), (.snapshotTake (req 2) [], 0x14),
      (.snapshotRead (req 2) [1], 0x15), (.storeSave (req 2) [], 0x17)] : List (Instr × Byte)).all (fun x =>
      (requestOf x.1).any fun q => q.1 == x.2 && (allowedLengths q.1.toNat).contains q.2.2.length &&
        (requiredLevel q.1.toNat).any fun n => decide (n < max q.2.1.level.toNat State.reset.floor)) = true ∧
    requiredLevel 0x05 = some 2 ∧ requiredLevel 0x07 = some 2 ∧ 2 < max (req 3).level.toNat State.reset.floor := by decide

theorem witness_RevertTakesBackTheTopTrial :
    State.reset.portFree ∧ (req 3).level.toNat ≤ 3 ∧ State.reset.revert = [] ∧
    (onTrial 5 gated).portFree ∧ (onTrial 5 gated).revert = ⟨2, .off .h, 28, 35, 2, 5⟩ :: [] ∧
    2 < max (req 3).level.toNat (onTrial 5 gated).floor ∧ max (req 2).level.toNat (onTrial 5 gated).floor ≤ 2 := by
  decide

theorem witness_FloorRisesAndShutsLevelZero :
    let s := { State.reset with floor := 1 }
    s.portFree ∧ (req 0).level.toNat ≤ 3 ∧ 3 < field [4] 0 1 ∧ field [0] 0 1 < s.floor ∧ s.floor ≤ field [1] 0 1 ∧
    field [3] 0 1 ≤ 3 ∧ 1 ≤ s.floor ∧ (be 5 0).length = 5 ∧ (be 64 0).length = 64 ∧ (be 17 0).length = 17 ∧
    (be 2 0).length = 2 ∧ (be 6 0).length = 6 := by decide

theorem witness_TimeLabelBecomesPending :
    State.reset.takes (req 0) 0 ∧ (be 6 (2 ^ 40)).length = 6 ∧ 2 ^ 40 ≤ field (be 6 (2 ^ 40)) 0 6 ∧
    field (be 6 (2 ^ 40 - 1)) 0 6 < 2 ^ 40 := by decide

theorem witness_CollectRemovesTheOldestRecords :
    let s := { State.reset with reports := { resetReports with queue := [.notice ⟨1, none, .linkDown 0⟩] } }
    State.reset.takes (req 1) 1 ∧ State.reset.reports.queue = [] ∧ s.takes (req 1) 1 ∧ s.reports.queue ≠ [] ∧
    s.nothingWaits ∧ field [0] 0 1 = 0 ∧ 4 < field [5] 0 1 ∧ field [1] 0 1 = 1 ∧ field [4] 0 1 = 4 := by decide

theorem witness_ProfileSelectMovesThePointer :
    let s := State.reset.setProfile 1 (factoryProfile.put .cf 5)
    let r := { running 1000 with settings := s.settings }
    s.takes (req 1) 1 ∧ 8 ≤ field [8] 0 1 ∧ field [1] 0 1 = (1 : Fin 8).val ∧ field [7] 0 1 = (7 : Fin 8).val ∧
    structuralDiffer s.active s.settings.profiles[1] = true ∧ s.chain.st = .hold ∧ r.takes (req 1) 1 ∧
    r.chain.st ≠ .hold ∧ structuralDiffer r.active r.settings.profiles[1] = true ∧
    structuralDiffer s.active s.settings.profiles[7] = false := by decide

theorem witness_SnapshotIsTakenAtABlockEndAndRead :
    let s := { running 31 with chain := { (running 31).chain with expSt := .pending } }
    let b := { s with chain := { s.chain with blankEnd := some 31 } }
    let r := { State.reset with chain := { resetChain with expSt := .ready } }
    State.reset.takes (req 1) 1 ∧ s.chain.st = .run ∧ s.chain.blankEnd ≠ some 31 ∧ b.chain.st = .run ∧
    b.chain.blankEnd = some 31 ∧ (31 : Sample).toNat % 2 ^ s.active.blk = 2 ^ s.active.blk - 1 ∧
    s.chain.expSt = .pending ∧ State.reset.chain.st = .hold ∧ (warming 31 2).chain.st = .warmup ∧
    State.reset.chain.expSt ≠ .ready ∧ r.takes (req 1) 1 ∧ r.chain.expSt = .ready ∧
    field [0] 0 1 = 0 ∧ 7 < field [8] 0 1 ∧ field [1] 0 1 = 1 ∧ field [7] 0 1 = 7 := by decide

/-- Record 1 of the present settings passes, each other record at a bound of its check, and each fails just past it. -/
theorem witness_SnapshotWriteTakesRecordsInOrder :
    let s := { State.reset with chain := { resetChain with impSt := .importing 6 } }
    let one := 1 :: ({ blankSnapshot with header := currentHeader s } : Snapshot).bytes 1
    let code := field (one.drop 1) 2 1
    let avg (x : Nat) : List Byte := 5 :: (be 8 x ++ be 8 0)
    ((running 1000).takes (req 0) 0 ∧ (running 1000).chain.st ≠ .hold ∧ s.takes (req 0) 0 ∧ s.chain.st = .hold ∧
      field (be 17 0) 0 1 = 0 ∧ 7 < field (8 :: be 16 0) 0 1 ∧ s.chain.impSt.next = 7 ∧
      field (2 :: be 16 0) 0 1 ≠ s.chain.impSt.next) ∧
    (one.length = 17 ∧ field one 0 1 = 1 ∧ field (one.drop 1) 0 2 = 100 ∧ code % 4 = 0 ∧ code / 4 % 4 = 1 ∧
      code / 16 = 2 ∧ field (one.drop 1) 3 1 = 12 ∧ field (one.drop 1) 4 1 = 4 ∧ field (one.drop 1) 5 1 = 5 ∧
      field (one.drop 1) 6 1 = 3 ∧ field (one.drop 1) 7 1 = 4 ∧ field (one.drop 1) 8 1 = 6 ∧
      field (one.drop 1) 9 1 = 6) ∧
    (fieldInt ((2 :: (beInt 4 (-8388608) ++ be 12 0)).drop 1) 0 4 = -8388608 ∧
      fieldInt ((2 :: (beInt 4 8388608 ++ be 12 0)).drop 1) 0 4 = 8388608) ∧
    (field ((avg (2 ^ 46)).drop 1) 0 8 = 2 ^ (54 - 2 * 4) ∧ field ((avg (2 ^ 46 + 1)).drop 1) 0 8 = 2 ^ 46 + 1) ∧
    field ((7 :: 7 :: be 15 0).drop 1) 0 1 = 7 ∧ field ((7 :: be 16 0).drop 1) 0 1 ≠ 7 := by decide

theorem witness_ChainHoldStopsTheChain :
    State.reset.takes (req 1) 1 ∧ State.reset.chain.st = .hold ∧ (opened 2000 1990).takes (req 1) 1 ∧
    (opened 2000 1990).chain.st ≠ .hold ∧ (opened 2000 1990).queueAgrees := by decide

theorem witness_ChainRunStartsTheChain :
    let s := State.reset
    let v := { s with chain := { resetChain with impSt := .valid } }
    let m := { s with chain := { resetChain with
      impSt := .valid, impBuf := { blankSnapshot with header := currentHeader s } } }
    s.takes (req 1) 1 ∧ field [3] 0 1 = 3 ∧ field [2] 0 1 = 2 ∧ field [1] 0 1 = 1 ∧ field [0] 0 1 = 0 ∧
    s.chain.st = .hold ∧ (running 5).takes (req 1) 1 ∧ (running 5).chain.st ≠ .hold ∧ s.active.legal ∧
    s.chain.impSt ≠ .valid ∧ v.takes (req 1) 1 ∧ v.chain.impBuf.header ≠ currentHeader v ∧ m.takes (req 1) 1 ∧
    m.chain.impBuf.header = currentHeader m := by decide

theorem witness_BlankStartsOrExtendsBlanking :
    let b := { opened 2000 1990 with chain := { (running 2000).chain with blankEnd := some 2004 } }
    State.reset.takes (req 2) 2 ∧ State.reset.newest = none ∧ (opened 2000 1990).takes (req 2) 2 ∧
    (opened 2000 1990).chain.st = .run ∧ (opened 2000 1990).newest = some 2000 ∧ field (be 2 0) 0 2 = 0 ∧
    1 ≤ field (be 2 1) 0 2 ∧ field (be 2 65535) 0 2 = 65535 ∧ (opened 2000 1990).chain.blankEnd = none ∧
    (opened 2000 1990).queueAgrees ∧ b.takes (req 2) 2 ∧ b.chain.blankEnd = some 2004 := by decide

theorem witness_SlotCloseClosesOrDefers :
    let s := opened 2127 2000
    s.takes (req 1) 1 ∧ 8 ≤ field [8] 0 1 ∧ field [7] 0 1 = (7 : Fin 8).val ∧ (s.slot 7).st ≠ .opened ∧
    field [4] 0 1 = (4 : Fin 8).val ∧ (s.slot 4).st = .opened ∧ s.newest = some 2127 ∧
    (s.slot 4).params.lmin ≤ distance (s.slot 4).trigger 2127 + 1 ∧ s.queueAgrees ∧
    distance ((opened 2126 2000).slot 4).trigger 2126 + 1 < ((opened 2126 2000).slot 4).params.lmin := by decide

theorem witness_SlotForceOpensAForcedSlot :
    let s := running 20000
    let full := s.mapSlots fun _ _ => { openAt 19990 with st := .done }
    let late : Sample := 20000 - BitVec.ofNat 32 (16384 - s.active.lw - s.active.lb)
    State.reset.takes (req 2) 2 ∧ State.reset.chain.st ≠ .run ∧ s.takes (req 2) 2 ∧ s.chain.st = .run ∧
    s.newest = some 20000 ∧ 0 < distance 20000 (20001 : Sample) ∧ late = 4896 ∧
    distance 20000 (4895 : Sample) ≤ 0 ∧ 0 < distance (4895 : Sample) late ∧ distance (4896 : Sample) late ≤ 0 ∧
    (∀ i : Fin 8, (full.slot i).st ≠ .free) ∧ (s.slot 0).st = .free ∧ (∀ j : Fin 8, j < 0 → (s.slot j).st ≠ .free) ∧
    0 < distance (20000 : Sample) (18978 + BitVec.ofNat 32 (s.active.lw - 1)) ∧
    distance (20000 : Sample) (18977 + BitVec.ofNat 32 (s.active.lw - 1)) ≤ 0 ∧ s.queueAgrees ∧
    field (be 4 18977) 0 4 = 18977 := by decide

/-- One item, then a whole entry; each refusal of PROFILE WRITE in turn. -/
theorem witness_ProfileWriteChecksThenStores :
    let s := State.reset
    let one (i : Byte) (v : Nat) : List Byte := 0 :: i :: be 4 v
    let whole : List Byte := 0 :: factoryProfile.values.flatMap (be 4)
    s.portFree ∧ (req 0).level.toNat ≤ 3 ∧ 8 ≤ field [8] 0 1 ∧ (one 33 0).length = 6 ∧ 33 ≤ field (one 33 0) 1 1 ∧
    field (one 15 0) 0 1 = (0 : Fin 8).val ∧ itemOf (field (one 15 2000) 1 1) = some .lw ∧
    whole.length = 133 ∧ factoryProfile.ofValues (fields4 whole 1 33) = factoryProfile ∧
    min factoryProfile.level (Item.cls .lw) < max (req 2).level.toNat s.floor ∧
    max (req 1).level.toNat s.floor ≤ min factoryProfile.level (Item.cls .lw) ∧
    lockAllows (.base .fixed) 0 true true = false ∧ lockAllows s.settings.profileLock[0] 0 true true = true ∧
    structuralDiffer factoryProfile (factoryProfile.put .cf 5) = true ∧ (running 5).chain.st ≠ .hold ∧
    s.settings.active = 0 ∧ s.chain.st = .hold ∧ (factoryProfile.put .cf 5).consistent = true ∧
    Item.inRange .lw 63 = false ∧ Item.inRange .lw 64 = true ∧ (factoryProfile.put .lw 64).consistent = false ∧
    Item.inRange .lw 2000 = true ∧ (factoryProfile.put .lw 2000).consistent = true := by decide +kernel

theorem witness_ProfileLockFollowsTheTransitionTable :
    let s := State.reset
    let set (l : Lock) : State := { s with settings := { s.settings with stationLock := l } }
    s.takes (req 0) 0 ∧ 9 < field [10, 0] 0 1 ∧ 3 < field [0, 4] 1 1 ∧ field [7, 3] 0 1 = 7 ∧ field [8, 2] 0 1 = 8 ∧
    field [9, 2] 0 1 = 9 ∧ field [7, 3] 1 1 = 3 ∧ s.settings.profileLock[7] = .base .opened ∧
    (set (.base .line)).takes (reqLow 0) 0 ∧ (set (.base .line)).settings.stationLock = .base .line ∧
    (reqLow 0).protect = false ∧ s.settings.station.strict = true ∧ (req 0).protect = true ∧
    (set (.power .line)).settings.stationLock = .power .line ∧
    (set (.base .fixed)).settings.stationLock = .base .fixed := by decide

theorem witness_StationWriteChecksThenStores :
    let s := State.reset
    s.takes (req 0) 0 ∧ ([12, 0, 0, 0, 17] : List Byte).length = 5 ∧ (be 64 0).length = 64 ∧
    lockAllows (.base .line) 0 (reqLow 0).protect true = false ∧
    lockAllows s.settings.stationLock 0 (req 0).protect true = true ∧ (running 5).chain.st ≠ .hold ∧
    s.chain.st = .hold ∧ stationInRange 12 17 = false ∧ stationInRange 16 0 = false ∧ stationInRange 12 16 = true ∧
    mapOneToOne (factoryStation.putAll [(1, 0)]).map = false ∧ stationInRange 1 0 = true ∧
    mapOneToOne (factoryStation.putAll [(1, 6)]).map = true ∧ stationInRange 1 6 = true := by decide

theorem witness_GateWriteChecksThenStores :
    let s := State.reset
    let bad := gateBytes 15 { gate9 with high := 1023 }
    s.takes (req 0) 0 ∧ 16 ≤ field (16 :: be 16 0) 0 1 ∧ 2 ≤ field (0 :: 2 :: be 15 0) 1 1 ∧
    (gateBytes 15 gate9).length = 17 ∧ field (gateBytes 15 gate9) 0 1 = (15 : Fin 16).val ∧
    gateOf (gateBytes 15 gate9) = gate9 ∧ lockAllows (.base .fixed) 0 true true = false ∧
    lockAllows s.settings.gateLock 0 true true = true ∧ (gateOf bad).valid = true ∧ (gateOf bad).inRange = false ∧
    gate9.inRange = true ∧ gate9.consistent = true ∧
    ({ gate9 with low := 40, high := 16 } : Gate).inRange = true ∧
    ({ gate9 with low := 40, high := 16 } : Gate).consistent = false ∧ (gateOf (be 17 0)).valid = false := by decide

/-- 10.4's checks in turn, on gate 9 of 10.7. -/
theorem witness_AdjustChecksInOrder :
    let body (gate mode : Byte) : List Byte := gate :: mode :: be 7 0
    let locked := { gated with settings := { gated.settings with profileLock := gated.settings.profileLock.set 2 (.base .fixed) } }
    let full := { gated with revert := List.replicate 8 ⟨0, .lw, 64, 64, 0, 0⟩ }
    gated.portFree ∧ (req 0).level.toNat ≤ 3 ∧ (body 9 0).length = 9 ∧ 16 ≤ field (body 16 0) 0 1 ∧
    2 ≤ field (body 9 2) 1 1 ∧ field (body 15 0) 0 1 = (15 : Fin 16).val ∧ gated.settings.gates[15].valid = false ∧
    field (body 9 1) 0 1 = (9 : Fin 16).val ∧ gated.settings.gates[9].valid = true ∧
    gate9.level < max (req 3).level.toNat gated.floor ∧ gate9.setLevel < max (req 2).level.toNat gated.floor ∧
    max (req 1).level.toNat gated.floor ≤ gate9.setLevel ∧ gate9.resolve gated.settings.active = 2 ∧
    lockAllows locked.settings.profileLock[2] 0 true true = false ∧
    lockAllows gated.settings.profileLock[2] 0 true true = true ∧ 8 ≤ full.revert.length ∧
    gated.revert.length < 8 ∧ gated.newest = none := by decide

theorem witness_AdjustSetStoresAndDiscards :
    let body : List Byte := [9, 0] ++ be 4 40 ++ be 3 0
    gated.portFree ∧ (req 1).level.toNat ≤ 3 ∧ body.length = 9 ∧ field body 0 1 = (9 : Fin 16).val ∧
    field body 1 1 = 0 ∧ gated.settings.gates[9].valid = true ∧ max (req 1).level.toNat gated.floor ≤ gate9.level ∧
    max (req 1).level.toNat gated.floor ≤ gate9.setLevel ∧
    lockAllows gated.settings.profileLock[2] 1 true true = true := by decide

theorem witness_AdjustTryPushesATrial :
    let s := { gated with newest := some 4000 }
    let body : List Byte := [9, 1] ++ be 4 38 ++ be 3 500
    s.portFree ∧ (req 2).level.toNat ≤ 3 ∧ body.length = 9 ∧ field body 0 1 = (9 : Fin 16).val ∧ field body 1 1 = 1 ∧
    s.settings.gates[9].valid = true ∧ max (req 2).level.toNat s.floor ≤ gate9.level ∧
    lockAllows s.settings.profileLock[2] 2 true true = true ∧ s.revert.length < 8 ∧ s.newest = some 4000 ∧
    1 ≤ gate9.dur := by decide

theorem witness_ClampedValuesKeepTheEntryLegal :
    gate9.valid = true ∧ gate9.legal ∧ entry2.legal ∧ gate9.low ≤ 35 ∧ 35 ≤ gate9.high ∧
    (entry2.put gate9.item 35).legal ∧ ¬ (entry2.put gate9.item 36).legal ∧
    clampValue gate9 entry2 gate9.item 38 = 35 ∧ (entry2.put gate9.item 34).legal ∧
    clampValue gate9 entry2 gate9.item (-5) = 16 := by decide

theorem witness_StoreSaveTakesTheImage :
    let busy := { State.reset with store := ⟨factoryImage, false, some factoryImage, false⟩ }
    (onTrial 5 gated).takes (req 0) 0 ∧ (onTrial 5 gated).store.writing = none ∧ busy.takes (req 0) 0 ∧
    busy.store.writing.isSome := by decide

theorem witness_ResetRequestActsAfterItsReply :
    let s := State.reset
    let t := after (.reset (req 0) []) s
    let rep : Reply := ⟨0, 0x98, 0x5A, .done, false, []⟩
    s.takes (req 0) 0 ∧ s.resetPending = none ∧ { t with port := resetPort }.takes (req 0) 0 ∧
    t.resetPending = some ⟨.request, false⟩ ∧ t.port.busy = some rep ∧ rep.kind = 0x98 ∧ rep.status = .done ∧
    t.store.writing = none ∧ s.port.busy = none ∧ (after (.status (req 0) []) s).power = true ∧
    (after (.status (req 0) []) s).port.busy.isSome ∧
    ({ t with store := ⟨factoryImage, false, some factoryImage, false⟩ } : State).store.writing.isSome ∧
    (after (.reset (req 0) []) (after (.resetLine true .b115200) s)).resetPending = some ⟨.line, false⟩ ∧
    (after (.resetLine true .b115200) t).resetPending = some ⟨.line, false⟩ ∧
    (after (.resetLine true .b115200) t).port.busy = some rep := by decide

/-- A frame in RUN, at a blanking's end, in WARMUP, in a pause that goes on or ends, at a counted block's end, in HOLD and
at a full ring; then each order of the two timers. -/
theorem witness_InOrderFrameIsConditioned :
    let f : RawFrame := ⟨2015, 0, -8388608, 8388607, 0⟩
    let fits (s : State) : Bool := s.power && s.intake.rx.isEmpty && decide (s.quietUntil 2500000) &&
      decide (s.intake.link = .up) && decide (s.intake.expected = some f.seq)
    let blanked := { running 2014 with
      det := ⟨{ (running 2014).det.z with st := .blanked }, { (running 2014).det.h with st := .blanked }⟩
      chain := { (running 2014).chain with blankEnd := some 2015 } }
    let paused (x : Sample) : State := { warming 2014 3 with chain := { (warming 2014 3).chain with pauseEnd := some x } }
    (f.in24 ∧ f.status.getLsbD 0 = false ∧ (2015 : Sample).toNat % 2 ^ factoryProfile.blk = 2 ^ factoryProfile.blk - 1) ∧
    [running 2014, blanked, warming 2014 255, warming 2014 3, paused 2015, paused 2016, holding 2014].all fits = true ∧
    (running 2014).chain.st = .run ∧ (warming 2014 3).chain.st = .warmup ∧ (holding 2014).chain.st = .hold := by
  and_intros <;> decide

/-- The timers before a frame or an edge: the pulse's first, the silence timer's first, both at one tick. -/
theorem witness_TimersFirst :
    let timed (x : Nat) : State := { running 1000 with time := { resetTime with lastEdge := some 0, timer := some x } }
    (timed 2499999).power = true ∧ (timed 2499999).silenceDue = some 2500000 ∧ 2499999 < 2500000 ∧
    (timed 2499999).time.timer = some 2499999 ∧ (timed 2500001).time.timer = some 2500001 ∧ 2500000 < 2500001 ∧
    (timed 2500000).time.timer = some 2500000 ∧ State.reset.silenceDue = none ∧ (running 1000).time.timer = none := by
  decide

/-- A frame later than the silence timer's due tick is what it is after LINK_LOSS: a resumption. -/
theorem test_late_frame_finds_the_link_down :
    let f := Instr.sampleFrame (sampleBytes ⟨1001, 0, 1, 2, 3⟩) 2500001
    after f (running 1000) = after f (after .linkLoss (running 1000)) ∧
    (after f (running 1000)).chain.st = .warmup := by decide +kernel

theorem witness_DamagedAndStaleFramesAreOnlyCounted :
    let s := running 1000
    let part := { s with port := { resetPort with rx := [0xC3, 0x3C] } }
    s.power = true ∧ s.intake.rx = [] ∧ s.port.rx = [] ∧ s.quietUntil 100000 ∧
    (⟨1000, 0, 1, 2, 3⟩ : RawFrame).in24 ∧ s.intake.link = .up ∧ s.intake.expected = some 1001 ∧
    distance (1001 : Sample) 1000 < 0 ∧ (∀ b ∈ ([0x18] : List Byte), b ≠ 0xE7) ∧
    ¬ [0xE7, 0x18] <:+: ([5, 0xE7] : List Byte) ++ [0xE7] ∧ (be 15 0).length < 16 ∧ 16 ≤ (be 16 1).length ∧
    crc16 ((be 16 1).take 14) ≠ unbe (((be 16 1).drop 14).take 2) ∧ (∀ b ∈ ([0x3C] : List Byte), b ≠ 0xC3) ∧
    ¬ [0xC3, 0x3C] <:+: ([5, 0xC3] : List Byte) ++ [0xC3] ∧ 240 < (241 : Byte).toNat ∧ (240 : Byte).toNat ≤ 240 ∧
    (be 4 0).length < 5 + (0 : Byte).toNat ∧ 5 + (0 : Byte).toNat ≤ (be 5 0).length ∧
    crc16 ((0 :: be 5 0).take 4) ≠ unbe (((0 :: be 5 0).drop 4).take 2) ∧
    s.port.cut = false ∧ 2 ≤ part.port.rx.length ∧
    ¬ [0xE7, 0x18] <:+: ([5, 0xE7] : List Byte) ∧ ¬ [0xC3, 0x3C] <:+: ([5, 0xC3] : List Byte) ∧
    ({ s with port := { resetPort with rx := [0xC3] } } : State).port.rx = [0xC3] ∧
    ({ s with port := { resetPort with cut := true } } : State).port.cut = true := by decide +kernel

theorem witness_ShortGapIsFilled :
    let s := onTrial 5 (running 1000)
    s.power = true ∧ s.intake.rx = [] ∧ s.quietUntil 100000 ∧ (⟨1005, 0, 1, 2, 3⟩ : RawFrame).in24 ∧
    s.intake.link = .up ∧ s.intake.expected = some 1001 ∧ s.intake.lastRaw = some ⟨1000, 0, 0, 0, 0⟩ ∧
    distance (1001 : Sample) 1005 = (4 : Nat) ∧ 4 ≤ s.settings.station.gap ∧ s.trialsLive ∧ s.revert ≠ [] := by decide

/-- A flagged frame in RUN with a slot OPEN, with blanking in force, in WARMUP and in HOLD. -/
theorem witness_RecentreFlagBlanksOrPauses :
    let f : RawFrame := ⟨2001, 1, 1, 2, 3⟩
    let fits (s : State) : Bool := s.power && s.intake.rx.isEmpty && decide (s.quietUntil 100000) &&
      decide (s.intake.link = .up) && decide (s.intake.expected = some f.seq) && decide s.chainAgrees &&
      decide s.queueAgrees && decide s.trialsLive
    let blanked := { running 2000 with
      det := ⟨{ (running 2000).det.z with st := .blanked }, { (running 2000).det.h with st := .blanked }⟩
      chain := { (running 2000).chain with blankEnd := some 2001 } }
    f.in24 ∧ f.status.getLsbD 0 = true ∧
    [opened 2000 1990, blanked, warming 2000 3, holding 2000].all fits = true ∧ (opened 2000 1990).chain.st = .run ∧
    ((opened 2000 1990).slot 4).st = .opened ∧ (opened 2000 1990).chain.blankEnd = none ∧
    blanked.chain.blankEnd = some 2001 ∧ (warming 2000 3).chain.st = .warmup ∧ (holding 2000).chain.st = .hold := by
  decide

theorem witness_ResynchronisingFrameStartsANewRecord :
    let s := opened 2000 1990
    let r := { State.reset with chain := { resetChain with impSt := .importing 2 } }
    (s.power = true ∧ s.intake.rx = [] ∧ s.quietUntil 100000 ∧ (⟨2006, 0, 1, 2, 3⟩ : RawFrame).in24 ∧
      s.intake.link = .up ∧ s.intake.expected = some 2001 ∧
      (s.settings.station.gap : Int) < distance (2001 : Sample) 2006 ∧ (s.slot 4).st = .opened ∧
      s.reports.notices[1] = none) ∧
    (r.chain.st = .hold ∧ r.intake.link = .down ∧ r.chain.armed = true ∧ r.settings.station.autostart = true ∧
      (holding 5).chain.st = .hold ∧ (holding 5).chain.armed = false) ∧
    byTrigger s (s.slotsIn .opened) = [4] ∧ s.waitsOnlyWhenFull ∧ State.reset.waitsOnlyWhenFull ∧
    (s.queueAgrees ∧ State.reset.queueAgrees) ∧ s.slotsAgree ∧ State.reset.slotsAgree ∧
    State.reset.intake.link = .down ∧ State.reset.quietUntil 0 ∧ State.reset.chain.armed = true := by
  and_intros <;> decide

/-- The settings that a resynchronising frame finds legal, one trial in force. -/
theorem witness_ResynchronisingFrameWithATrial :
    (onTrial 5 { opened 2000 1990 with settings := gated.settings }).settingsLegal := by
  refine ⟨?_, ?_, ?_, ?_, ?_, ?_, ?_⟩
  case refine_5 => exact ⟨by decide, by decide, trivial⟩
  all_goals decide

theorem witness_LinkLossResynchronises :
    let s := opened 2000 1990
    let timed (x : Nat) : State := { s with time := { s.time with timer := some x } }
    State.reset.power = true ∧ State.reset.intake.link = .down ∧ s.power = true ∧ s.intake.link = .up ∧
    s.intake.silence = some 0 ∧ s.chain.st = .run ∧ s.queueAgrees ∧
    s.time.timer = none ∧ (timed 2499999).time.timer = some 2499999 ∧ (timed 2500000).time.timer = some 2500000 ∧
    (holding 2000).chain.st = .hold ∧ (holding 2000).intake.silence = some 0 := by decide

theorem witness_ChainEventsActAtTheirSample :
    let w := testing (warming 31 256)
    let b := { running 31 with chain := { (running 31).chain with blankEnd := some 31 } }
    let p := { warming 31 4 with chain := { (warming 31 4).chain with pauseEnd := some 31 } }
    w.power = true ∧ w.newest = some 31 ∧ w.chain.st = .warmup ∧ w.due.completion = true ∧
    w.active.warm ≤ w.chain.k ∧ (warming 31 255).chain.k < w.active.warm ∧ (warming 31 255).due.completion = false ∧ (warming 31 255).chain.pauseEnd = none ∧
    (31 : Sample).toNat % 2 ^ w.active.blk = 2 ^ w.active.blk - 1 ∧ b.chain.st = .run ∧ b.newest = some 31 ∧
    b.chain.blankEnd = some 31 ∧ p.newest = some 31 ∧ p.chain.st = .warmup ∧ p.chain.pauseEnd = some 31 ∧
    (running 31).chain.blankEnd ≠ some 31 ∧ p.chain.pauseEnd.isSome ∧ (running 31).chain.expSt ≠ .pending ∧
    ({ b with chain := { b.chain with expSt := .pending } } : State).chain.expSt = .pending ∧
    (holding 31).newest = some 31 ∧ (holding 31).chain.st = .hold := by decide

theorem witness_ReportsRaisePeaksAndAutoClose :
    let s := opened 2023 1000
    s.power = true ∧ s.newest = some 2023 ∧ s.chain.st = .run ∧ s.queueAgrees ∧ State.reset.chain.st ≠ .run ∧
    (s.slot 4).st = .opened ∧ (s.slot 4).cls.owner = .z ∧ (s.slot 4).cls.owner ≠ .h ∧
    (eight.filter fun i => (s.slot i).st == .opened && (s.slot i).cls.owner == .z && (s.slot i).close == 2023) = [4] ∧
    0 ≤ distance (s.slot 4).trigger 2023 ∧ distance (s.slot 4).trigger 2023 < 2 ^ 30 := by decide

/-- A frame of a report: no crossing, a crossing whose detector has no recent opening, and one that meets its detector's
own slot at the close sample. -/
theorem witness_ReportsDecideCrossings :
    let f : Conditioned := ⟨2023, ⟨30000, 0, 0⟩, ⟨false, false, false⟩, false, false⟩
    let s := running 2023
    let o := (opened 2023 2000).setSlot 4 { openAt 2000 with close := 2023 }
    s.power = true ∧ s.newest = some f.n ∧ s.chain.st = .run ∧
    (detStep .z s.active s.chain.pauseEnd.isSome f (s.det.get .z)).crossed = true ∧
    (detStep .h s.active s.chain.pauseEnd.isSome f (s.det.get .h)).crossed = false ∧ s.table.recent.get .z = none ∧
    o.newest = some f.n ∧ (detStep .z o.active o.chain.pauseEnd.isSome f (o.det.get .z)).crossed = true ∧
    o.table.recent.get .z = some (4, 2000) ∧ (o.slot 4).st = .opened ∧
    distance (2000 : Sample) f.n < (o.slot 4).params.dsep ∧ (o.slot 4).close = f.n := by decide

theorem witness_EntryExpiryFreesPassedEntries :
    let s := testing (withEntry 0 (entryAt 1000 0) (running 6049))
    let h := withEntry 0 (entryAt 1000 0) (opened 6049 6048)
    s.power = true ∧ s.newest = some 6049 ∧ s.due.entries = true ∧ h.due.entries = false ∧
    s.assoc.entries[0].opened = true ∧ s.assoc.entries[1].opened = false ∧
    0 < distance ((1000 : Sample) + BitVec.ofNat 32 (3000 + 2048)) 6049 ∧
    (∀ j : Fin 8, (s.slot j).st = .free) ∧ distance ((1000 : Sample) + BitVec.ofNat 32 (3000 + 2048)) 6048 ≤ 0 ∧
    (h.slot 4).st ≠ .free ∧ 0 < distance (999 : Sample) (entryAt 1000 0).pOnset := by decide

theorem witness_TrialExpiryUnwindsFromTheTop :
    let s := testing (onTrial 4000 { gated with newest := some 4000 })
    let pend := s.setNotice 7 (some ⟨0, none, 254, .trialExpired 0 .lw 64⟩)
    s.power = true ∧ s.newest = some 4000 ∧ s.due.trials = true ∧ gated.due.trials = false ∧
    0 ≤ distance (4000 : Sample) 4000 ∧ (16777215 : Int) < distance (0 : Sample) 16777216 ∧
    ¬ (16777215 : Int) < distance (0 : Sample) 16777215 ∧ s.nothingWaits ∧ s.reports.queue.length < 32 ∧
    s.reports.notices[7] = none ∧ pend.reports.notices[7] = some ⟨0, none, 254, .trialExpired 0 .lw 64⟩ ∧
    s.revert = [⟨2, .off .h, 28, 35, 2, 4000⟩] ∧ s.reports.queue.length + 1 ≤ 32 ∧
    (List.replicate 32 (Record.notice ⟨1, none, .linkDown 0⟩)).length = 32 := by decide

theorem witness_PulseEdgeSetsTheTimeBase :
    let later := { locked with intake := { locked.intake with silence := some 23000000 } }
    later.power = true ∧ later.quietUntil 24000003 ∧ later.time = locked.time ∧ locked.time.lastEdge = some 15000003 ∧
    24000002 - 15000003 < 9000000 ∧ 9000000 ≤ 24000003 - 15000003 ∧ locked.time.pendLabel = none ∧
    locked.time.lastLabel = some 80000 ∧ locked.intake.link = .up ∧
    locked.time.lastFrame = some (1000, 14900000) ∧ (running 1000).quietUntil 100 ∧
    (running 1000).time.lastEdge = none ∧ (running 1000).time.lastLabel = none ∧ State.reset.intake.link = .down ∧
    ({ State.reset with time := { resetTime with pendLabel := some 80007 } } : State).time.pendLabel = some 80007 := by decide

theorem witness_MissingPulseCountsAndUnlocks :
    let h := { locked with time := { locked.time with st := .holdover, missed := 599 } }
    let h := { h with intake := { h.intake with silence := some 23500003 } }
    State.reset.power = true ∧ State.reset.time.timer = none ∧ locked.time.timer = some 26000003 ∧
    locked.time.st = .locked ∧ locked.intake.link = .up ∧ locked.intake.silence = some 14900000 ∧
    14900000 + 2500000 < 26000003 ∧ h.intake.silence = some 23500003 ∧ 26000003 ≤ 23500003 + 2500000 ∧
    h.time.timer = some 26000003 ∧ 600 ≤ min (h.time.missed + 1) 65535 := by decide

theorem witness_RefinementStagesRunOnceInOrder :
    (refining none none none).power = true ∧ State.reset.unit = none ∧ (refining none none none).unit.isSome ∧
    (refining (some stages.1) none none).unit = some ⟨4, 4, some stages.1, none, none⟩ ∧
    (refining (some stages.1) (some stages.2.1) none).unit =
      some ⟨4, 4, some stages.1, some stages.2.1, none⟩ := by decide

/-- A slot whose ring is silent is quiet at its trigger; one without an onset level never is. -/
theorem witness_OnsetSearchStopsAtTheFirstQuietSample :
    let x := { openAt 998 with pin := some 997, close := 1000 }
    let loud := { x with ltaTrig := 0 }
    distance (997 : Sample) x.trigger = (1 : Nat) ∧ 0 < x.params.ons * x.ltaTrig ∧
    (∀ e ∈ silence 1000 4, e.d = ⟨0, 0, 0⟩) ∧ loud.params.ons * loud.ltaTrig = 0 ∧
    onsetStage (silence 1000 4) 4 x = ⟨998, 0, false⟩ ∧ onsetStage (silence 1000 4) 4 loud = ⟨997, 1, true⟩ ∧
    0 < distance ({ openAt 998 with pin := some 999 } : Slot).trigger 999 := by decide

/-- Windows cut at the close sample and not cut, with samples and with none, with energy and with none. -/
theorem witness_PeaksAreFirstLargestAndShareIsBounded :
    let x := { openAt 998 with pin := some 997, close := 1000 }
    let long := { x with close := 2000 }
    let one : List RingEntry := [⟨999, ⟨-48, 16, 0⟩, ⟨false, true, false⟩, true⟩]
    let newest : Sample := 998 + BitVec.ofNat 32 (2 ^ x.params.pol - 1)
    0 ≤ distance (997 : Sample) 998 ∧ 0 < distance x.close newest ∧ ¬ 0 < distance long.close newest ∧
    polStage one 4 x 998 = ⟨some ⟨9, 1, 0, -3, 0, 0⟩, some 230, true, false, true⟩ ∧
    polStage (silence 1000 4) 4 long 998 = ⟨some ⟨0, 0, 0, 0, 0, 0⟩, none, false, true, false⟩ ∧
    polStage (silence 900 4) 4 x 998 = ⟨none, none, false, false, true⟩ ∧
    peakStage one x 998 = ⟨some ⟨⟨48, 1⟩, ⟨16, 1⟩, ⟨0, 1⟩⟩, 1, 1⟩ ∧
    peakStage (silence 900 4) x 998 = ⟨none, 0, 0⟩ ∧ (polSums 0 (silence 900 4)).zz = 0 ∧ (polSums 0 one).zz = 2304 := by
  decide

theorem witness_PhaseCallFollowsItsTable :
    80 < 160 ∧ (some 160 : Option Nat) = some 160 ∧ 160 ≤ 160 ∧ 80 ≤ 80 ∧ 80 < 81 ∧ 159 < 160 ∧
    phaseCall (some 160) false .h 160 80 = (.p, .polar, false) ∧
    phaseCall none false .forced 160 80 = (.unknown, .none, false) := by decide

theorem witness_RefinementCompletionFormsTheRecord :
    let s := refining (some stages.1) (some stages.2.1) (some stages.2.2)
    s.power = true ∧ s.unit = some ⟨4, 4, some stages.1, some stages.2.1, some stages.2.2⟩ ∧ s.queueAgrees := by decide

theorem witness_ConversionIsExact :
    State.reset.time.st = .neverSet ∧ locked.time.st ≠ .neverSet ∧
    locked.time.capture = some ⟨1000, 37412, some 80000⟩ := by decide

/-- Every detector state, with and without the recentre flag, and for a block end each owed count the statement names. -/
theorem witness_DetectorsProcessFrames :
    let f : Conditioned := ⟨31, ⟨3200, 0, 0⟩, ⟨false, false, false⟩, false, false⟩
    let d : Detector := { resetDetector with
      st := .triggered, owed := 8, sta := 256000, lta := 256000, blkCount := 31 }
    f.recentre = false ∧ ({ f with recentre := true } : Conditioned).recentre = true ∧
    f.n.toNat % 2 ^ factoryProfile.blk = 2 ^ factoryProfile.blk - 1 ∧ d.st = .triggered ∧
    d.forced = false ∧ d.owed = 8 ∧ ({ d with owed := 7 } : Detector).owed < 8 ∧
    ({ d with forced := true } : Detector).forced = true ∧
    (detStep .z factoryProfile false f { d with st := .quiet, owed := 0 }).crossed = true ∧
    (detStep .z factoryProfile false { f with d := ⟨0, 0, 0⟩ } { d with st := .quiet, owed := 0 }).crossed = false ∧
    (detStep .z factoryProfile false f d).forcedNow = true ∧
    (detStep .z factoryProfile false { f with d := ⟨0, 0, 0⟩ } d).det.st = .quiet ∧
    (detStep .z factoryProfile false f d).det.st = .triggered := by decide

/-- Detectors that do not process their frame: OFF, BLANKED, WARMING in a pause or at a flagged frame; and one WARMING that
does, its block ending. -/
theorem witness_DetectorsThatHold :
    let f : Conditioned := ⟨31, ⟨3200, 0, 0⟩, ⟨false, false, false⟩, false, false⟩
    let d (st : DetState) : Detector := { resetDetector with st := st, sta := 256000, blkSum := 5, blkCount := 31 }
    (detStep .z factoryProfile false f (d .off)).det = d .off ∧
    (detStep .z factoryProfile false f (d .blanked)).det = { d .blanked with blkSum := 0, blkCount := 0 } ∧
    (detStep .z factoryProfile true f (d .warming)).det = { d .warming with blkSum := 0, blkCount := 0 } ∧
    (detStep .z factoryProfile false { f with recentre := true } (d .warming)).det =
      { d .warming with blkSum := 0, blkCount := 0 } ∧
    (detStep .z factoryProfile false { f with recentre := true } (d .quiet)).det.st = .blanked ∧
    (detStep .z factoryProfile false f (d .warming)).det.learn = 1250 ∧
    (detStep .z factoryProfile false f { d .off with sta := 2 ^ 40 }).ratio = 65535 := by decide

theorem witness_CrossingRetriggersOpensOrIsLost :
    let s := opened 2063 2000
    let full := (opened 2064 2000).mapSlots fun _ x => if x.st = .free then { openAt 1 with st := .done } else x
    s.table.recent.get .z = some (4, 2000) ∧ (s.slot 4).st = .opened ∧
    distance (2000 : Sample) 2063 < (s.slot 4).params.dsep ∧ ((opened 2064 2000).slot 4).params.dsep ≤ distance (2000 : Sample) 2064 ∧
    (opened 2064 2000).table.recent.get .z = some (4, 2000) ∧ ((opened 2064 2000).slot 0).st = .free ∧
    s.table.recent.get .h = none ∧ full.table.recent.get .z = some (4, 2000) ∧
    (∀ i : Fin 8, (full.slot i).st ≠ .free) := by decide

theorem witness_AssociationTakesTheLatestP :
    let s := withEntry 1 (entryAt 1000 0xC0000001) (withEntry 0 (entryAt 1000 0xC0000000) State.reset)
    (∀ i : Fin 8, s.assoc.entries[i].opened = true → 0 ≤ distance 0xC0000000 s.assoc.entries[i].created ∧
      distance 0xC0000000 s.assoc.entries[i].created < 2 ^ 30) ∧ s.assoc.entries[2].opened = false ∧
    s.candidate 1020 = some 1 ∧ s.candidate 4000 = some 1 ∧ s.candidate 1019 = none ∧ s.candidate 4001 = none := by
  decide

theorem witness_RaisedNoticesWaitOrCoalesce :
    let full := { State.reset with reports := { resetReports with
      queue := List.replicate 32 (.notice ⟨1, none, .linkDown 0⟩) } }
    let pend := full.setNotice 1 (some ⟨0, none, 255, .longGap 1 2⟩)
    State.reset.nothingWaits ∧ State.reset.reports.queue.length < 32 ∧
    full.reports.notices[(NoticeData.longGap 5 9).key] = none ∧ full.reports.queue.length = 32 ∧
    pend.reports.notices[(NoticeData.longGap 5 9).key] = some ⟨0, none, 255, .longGap 1 2⟩ := by decide

/-- Every kind of pick with the queue's last place free and none, and a notice likewise. -/
theorem witness_AdmissionNumbersAndAssociates :
    let p := record .p .z 1500
    let q := record .unknown .z 1500
    let r := record .s .h 1500
    let note := (running 5).setNotice 0 (some ⟨0, none, 1, .linkDown 0⟩)
    (waiting 31 p).power = true ∧ (waiting 31 p).oldestWaiting = some (.pick 1) ∧
    ((waiting 31 p).slot 1).record = some p ∧ p.call = .p ∧ 1 ≤ 32 - (waiting 31 p).reports.queue.length ∧
    (waiting 31 q).oldestWaiting = some (.pick 1) ∧ q.call ≠ .p ∧ (waiting 31 q).completes q = none ∧
    (withEntry 3 (entryAt 1000 0) (waiting 30 r)).completes r = some 3 ∧ r.call ≠ .p ∧
    2 ≤ 32 - (waiting 30 r).reports.queue.length ∧ 32 - (waiting 31 r).reports.queue.length = 1 ∧
    32 - (waiting 32 r).reports.queue.length = 0 ∧
    (withEntry 3 (entryAt 1000 0) (waiting 32 r)).oldestWaiting = some (.pick 1) ∧
    note.oldestWaiting = some (.notice 0) ∧ note.reports.queue.length < 32 ∧ note.reports.blocked = false ∧
    (waiting 31 r).reports.blocked = false ∧
    ({ (waiting 31 r) with reports := { (waiting 31 r).reports with blocked := true } } : State).reports.blocked = true := by
  decide

/-- Two items that wait, the oldest of them a pick whose date lies before a wrap; a free entry behind an OPEN one; and a
table without a free entry, whose oldest P is evicted. -/
theorem witness_OldestItemAndEntry :
    let s := (waiting 32 (record .p .z 1500)).setNotice 2 (some ⟨0, none, 1, .warmupDone 31⟩)
    let w := s.setSlot 1 { s.slot 1 with order := some 0xFFFFFFFF }
    let full := { State.reset with assoc := { resetAssoc with
      entries := Vector.ofFn fun i : Fin 8 => entryAt (if i = 5 then 900 else 1000) (BitVec.ofNat 32 i.val) } }
    w.power = true ∧ (w.slot 1).st = .done ∧ (w.slot 1).order = some 0xFFFFFFFF ∧
    0 ≤ distance (0xFFFFFFFF : BitVec 32) 0 ∧ w.oldestWaiting = some (.pick 1) ∧ (running 5).oldestWaiting = none ∧
    (withEntry 0 (entryAt 1000 0) State.reset).entryForP = 1 ∧
    (∀ i : Fin 8, full.assoc.entries[i].opened = true ∧ 0 ≤ distance 900 full.assoc.entries[i].pOnset ∧
      0 ≤ distance 0 full.assoc.entries[i].created) ∧ full.entryForP = 5 := by decide

/-- Two items that wait with room for the older alone, with room for a completing pick, and with one place for it; a pick of
class H that seeks and one that does not. -/
theorem witness_AttemptsGoByAge :
    let two (fill : Nat) := (waiting fill (record .p .z 1500)).setNotice 2 (some ⟨0xFFFFFFFF, none, 1, .warmupDone 31⟩)
    let pair (fill : Nat) := withEntry 3 (entryAt 1000 0) (waiting fill (record .unknown .h 1500))
    (two 31).power = true ∧ (two 31).oldestWaiting = some (.notice 2) ∧ (two 31).reports.queue.length + 1 ≤ 32 ∧
    (∀ i : Fin 8, ((two 31).slot i).st = .done → ((two 31).slot i).record.isSome) ∧
    (pair 30).oldestWaiting = some (.pick 1) ∧ (pair 30).completes (record .unknown .h 1500) = some 3 ∧
    (pair 30).reports.queue.length + 2 ≤ 32 ∧ 32 < (pair 31).reports.queue.length + 2 ∧
    (pair 31).reports.queue.length = 31 ∧ 32 < (pair 32).reports.queue.length + 2 ∧
    (∀ i : Fin 8, ((pair 30).slot i).st = .done → ((pair 30).slot i).record.isSome) ∧
    (record .unknown .z 1500).call = .unknown ∧ (record .unknown .z 1500).cls ≠ .h := by decide

/-- R128: the attempts of one event take the older notice, then the pick that stands first in the slots. -/
theorem test_attempts_take_the_oldest_first :
    let s := (waiting 0 (record .p .z 1500)).setNotice 2 (some ⟨0xFFFFFFFF, none, 1, .warmupDone 31⟩)
    (admitAll s).reports.queue.map (fun r => match r with | .notice _ => 0 | .pick _ => 1 | .group _ => 2) = [0, 1] := by
  decide

theorem witness_SaveCompletesOrIsLost :
    let w := { State.reset with store := ⟨factoryImage, false, some factoryImage, false⟩ }
    let r := { w with resetPending := some ⟨.request, true⟩ }
    State.reset.power = true ∧ State.reset.store.writing = none ∧ w.power = true ∧
    w.store.writing = some factoryImage ∧ w.resetPending = none ∧ r.store.writing = some factoryImage ∧
    r.resetPending = some ⟨.request, true⟩ := by decide

theorem witness_ResetsReloadTheTables :
    let low := { State.reset with resetLow := true }
    let pend := { State.reset with resetPending := some ⟨.request, false⟩ }
    State.reset.store.writing = none ∧ State.reset.power = true ∧ low.power = true ∧ low.resetLow = true ∧
    low.store.writing = none ∧ pend.power = true ∧ pend.store.writing = none ∧
    pend.resetPending = some ⟨.request, false⟩ ∧
    ({ State.reset with store := ⟨factoryImage, false, none, false⟩ } : State).store.mark = false ∧
    ({ low with store := ⟨factoryImage, false, some factoryImage, false⟩ } : State).store.writing = some factoryImage ∧
    ({ low with resetPending := some ⟨.line, true⟩ } : State).resetPending = some ⟨.line, true⟩ ∧
    ({ low with resetPending := some ⟨.line, false⟩ } : State).resetPending = some ⟨.line, false⟩ := by decide

/-- A pick record with all its optional parts. -/
def fullRecord : PickRecord :=
  { record .s .h 900 with
    share := some 256, sums := some ⟨2 ^ 56, 0, 5, -(2 ^ 56), 0, -1⟩
    peaks := some ⟨⟨8388608, 65535⟩, ⟨0, 0⟩, ⟨1, 2⟩⟩, flags := { historyShort := true, noEnergy := true } }

/-- R173: the bytes of a record with all its parts stand as its table says; so do the data of STATUS. -/
theorem test_layouts :
    fullRecord.laidOut fullRecord.bytes ∧
    (GroupRecord.mk 7 8 0xFFFFFFFF .sInferred 300 (-2)).laidOut (GroupRecord.mk 7 8 0xFFFFFFFF .sInferred 300 (-2)).bytes ∧
    (opened 2000 1990).statusLaidOut (statusBytes (opened 2000 1990)) := by
  and_intros <;> decide +kernel

theorem witness_RecordsAndRepliesAreLaidOut :
    let rep : Reply := ⟨255, 0x81, 0x5A, .done, true, [7, 8]⟩
    (Record.pick fullRecord).fits ∧ (Record.group ⟨7, 8, 9, .sMeasured, 300, -2⟩).fits ∧
    (Record.notice ⟨255, none, .timeState .unlocked 65535⟩).fits ∧ rep.data.length ≤ 238 ∧ rep.level < 256 ∧
    (opened 2000 1990).withinCapacity ∧ (opened 2000 1990).queueAgrees ∧ (opened 2000 1990).timeAgrees := by
  and_intros <;> decide

/-- R134: a COLLECT of two with two or three records, a notice raised and a refinement completed at an empty queue. -/
theorem witness_AttnFollowsTheQueue :
    let holds (k : Nat) : State := { State.reset with reports := { resetReports with
      queue := List.replicate k (.notice ⟨1, none, .linkDown 0⟩) } }
    let unit := { refining (some stages.1) (some stages.2.1) (some stages.2.2) with reports := resetReports }
    (holds 2).takes (req 1) 1 ∧ (holds 2).waitsOnlyWhenFull ∧ (holds 2).attn = true ∧ field [2] 0 1 = 2 ∧
    (after (.collect (req 1) [2]) (holds 2)).attn = false ∧ (after (.collect (req 1) [2]) (holds 3)).attn = true ∧
    (after .powerLoss (holds 2)).power = false ∧ State.reset.attn = false ∧
    unit.power = true ∧ unit.waitsOnlyWhenFull ∧ unit.attn = false ∧ unit.unit.isSome ∧
    (after .refinementCompletion unit).attn = true := by
  and_intros <;> decide

theorem witness_BytesFollowTheirLayouts :
    let sn : Snapshot := ⟨currentHeader State.reset, ⟨-8388608, 8388607, 0⟩,
      ⟨⟨2 ^ 46, 2 ^ 46⟩, ⟨2 ^ 47, 2 ^ 47⟩⟩, 7, 0xFFFFFFFF⟩
    (⟨0xFFFFFFFF, 0xFF, -8388608, 8388607, -1⟩ : RawFrame).in24 ∧ sn.header.legal = true ∧ sn.count = 7 ∧
    meanLegal sn.mean.z = true ∧ meanLegal sn.mean.n = true ∧ meanLegal sn.mean.e = true ∧
    sn.avg.z.sta ≤ 2 ^ (54 - 2 * sn.header.cf) ∧ sn.avg.z.lta ≤ 2 ^ (54 - 2 * sn.header.cf) ∧
    sn.avg.h.sta ≤ 2 ^ (55 - 2 * sn.header.cf) ∧ sn.avg.h.lta ≤ 2 ^ (55 - 2 * sn.header.cf) := by decide

theorem witness_RequestRowsAreTheirFrames :
    let c := Instr.collect (req 1) [4]
    let held (rx : List Byte) (cut : Bool) : Port := { resetPort with rx := rx, cut := cut }
    requestOf c = some (0x02, req 1, [4]) ∧ c.wf = true ∧ State.reset.power = true ∧
    State.reset.port.searching = true ∧ (held [0xC3] false).searching = true ∧ (held [] true).searching = true ∧
    (held [0xC3, 0x3C, 0x05] false).searching = false := by decide

/-- A step between two states that meet every invariant: a frame in RUN with a slot OPEN. -/
theorem witness_StepsKeepInvariants :
    let s := { opened 2000 1990 with pending := [.linkLoss] }
    (s.withinCapacity ∧ s.settled ∧ s.linkAgrees ∧ s.ringAgrees ∧ s.chainAgrees ∧ s.queueAgrees) ∧
    (s.slotsAgree ∧ s.pinsRetained ∧ s.timeAgrees ∧ s.waitsOnlyWhenFull ∧ s.queueNumbered ∧ s.storeAgrees) ∧
    locked.timeAgrees ∧ (match step s with | .next t => t.chain.st == .resync | _ => false) = true := by
  and_intros <;> decide

/-- The reset state's settings are legal, one trial included. -/
theorem witness_StepsKeepSettingsLegal : (onTrial 5 gated).settingsLegal ∧ (onTrial 5 gated).storeAgrees := by
  refine ⟨⟨?_, ?_, ?_, ?_, ⟨?_, ?_, trivial⟩, ?_, ?_⟩, ?_⟩ <;> decide

theorem witness_OnlyResetsLowerTheFloorOrLeavePower :
    let s := State.reset
    let p := { s with floor := 2, settings := { s.settings with
      profileLock := s.settings.profileLock.set 7 (.power .line), stationLock := .power .opened
      gateLock := .power .fixed } }
    p.resetPending = none ∧ p.settings.profileLock[7] = .power .line ∧ p.settings.stationLock = .power .opened ∧
    p.settings.gateLock = .power .fixed ∧ (∀ b, Instr.linkLoss ≠ .powerOn b) ∧
    (∀ low b, Instr.linkLoss ≠ .resetLine low b) ∧
    (match exec .linkLoss p with | .next t => t.floor == 2 | _ => false) = true := by
  refine ⟨by decide, by decide, by decide, by decide, ?_, ?_, by decide⟩ <;> intros <;> simp

end Sys2Proof.Tests
end

