-- ==== Sys2Proof/Proofs/Crossing.lean ====
section
/-! PROOFS. The crossing decision (3.5): what its three tests say, what each outcome does, and that the outcomes are
the ones R59 and R60 name. -/

namespace Sys2Proof.Proofs

open Sys2Proof.Machine

/-! ## The lowest-numbered FREE slot -/

/-- The numbers 0 to 7 stand in their order. -/
theorem eight_eq_finRange : eight = List.finRange 8 := by decide

/-- A search of the numbers 0 to 7 is the library's search for the lowest number that meets a test. -/
theorem find?_eight (p : Fin 8 → Bool) : eight.find? p = Fin.find? p := by
  rw [eight_eq_finRange, Fin.find?_eq_find?_finRange]

theorem freeSlot?_eq_some (s : State) (i : Fin 8) :
    s.freeSlot? = some i ↔ (s.slot i).st = .free ∧ ∀ j < i, (s.slot j).st ≠ .free := by
  rw [State.freeSlot?, find?_eight, Fin.find?_eq_some_iff]
  simp only [beq_iff_eq, beq_eq_false_iff_ne]

theorem freeSlot?_eq_none (s : State) : s.freeSlot? = none ↔ ∀ i : Fin 8, (s.slot i).st ≠ .free := by
  rw [State.freeSlot?, find?_eight, Fin.find?_eq_none_iff]
  simp only [beq_eq_false_iff_ne]

/-! ## The separation test (R59) -/

/-- Within the separation of its most recent opening, still OPEN, a detector's crossing belongs to that slot. -/
theorem retriggered_eq_some {s : State} {w : Det} {i : Fin 8} {trig t : Sample}
    (recent : s.table.recent.get w = some (i, trig)) (isOpen : (s.slot i).st = .opened)
    (near : distance trig t < (s.slot i).params.dsep) : s.retriggered w t = some i := by
  simp only [State.retriggered, recent, isOpen, near, and_self, if_true]

/-- A most recent opening that is over or too far back, or none at all, takes no crossing. -/
theorem retriggered_eq_none {s : State} {w : Det} {t : Sample}
    (apart : ∀ (i : Fin 8) (trig : Sample), s.table.recent.get w = some (i, trig) →
      (s.slot i).st ≠ .opened ∨ (s.slot i).params.dsep ≤ distance trig t) : s.retriggered w t = none := by
  unfold State.retriggered
  split
  next i trig recent =>
    have not_both : ¬ ((s.slot i).st = .opened ∧ distance trig t < (s.slot i).params.dsep) := by
      rintro ⟨isOpen, near⟩
      cases apart i trig recent with
      | inl notOpen => exact notOpen isOpen
      | inr far => omega
    exact if_neg not_both
  next => rfl

/-! ## The three outcomes -/

theorem crossing_of_retriggered {s : State} {w : Det} {t : Sample} {i : Fin 8} (h : s.retriggered w t = some i)
    (eff ratio : Nat) :
    crossing w t eff ratio s = s.setSlot i { s.slot i with retrig := sat8 ((s.slot i).retrig + 1) } := by
  simp only [crossing, h]

theorem crossing_of_freeSlot {s : State} {w : Det} {t : Sample} {i : Fin 8} (h : s.retriggered w t = none)
    (free : s.freeSlot? = some i) (eff ratio : Nat) : crossing w t eff ratio s = openFor w t eff ratio i s := by
  simp only [crossing, h, free]

theorem crossing_of_full {s : State} {w : Det} {t : Sample} (h : s.retriggered w t = none)
    (full : s.freeSlot? = none) (eff ratio : Nat) : crossing w t eff ratio s = loseTrigger w s := by
  simp only [crossing, h, full]

/-- A slot that a detector's crossing opens belongs to that detector (R63). -/
@[simp] theorem owner_classOf (w : Det) : (classOf w).owner = w := by
  cases w <;> rfl

/-- The slot that a crossing opens has the onset level of its own detector among its parameters (R62). -/
theorem openSlot_classOf_params (s : State) (w : Det) (t : Sample) (lta ratio lost : Nat) (forced : Bool) :
    (openSlot s (classOf w) t lta ratio lost forced).params = copyParams s.active w :=
  congrArg (copyParams s.active) (owner_classOf w)

/-- What opening a slot for a crossing writes: the slot, the detector's pending lost-trigger count and its most recent
opening (R59, R62). -/
theorem openFor_eq (w : Det) (t : Sample) (eff ratio : Nat) (i : Fin 8) (s : State) :
    openFor w t eff ratio i s = { s with
      table := { s.table with
        slots := s.table.slots.set i { openSlot s (classOf w) t eff ratio (s.det.get w).pendLost false with
          params := copyParams s.active w }
        recent := s.table.recent.set w (some (i, t)) }
      det := s.det.set w { s.det.get w with pendLost := 0 } } := by
  rw [← openSlot_classOf_params s w t eff ratio (s.det.get w).pendLost false]
  rfl

/-- Settles O45: the separation test and the search for a FREE slot select one of the decision's three outcomes. -/
theorem crossingRetriggersOpensOrIsLost : Obligations.CrossingRetriggersOpensOrIsLost := by
  intro s w t eff ratio
  refine ⟨fun i trig recent isOpen near => ?retrigger, fun apart => ⟨fun i free lowest => ?opens, fun full => ?lost⟩⟩
  case retrigger => exact crossing_of_retriggered (retriggered_eq_some recent isOpen near) eff ratio
  case opens =>
    have free? : s.freeSlot? = some i := (freeSlot?_eq_some s i).mpr ⟨free, lowest⟩
    exact (crossing_of_freeSlot (retriggered_eq_none apart) free? eff ratio).trans (openFor_eq w t eff ratio i s)
  case lost => exact crossing_of_full (retriggered_eq_none apart) ((freeSlot?_eq_none s).mpr full) eff ratio

end Sys2Proof.Proofs
end

section
/-! PROOFS. The phase call (5.4): what the table of R88 gives for a share that stands and for one that does not. -/

namespace Sys2Proof.Proofs

open Sys2Proof.Machine

/-! ## A present, unclipped share -/

theorem phaseCall_of_vp_le {v vp : Nat} (high : vp ≤ v) (cls : SlotClass) (vs : Nat) :
    phaseCall (some v) false cls vp vs = (.p, .polar, false) := by
  simp only [phaseCall, if_pos high]

/-- The P limit is tested first, so a share at or below the S limit gives S only where it is below the P limit too. -/
theorem phaseCall_of_le_vs {v vp vs : Nat} (below : v < vp) (low : v ≤ vs) (cls : SlotClass) :
    phaseCall (some v) false cls vp vs = (.s, .polar, false) := by
  simp only [phaseCall, if_neg (Nat.not_le.mpr below), if_pos low]

theorem phaseCall_of_between {v vp vs : Nat} (above : vs < v) (below : v < vp) (cls : SlotClass) :
    phaseCall (some v) false cls vp vs = (.unknown, .polar, false) := by
  simp only [phaseCall, if_neg (Nat.not_le.mpr below), if_neg (Nat.not_le.mpr above)]

/-! ## No share, or one measured on clipped samples -/

theorem phaseCall_eq_contextCall {share : Option Nat} {clipped : Bool} (untrusted : share = none ∨ clipped = true)
    (cls : SlotClass) (vp vs : Nat) : phaseCall share clipped cls vp vs = contextCall cls := by
  cases untrusted with
  | inl absent => subst absent; cases clipped <;> rfl
  | inr clip => subst clip; cases share <;> rfl

/-- Settles O41: a trusted share is called by its place among the two limits, of which the S limit is the lower; otherwise
the class alone makes the call. -/
theorem phaseCallFollowsItsTable : Obligations.PhaseCallFollowsItsTable := by
  intro share clipped cls vp vs limits
  refine ⟨?byShare, ?byClass⟩
  case byShare =>
    rintro v rfl rfl
    exact ⟨fun high => phaseCall_of_vp_le high cls vs,
      fun low => phaseCall_of_le_vs (Nat.lt_of_le_of_lt low limits) low cls,
      fun above below => phaseCall_of_between above below cls⟩
  case byClass =>
    intro untrusted
    rw [phaseCall_eq_contextCall untrusted]
    refine ⟨?z, ?h, ?forced⟩ <;> rintro rfl <;> rfl

end Sys2Proof.Proofs
end

section
/-! PROOFS. The admission attempts of one event (8.1): what waits, the states in which they change nothing, and that they do
not touch the control port. -/

namespace Sys2Proof.Proofs

open Sys2Proof.Machine Sys2Proof.Laws

/-! ## What waits (R127) -/

theorem oldestWaiting_of_nothingWaits {s : State} (idle : s.nothingWaits) : s.oldestWaiting = none := by
  obtain ⟨noneDone, noNotice⟩ := idle
  cases oldest : s.oldestWaiting with
  | none => rfl
  | some w =>
    have itWaits := oldest_waits oldest
    cases w with
    | pick i => exact absurd itWaits.1 (noneDone i)
    | notice k => simp [noNotice k] at itWaits

/-- A scan whose every step keeps an item keeps one of a list that has any. -/
theorem foldl_isSome_of_ne_nil {α β : Type} {f : Option β → α → Option β} (keeps : ∀ b a, (f b a).isSome)
    {l : List α} (ne : l ≠ []) (b : Option β) : (l.foldl f b).isSome := by
  obtain ⟨ahead, last, rfl⟩ := (List.eq_nil_or_concat' l).resolve_left ne
  rw [List.foldl_append]
  exact keeps _ last

/-- The scan for the oldest item finds one where any waits. -/
theorem oldestWaiting_isSome {s : State} (ne : s.waitingItems ≠ []) : s.oldestWaiting.isSome := by
  rw [State.oldestWaiting, Option.isSome_map]
  refine foldl_isSome_of_ne_nil (fun best x => ?_) ne none
  cases best with
  | none => rfl
  | some y => dsimp only; split <;> rfl

theorem waitingItems_ne_nil_of_notice {s : State} {k : Fin 8} {p : PendingNotice} (pending : s.reports.notices[k] = some p) :
    s.waitingItems ≠ [] := by
  have listed : k ∈ eight := eight_eq_finRange ▸ List.mem_finRange k
  have dated : (p.date, Waiting.notice k) ∈
      eight.filterMap fun k => s.reports.notices[k].map fun p => (p.date, Waiting.notice k) :=
    List.mem_filterMap.mpr ⟨k, listed, by rw [pending]; rfl⟩
  exact List.ne_nil_of_mem (List.mem_append_right _ dated)

/-- A notice that waits alone is the oldest waiting item. -/
theorem oldestWaiting_of_only_notice {s : State} {k : Fin 8} {p : PendingNotice}
    (noneDone : ∀ i : Fin 8, (s.slot i).st ≠ .done) (pending : s.reports.notices[k] = some p)
    (alone : ∀ j : Fin 8, j ≠ k → s.reports.notices[j] = none) : s.oldestWaiting = some (.notice k) := by
  obtain ⟨w, oldest⟩ := Option.isSome_iff_exists.mp (oldestWaiting_isSome (waitingItems_ne_nil_of_notice pending))
  have itWaits := oldest_waits oldest
  cases w with
  | pick i => exact absurd itWaits.1 (noneDone i)
  | notice j =>
    have same : j = k := by
      by_contra other
      simp [alone j other] at itWaits
    rw [oldest, same]

/-! ## Attempts that change nothing (R128) -/

theorem admitAll_of_nothingWaits {s : State} (idle : s.nothingWaits) : admitAll s = s :=
  admitAll_none (oldestWaiting_of_nothingWaits idle)

@[simp] theorem placesFor_notice (s : State) (k : Fin 8) : s.placesFor (.notice k) = 1 := rfl

theorem placesFor_pos (s : State) (w : Waiting) : 0 < s.placesFor w := by
  unfold State.placesFor
  split
  · split
    · split <;> decide
    · decide
  · decide

/-- A full queue admits nothing, and with no place at all a completing pick is not blocked for want of a second (R135). -/
theorem admitAll_of_full {s : State} (full : s.places = 0) : admitAll s = s := by
  cases oldest : s.oldestWaiting with
  | none => exact admitAll_none oldest
  | some w =>
    have tooFew : s.places < s.placesFor w := full ▸ placesFor_pos s w
    have notOnePlace : ¬ (s.placesFor w = 2 ∧ s.places = 1) := by omega
    rw [admitAll_stuck oldest tooFew, blockedAttempt, if_neg notOnePlace]

/-! ## The attempts and the control port -/

/-- The state as a taken request's action finds it: nothing held by the receiver, PROTECT as sampled (R143, R167). -/
abbrev heard (protect : Bool) (s : State) : State := (listen s).sampled protect

theorem associate_heard (p : PickRecord) (seq : BitVec 32) (smin smax : Nat) (b : Bool) (s : State) :
    associate p seq smin smax (heard b s) = heard b (associate p seq smin smax s) := by
  have completes_eq (q : PickRecord) : (heard b s).completes q = s.completes q := rfl
  simp only [associate, completes_eq]
  split
  · rfl
  · split <;> rfl

theorem admitItem_heard (w : Waiting) (b : Bool) (s : State) : admitItem w (heard b s) = heard b (admitItem w s) := by
  cases w with
  | pick i =>
    cases h : (s.slot i).record with
    | none =>
      have h' : ((heard b s).slot i).record = none := h
      simp only [admitItem, admitPick, h, h']
    | some p =>
      have h' : ((heard b s).slot i).record = some p := h
      simp only [admitItem, admitPick_some h, admitPick_some h']
      exact congrArg (·.setSlot i freeSlot)
        (associate_heard p s.reports.pickSeq (s.slot i).params.smin (s.slot i).params.smax b
          { s with reports := { s.reports with pickSeq := s.reports.pickSeq + 1, blocked := false } })
  | notice k =>
    cases h : s.reports.notices[k] with
    | none =>
      have h' : (heard b s).reports.notices[k] = none := h
      simp only [admitItem, admitNotice, h, h']
    | some p =>
      have h' : (heard b s).reports.notices[k] = some p := h
      simp only [admitItem, admitNotice, h, h']
      rfl

theorem blockedAttempt_heard (w : Waiting) (b : Bool) (s : State) :
    blockedAttempt w (heard b s) = heard b (blockedAttempt w s) := by
  have places_eq : (heard b s).placesFor w = s.placesFor w := rfl
  have free_eq : (heard b s).places = s.places := rfl
  simp only [blockedAttempt, places_eq, free_eq]
  split <;> rfl

theorem attempts_heard (n : Nat) (b : Bool) : ∀ s : State, attempts n (heard b s) = heard b (attempts n s) := by
  induction n with
  | zero => exact fun s => rfl
  | succ n ih =>
    intro s
    cases h : s.oldestWaiting with
    | none =>
      have h' : (heard b s).oldestWaiting = none := h
      simp only [attempts, h, h']
    | some w =>
      have h' : (heard b s).oldestWaiting = some w := h
      have places_eq : (heard b s).placesFor w = s.placesFor w := rfl
      have free_eq : (heard b s).places = s.places := rfl
      simp only [attempts, h, h', places_eq, free_eq]
      split
      · rw [admitItem_heard, ih]
      · exact blockedAttempt_heard w b s

/-- The attempts neither read nor change what a request writes at the control port. -/
theorem admitAll_heard (b : Bool) (s : State) : admitAll (heard b s) = heard b (admitAll s) := attempts_heard 16 b s

end Sys2Proof.Proofs
end

section
/-! PROOFS. The Notice Set (8.3): a notice that finds an idle arbiter and a free place is admitted where it is raised. -/

namespace Sys2Proof.Proofs

open Sys2Proof.Machine Sys2Proof.Laws

theorem admitNotice_some {k : Fin 8} {s : State} {p : PendingNotice} (pending : s.reports.notices[k] = some p) :
    admitNotice k s = { s with reports := { s.reports with
      queue := s.reports.queue ++ [.notice ⟨p.count, p.first, p.data⟩]
      notices := s.reports.notices.set k none
      blocked := false } } := by
  simp only [admitNotice, pending]
  rfl

/-- Setting and clearing a clear key leaves the Notice Set. -/
theorem notices_set_clear {v : Vector (Option PendingNotice) 8} {k : Fin 8} (clear : v[k] = none)
    (x : Option PendingNotice) : (v.set k x).set k none = v := by
  have own : v[(k : Nat)] = none := clear
  rw [Vector.set_set, ← own, Vector.set_getElem_self]

@[simp] theorem post_slot (d : NoticeData) (s : State) (i : Fin 8) : (post d s).slot i = s.slot i := by
  obtain ⟨r, h⟩ := post_shape d s
  rw [h]
  rfl

@[simp] theorem post_queue (d : NoticeData) (s : State) : (post d s).reports.queue = s.reports.queue := by
  unfold post
  split <;> rfl

/-- A first notice entered with nothing waiting is the oldest waiting item. -/
theorem oldestWaiting_post {d : NoticeData} {s : State} (idle : s.nothingWaits) :
    (post d s).oldestWaiting = some (.notice d.key) := by
  obtain ⟨noneDone, noNotice⟩ := idle
  have posted := post_new (noNotice d.key)
  refine oldestWaiting_of_only_notice (by simpa using noneDone) (p := ⟨s.reports.waiting, s.newest, 1, d⟩) ?own ?others
  case own => rw [posted, takeDate_notices, setNotice_self]
  case others =>
    intro j other
    rw [posted, takeDate_notices, setNotice_ne s _ other, noNotice j]

/-- Its admission at once leaves only the record, the date taken and the indication cleared (R130, R131). -/
theorem admitNotice_post {d : NoticeData} {s : State} (clear : s.reports.notices[d.key] = none) :
    admitNotice d.key (post d s) = reported d s := by
  have pending : (post d s).reports.notices[d.key] = some ⟨s.reports.waiting, s.newest, 1, d⟩ := by
    rw [post_new clear, takeDate_notices, setNotice_self]
  rw [admitNotice_some pending, post_new clear]
  simp only [State.takeDate, State.setNotice, notices_set_clear clear]
  rfl

theorem nothingWaits_reported {s : State} (idle : s.nothingWaits) (d : NoticeData) : (reported d s).nothingWaits := idle

theorem raise_of_nothingWaits {d : NoticeData} {s : State} (idle : s.nothingWaits)
    (room : s.reports.queue.length < Config.queueCap) : raise d s = reported d s := by
  have clear := idle.2 d.key
  have recorded : doneRecorded (post d s) := fun i done => absurd (post_slot d s i ▸ done) (idle.1 i)
  have fits : (post d s).placesFor (.notice d.key) ≤ (post d s).places := by
    rw [placesFor_notice, State.places, post_queue]
    exact Nat.sub_pos_of_lt room
  calc raise d s = admitAll (post d s) := by rw [raise_new clear, post_new clear]
    _ = admitAll (admitNotice d.key (post d s)) :=
      admitAll_fits (w := .notice d.key) (oldestWaiting_post idle) recorded fits
    _ = admitAll (reported d s) := by rw [admitNotice_post clear]
    _ = reported d s := admitAll_of_nothingWaits (nothingWaits_reported idle d)

/-- Settles O47: a clear key's notice is the only item the attempts find when nothing waited, and waits when the queue
is full; a pending key's notice coalesces. -/
theorem raisedNoticesWaitOrCoalesce : Obligations.RaisedNoticesWaitOrCoalesce := by
  intro d s
  refine ⟨?attempted, ?admittedAtOnce, ?waits, ?coalesced⟩
  case attempted => exact raise_new
  case admittedAtOnce => exact raise_of_nothingWaits
  case waits =>
    intro clear full
    have noPlace : ((s.setNotice d.key (some ⟨s.reports.waiting, s.newest, 1, d⟩)).takeDate).places = 0 :=
      Nat.sub_eq_zero_of_le full.ge
    exact (raise_new clear).trans (admitAll_of_full noPlace)
  case coalesced => exact fun p pending => raise_pending pending

end Sys2Proof.Proofs
end

section
/-! PROOFS. Collection (8.4): the two refusals of COLLECT and the removal. -/

namespace Sys2Proof.Proofs

open Sys2Proof.Machine

/-! ## The action's three branches -/

theorem actCollect_range {body : List Byte} (outside : field body 0 1 = 0 ∨ 4 < field body 0 1) (eff : Nat) (s : State) :
    actCollect body eff s = (s, refuse .range) := by
  simp only [actCollect, if_pos outside]

theorem actCollect_empty {body : List Byte} {s : State} (low : 1 ≤ field body 0 1) (high : field body 0 1 ≤ 4)
    (empty : s.reports.queue = []) (eff : Nat) : actCollect body eff s = (s, refuse .empty) := by
  have inside : ¬ (field body 0 1 = 0 ∨ 4 < field body 0 1) := by omega
  simp only [actCollect, if_neg inside, empty, List.isEmpty_nil, if_true]

theorem actCollect_removes {body : List Byte} {s : State} (low : 1 ≤ field body 0 1) (high : field body 0 1 ≤ 4)
    (filled : s.reports.queue ≠ []) (eff : Nat) : actCollect body eff s =
      (admitAll { s with reports := { s.reports with queue := s.reports.queue.drop (field body 0 1) } },
        doneWith (be 1 (min (field body 0 1) s.reports.queue.length) ++
          (s.reports.queue.take (field body 0 1)).flatMap Record.bytes)) := by
  have inside : ¬ (field body 0 1 = 0 ∨ 4 < field body 0 1) := by omega
  have notEmpty : ¬ s.reports.queue.isEmpty = true := by rwa [List.isEmpty_iff]
  simp only [actCollect, if_neg inside, if_neg notEmpty, collectBytes, List.length_take]

/-! ## The row -/

/-- A COLLECT taken replies with its action's outcome (R156, R169). -/
theorem exec_collect {s t : State} {r : Req} {body : List Byte} {st : Status} {data : List Byte} (taken : s.takes r 1)
    (len : body.length = 1)
    (act : actCollect body (max r.level.toNat s.floor) (heard r.protect s) = (heard r.protect t, ⟨st, false, data⟩)) :
    exec (.collect r body) s = .next (replied s t r 0x02 st false data) :=
  congrArg Host.Outcome.next (requestRow_replies_level taken rfl (by rw [len]; rfl) act)

/-- Settles O7: the action's branches, with the attempts carried past the port's own writes; where nothing waits they do
nothing. -/
theorem collectRemovesTheOldestRecords : Obligations.CollectRemovesTheOldestRecords := by
  intro s r body taken len n q
  have removes (low : 1 ≤ n) (high : n ≤ 4) (filled : q ≠ []) := exec_collect taken len
    ((actCollect_removes (s := heard r.protect s) low high filled _).trans
      (congrArg (·, _) (admitAll_heard r.protect { s with reports := { s.reports with queue := q.drop n } })))
  refine ⟨?range, ?empty, removes, ?idle⟩
  case range => exact fun outside => exec_collect taken len (actCollect_range outside _ _)
  case empty =>
    exact fun low high empty => exec_collect taken len (actCollect_empty (s := heard r.protect s) low high empty _)
  case idle =>
    intro low high filled idle
    have unchanged : admitAll { s with reports := { s.reports with queue := q.drop n } } =
        { s with reports := { s.reports with queue := q.drop n } } := admitAll_of_nothingWaits idle
    exact unchanged ▸ removes low high filled

end Sys2Proof.Proofs
end

section
/-! PROOFS. STORE SAVE (9.5): the image of the working tables, with every trial on the Revert Stack undone. -/

namespace Sys2Proof.Proofs

open Sys2Proof.Machine

/-! ## The items of a profile entry (9.1): its 33 values in a list, one place for each -/

theorem mem_allItems (i : Item) : i ∈ allItems := by
  cases i with
  | sta w | lta w | on w | off w | ons w | floor w => cases w <;> decide
  | _ => decide

theorem itemId_inj {i j : Item} : i.id = j.id ↔ i = j := List.idxOf_inj (mem_allItems i)

/-- An item's value stands in its identifier's place. -/
theorem values_id (p : Profile) (i : Item) : p.values[i.id]? = some (p.get i) := by
  rw [Profile.values, List.getElem?_map, Item.id, List.getElem?_idxOf (mem_allItems i), Option.map_some]

/-- A put writes its item's place alone. -/
theorem values_put (p : Profile) (i : Item) (v : Nat) : (p.put i v).values = p.values.set i.id v := by
  cases i with
  | sta w | lta w | on w | off w | ons w | floor w => cases w <;> rfl
  | _ => rfl

theorem get_put (p : Profile) (i j : Item) (v : Nat) : (p.put i v).get j = if i = j then v else p.get j := by
  apply Option.some.inj
  rw [← values_id, values_put]
  split
  case isTrue same =>
    subst same
    exact List.getElem?_set_self (List.getElem?_eq_some_iff.mp (values_id p i)).1
  case isFalse other => rw [List.getElem?_set_ne (mt itemId_inj.mp other), values_id]

/-! ## Every trial undone (R149) -/

/-- Undoing one trial gives its parameter the old value and leaves every other. -/
theorem get_undone (ps : Vector Profile 8) (t : Trial) (e : Fin 8) (i : Item) :
    (ps.set t.entry (ps[t.entry].put t.item t.old))[e].get i =
      if t.entry == e && t.item == i then t.old else ps[e].get i := by
  by_cases same : t.entry = e
  · subst same
    simp [get_put]
  · have apart : t.entry.val ≠ e.val := Fin.val_ne_of_ne same
    simp [same, apart]

theorem untried_cons (ps : Vector Profile 8) (t : Trial) (rest : List Trial) :
    untried ps (t :: rest) = untried (ps.set t.entry (ps[t.entry].put t.item t.old)) rest := rfl

/-- The trials are undone from the top of the stack down, so the oldest of a parameter has the last word. -/
theorem get_untried (stack : List Trial) (e : Fin 8) (i : Item) : ∀ ps : Vector Profile 8,
    (untried ps stack)[e].get i =
      ((stack.filter fun t => t.entry == e && t.item == i).getLast?.map (·.old)).getD (ps[e].get i) := by
  induction stack with
  | nil => exact fun _ => rfl
  | cons t rest ih =>
    intro ps
    rw [untried_cons, ih, get_undone, List.filter_cons]
    split
    case isTrue => rw [List.getLast?_cons, Option.map_some, Option.getD_some, Option.getD_map]
    case isFalse => rfl

/-! ## The row (R148) -/

theorem imaged_eq_under (l : Lock) : l.imaged = l.under := by cases l <;> rfl

theorem mapEight_getElem {α β : Type} (f : Fin 8 → α → β) (v : Vector α 8) (e : Fin 8) :
    (mapEight f v)[e] = f e v[e] := by fin_cases e <;> rfl

theorem actStoreSave_busy {s : State} {im : Image} (inFlight : s.store.writing = some im) (eff : Nat) :
    actStoreSave eff s = (s, refuse .busy) := by
  simp only [actStoreSave, inFlight]

theorem actStoreSave_idle {s : State} (idle : s.store.writing = none) (eff : Nat) : actStoreSave eff s =
    ({ s with store := { s.store with mark := false, writing := some (imageOf s) } }, done) := by
  simp only [actStoreSave, idle]

/-- A STORE SAVE taken replies with its action's outcome (R148, R169). -/
theorem exec_storeSave {s t : State} {r : Req} {st : Status} (taken : s.takes r 0)
    (act : actStoreSave (max r.level.toNat s.floor) (heard r.protect s) = (heard r.protect t, ⟨st, false, []⟩)) :
    exec (.storeSave r []) s = .next (answered s t r 0x17 st) :=
  congrArg Host.Outcome.next (requestRow_replies_level taken rfl rfl act)

/-- Settles O24: the action's two branches; the image's tables are the working ones, its entries those with every trial
undone. -/
theorem storeSaveTakesTheImage : Obligations.StoreSaveTakesTheImage := by
  intro s r taken
  refine ⟨?busy, ?saves⟩
  case busy =>
    intro writing
    obtain ⟨im, inFlight⟩ := Option.isSome_iff_exists.mp writing
    exact exec_storeSave taken (actStoreSave_busy (s := heard r.protect s) inFlight _)
  case saves =>
    intro idle
    refine ⟨imageOf s, exec_storeSave taken (actStoreSave_idle (s := heard r.protect s) idle _), rfl, rfl,
      imaged_eq_under _, imaged_eq_under _, fun e => ⟨?lock, fun i => get_untried s.revert e i s.settings.profiles⟩⟩
    case lock => exact (mapEight_getElem _ _ e).trans (imaged_eq_under _)

end Sys2Proof.Proofs
end

section
/-! PROOFS. REVERT (10.5): the two refusals of a request judged against the top stack entry, and the pop. -/

namespace Sys2Proof.Proofs

open Sys2Proof.Machine

/-! ## The pop (R163) -/

/-- A pop writes the Revert Stack and the working profile entries alone; no lock is consulted. -/
theorem popTrial_eq (t : Trial) (rest : List Trial) (s : State) : popTrial t rest s =
    { s with
      revert := rest
      settings := { s.settings with
        profiles := s.settings.profiles.set t.entry (s.settings.profiles[t.entry].put t.item t.old) } } := rfl

/-- A pop neither reads nor changes what a request writes at the control port. -/
theorem popTrial_heard (t : Trial) (rest : List Trial) (b : Bool) (s : State) :
    popTrial t rest (heard b s) = heard b (popTrial t rest s) := rfl

/-! ## The action's three branches (R164) -/

theorem actRevert_empty {s : State} (empty : s.revert = []) (eff : Nat) : actRevert eff s = (s, refuse .empty) := by
  simp only [actRevert, empty]

theorem actRevert_level {s : State} {t : Trial} {rest : List Trial} {eff : Nat} (top : s.revert = t :: rest)
    (above : t.level < eff) : actRevert eff s = (s, refuse .level) := by
  simp only [actRevert, top, if_pos above]

theorem actRevert_pops {s : State} {t : Trial} {rest : List Trial} {eff : Nat} (top : s.revert = t :: rest)
    (within : eff ≤ t.level) : actRevert eff s =
      (popTrial t rest s, doneWith (be 1 t.entry.val ++ be 1 t.item.id ++ be 4 t.old ++ be 1 rest.length)) := by
  simp only [actRevert, top, if_neg within.not_gt]

/-! ## The row -/

/-- A REVERT that reaches a free port replies with its action's outcome: no fixed level stands before it (R156, R169). -/
theorem exec_revert {s t : State} {r : Req} {st : Status} {data : List Byte} (free : s.portFree)
    (level : r.level.toNat ≤ 3)
    (act : actRevert (max r.level.toNat s.floor) (heard r.protect s) = (heard r.protect t, ⟨st, false, data⟩)) :
    exec (.revert r []) s = .next (replied s t r 0x11 st false data) :=
  congrArg Host.Outcome.next (requestRow_replies free level rfl rfl act)

/-- Settles O4: an empty stack and a too high effective level refuse; otherwise the top entry's pop is the row's effect. -/
theorem revertTakesBackTheTopTrial : Obligations.RevertTakesBackTheTopTrial := by
  intro s r free level
  refine ⟨?empty, fun t rest top => ⟨?tooHigh, ?pops⟩⟩
  case empty => exact fun empty => exec_revert free level (actRevert_empty (s := heard r.protect s) empty _)
  case tooHigh => exact fun above => exec_revert free level (actRevert_level (s := heard r.protect s) top above)
  case pops =>
    intro within
    rw [← popTrial_eq t rest s]
    exact exec_revert free level
      ((actRevert_pops (s := heard r.protect s) top within).trans (congrArg (·, _) (popTrial_heard t rest r.protect s)))

end Sys2Proof.Proofs
end

section
/-! PROOFS. Which parts of the state each shared operation may touch: the closing of slots, a ratio report, a crossing, and
every recipient of a conditioned frame. -/

namespace Sys2Proof.Proofs

open Sys2Proof.Machine Sys2Proof.Laws

/-! ## Closing slots (4.3, 4.4) -/

theorem takeNext_shape (s : State) : ∃ t u, takeNext s = { s with table := t, unit := u } := by
  unfold takeNext
  split
  · exact ⟨_, _, rfl⟩
  · exact ⟨s.table, s.unit, rfl⟩

theorem closeSlot_shape (close : Sample) (f : Flags) (i : Fin 8) (s : State) :
    ∃ t u, closeSlot close f i s = { s with table := t, unit := u } := by
  obtain ⟨t, u, h⟩ := takeNext_shape (closing close f i s)
  exact ⟨t, u, by rw [closeSlot_eq, h]; rfl⟩

/-- Operations that touch the Slot Table and the Unit alone, one after another. -/
theorem foldl_shape {α : Type} (g : State → α → State) (h : ∀ s a, ∃ t u, g s a = { s with table := t, unit := u })
    (l : List α) : ∀ s : State, ∃ t u, l.foldl g s = { s with table := t, unit := u } := by
  induction l with
  | nil => exact fun s => ⟨s.table, s.unit, rfl⟩
  | cons a l ih =>
    intro s
    obtain ⟨_, _, h₁⟩ := h s a
    obtain ⟨t, u, h₂⟩ := ih (g s a)
    exact ⟨t, u, by rw [List.foldl_cons, h₂, h₁]⟩

theorem closeAll_shape (f : Flags) (s : State) : ∃ t u, closeAll f s = { s with table := t, unit := u } :=
  foldl_shape _ (fun _ _ => closeSlot_shape _ _ _ _) _ s

theorem autoClose_shape (w : Det) (n : Sample) (s : State) : ∃ t u, autoClose w n s = { s with table := t, unit := u } :=
  foldl_shape _ (fun _ _ => closeSlot_shape _ _ _ _) _ s

theorem reportSteps_shape (w : Det) (n : Sample) (ratio : Nat) (s : State) :
    ∃ t u, reportSteps w n ratio s = { s with table := t, unit := u } := by
  obtain ⟨t, u, h⟩ := autoClose_shape w n (raisePeaks w ratio s)
  exact ⟨t, u, by rw [reportSteps, h]; rfl⟩

/-! ## A detector's act (R22, R30, R59, R63) -/

theorem pair_set_get {α : Type} (p : Pair α) (w : Det) : p.set w (p.get w) = p := by
  cases w <;> rfl

@[simp] theorem pair_set_set {α : Type} (p : Pair α) (w : Det) (x y : α) : (p.set w x).set w y = p.set w y := by
  cases w <;> rfl

/-- A crossing touches the Slot Table and its detector's pending lost-trigger count (R59, R60). -/
theorem crossing_shape (w : Det) (t : Sample) (eff ratio : Nat) (s : State) :
    ∃ tb p, crossing w t eff ratio s =
      { s with table := tb, det := s.det.set w { s.det.get w with pendLost := p } } := by
  cases again : s.retriggered w t with
  | some i => exact ⟨_, (s.det.get w).pendLost, by rw [crossing_of_retriggered again, pair_set_get]; rfl⟩
  | none =>
    cases free : s.freeSlot? with
    | some i => exact ⟨_, 0, crossing_of_freeSlot again free eff ratio⟩
    | none => exact ⟨_, _, crossing_of_full again free eff ratio⟩

/-- A crossing that would retrigger a slot which this same report closes is decided before or behind the report, by a free
value; any other is decided behind it (log 3). -/
theorem crossingReport_outcomes (w : Det) (n : Sample) (eff ratio : Nat) (s : State) :
    crossingReport w n eff ratio s = crossing w n eff ratio (reportSteps w n ratio s) ∨
    (∃ i, s.retriggered w n = some i ∧ (s.slot i).close = n) ∧
      (crossingReport w n eff ratio s = crossing w n eff ratio (reportSteps w n ratio s.draw.2) ∨
        crossingReport w n eff ratio s = reportSteps w n ratio (crossing w n eff ratio s.draw.2)) := by
  cases again : s.retriggered w n with
  | none => exact .inl (by simp only [crossingReport, again])
  | some i =>
    by_cases closes : (s.slot i).close = n
    · refine .inr ⟨⟨i, rfl, closes⟩, ?_⟩
      by_cases even : Config.race s.choices % 2 = 0
      · exact .inl (by simp only [crossingReport, again, closes, if_true, State.draw, even])
      · exact .inr (by simp only [crossingReport, again, closes, if_true, State.draw, even, if_false])
    · exact .inl (by simp only [crossingReport, again, closes, if_false])

/-- A report and a crossing, whichever comes first, touch the Slot Table, the Unit, and the detector's pending count. -/
theorem crossingReport_shape (w : Det) (n : Sample) (eff ratio : Nat) (s : State) :
    ∃ tb u p c, crossingReport w n eff ratio s =
      { s with table := tb, unit := u, choices := c, det := s.det.set w { s.det.get w with pendLost := p } } := by
  have after (s : State) : ∃ tb u p, crossing w n eff ratio (reportSteps w n ratio s) =
      { s with table := tb, unit := u, det := s.det.set w { s.det.get w with pendLost := p } } := by
    obtain ⟨tb, u, h⟩ := reportSteps_shape w n ratio s
    obtain ⟨tb', p, h'⟩ := crossing_shape w n eff ratio (reportSteps w n ratio s)
    exact ⟨tb', u, p, by rw [h', h]⟩
  have before (s : State) : ∃ tb u p, reportSteps w n ratio (crossing w n eff ratio s) =
      { s with table := tb, unit := u, det := s.det.set w { s.det.get w with pendLost := p } } := by
    obtain ⟨tb, p, h⟩ := crossing_shape w n eff ratio s
    obtain ⟨tb', u, h'⟩ := reportSteps_shape w n ratio (crossing w n eff ratio s)
    exact ⟨tb', u, p, by rw [h', h]⟩
  rcases crossingReport_outcomes w n eff ratio s with h | ⟨-, h | h⟩
  · obtain ⟨tb, u, p, h'⟩ := after s
    exact ⟨tb, u, p, s.choices, by rw [h, h']⟩
  · obtain ⟨tb, u, p, h'⟩ := after s.draw.2
    exact ⟨tb, u, p, _, by rw [h, h']; rfl⟩
  · obtain ⟨tb, u, p, h'⟩ := before s.draw.2
    exact ⟨tb, u, p, _, by rw [h, h']; rfl⟩

theorem announceForced_shape (w : Det) (n : Sample) (s : State) :
    ∃ t a r, announceForced w n s = { s with table := t, assoc := a, reports := r } := by
  obtain ⟨t, a, r, h⟩ := raise_shape (.baselineForced w n) (flagForced w s)
  exact ⟨t, a, r, h⟩

/-- A detector's act leaves the detector its own processing of the frame, but for the count that a crossing moves, and
touches the Slot Table, the Unit and the reports. -/
theorem detectorFrame_shape (w : Det) (f : Conditioned) (s : State) :
    ∃ tb u a r c p, detectorFrame w f s =
      { s with table := tb, unit := u, assoc := a, reports := r, choices := c,
               det := s.det.set w { (s.outOf w f).det with pendLost := p } } := by
  have taken : ∃ tb a r, (if (s.outOf w f).forcedNow then announceForced w f.n (s.setDet w (s.outOf w f).det)
      else s.setDet w (s.outOf w f).det) =
      { s with table := tb, assoc := a, reports := r, det := s.det.set w (s.outOf w f).det } := by
    split
    · obtain ⟨t, a, r, h⟩ := announceForced_shape w f.n (s.setDet w (s.outOf w f).det)
      exact ⟨t, a, r, h⟩
    · exact ⟨s.table, s.assoc, s.reports, rfl⟩
  obtain ⟨tb, a, r, h⟩ := taken
  unfold detectorFrame
  dsimp only
  rw [h]
  split
  · split
    · obtain ⟨tb', u, p, c, h'⟩ := crossingReport_shape w f.n (s.outOf w f).eff (s.outOf w f).ratio
        { s with table := tb, assoc := a, reports := r, det := s.det.set w (s.outOf w f).det }
      exact ⟨tb', u, a, r, c, p, by rw [h']; simp only [pair_get_set, pair_set_set]⟩
    · obtain ⟨tb', u, h'⟩ := reportSteps_shape w f.n (s.outOf w f).ratio
        { s with table := tb, assoc := a, reports := r, det := s.det.set w (s.outOf w f).det }
      exact ⟨tb', u, a, r, s.choices, (s.outOf w f).det.pendLost, h'⟩
  · exact ⟨tb, s.unit, a, r, s.choices, (s.outOf w f).det.pendLost, rfl⟩

/-! ## The other recipients (R16) -/

theorem beginBlanking_shape (s : State) :
    ∃ t u, beginBlanking s = { s with table := t, unit := u, det := s.det.map Detector.toBlanked } := by
  obtain ⟨t, u, h⟩ := closeAll_shape { blanked := true, truncated := true } s
  exact ⟨t, u, by rw [beginBlanking, h]⟩

theorem blankTo_shape (e : Sample) (s : State) :
    ∃ t u d, blankTo e s = { s with
      table := t, unit := u, det := d
      chain := { s.chain with blankEnd := some ((s.chain.blankEnd.map fun cur => later cur e).getD e) } } := by
  unfold blankTo
  split
  case h_1 h =>
    obtain ⟨t, u, h'⟩ := beginBlanking_shape { s with chain := { s.chain with blankEnd := some e } }
    exact ⟨t, u, _, by rw [h', h]; rfl⟩
  case h_2 cur h => exact ⟨s.table, s.unit, s.det, by rw [h]; rfl⟩

theorem readRecentre_shape (f : Conditioned) (s : State) :
    ∃ t u d b p, readRecentre f s =
      { s with table := t, unit := u, det := d, chain := { s.chain with blankEnd := b, pauseEnd := p } } := by
  have same : ∃ t u d b p, s =
      { s with table := t, unit := u, det := d, chain := { s.chain with blankEnd := b, pauseEnd := p } } :=
    ⟨_, _, _, _, _, rfl⟩
  unfold readRecentre
  split
  · split
    · obtain ⟨t, u, d, h⟩ := blankTo_shape (after f.n s.active.tail) s
      exact ⟨t, u, d, _, s.chain.pauseEnd, h⟩
    · exact ⟨s.table, s.unit, s.det, s.chain.blankEnd, _, rfl⟩
    · exact same
  · exact same

theorem completionTest_shape (n : Sample) (s : State) :
    ∃ t d c a r du, completionTest n s =
      { s with table := t, det := d, chain := c, assoc := a, reports := r, due := du } := by
  unfold completionTest
  split
  · dsimp only
    split
    · obtain ⟨t, a, r, h⟩ := raise_shape (.warmupDone n) (enterRun { s with due := { s.due with completion := false } })
      exact ⟨t, _, _, a, r, _, h⟩
    · exact ⟨s.table, s.det, s.chain, s.assoc, s.reports, _, rfl⟩
  · exact ⟨s.table, s.det, s.chain, s.assoc, s.reports, s.due, rfl⟩

theorem afterDetectors_shape (f : Conditioned) (s : State) :
    ∃ t d c a r du, afterDetectors f s =
      { s with table := t, det := d, chain := c, assoc := a, reports := r, due := du } := by
  have same : ∃ t d c a r du, s = { s with table := t, det := d, chain := c, assoc := a, reports := r, due := du } :=
    ⟨_, _, _, _, _, _, rfl⟩
  unfold afterDetectors
  split
  case h_1 =>
    unfold afterWarmupFrame
    split
    · split
      · exact ⟨s.table, _, _, s.assoc, s.reports, s.due, rfl⟩
      · exact same
    · split
      · obtain ⟨t, d, c, a, r, du, h⟩ := completionTest_shape f.n (countBlock s)
        exact ⟨t, d, c, a, r, du, h⟩
      · exact same
  case h_2 =>
    have captured (s : State) : ∃ c, capture f.n s = { s with chain := c } := by
      unfold capture
      split
      · exact ⟨_, rfl⟩
      · exact ⟨s.chain, rfl⟩
    have first : ∃ c, (if isBlockEnd s.active.blk f.n then capture f.n s else s) = { s with chain := c } := by
      split
      · exact captured s
      · exact ⟨s.chain, rfl⟩
    obtain ⟨c, h⟩ := first
    unfold afterRunFrame
    dsimp only
    rw [h]
    split
    · exact ⟨s.table, _, _, s.assoc, s.reports, s.due, rfl⟩
    · exact ⟨s.table, s.det, c, s.assoc, s.reports, s.due, rfl⟩
  case h_3 => exact same

/-- Popped trials touch the stack and the working profile entries, and their notices what a raised notice touches. -/
theorem popExpired_profiles (n : Sample) (ts : List Trial) : ∀ s : State,
    ∃ rv ps t a r, popExpired n ts s =
      { s with revert := rv, settings := { s.settings with profiles := ps }, table := t, assoc := a, reports := r } := by
  induction ts with
  | nil => exact fun s => ⟨s.revert, s.settings.profiles, s.table, s.assoc, s.reports, rfl⟩
  | cons t rest ih =>
    intro s
    unfold popExpired
    split
    · obtain ⟨tb, a, r, h⟩ := raise_shape (.trialExpired t.entry t.item t.old) (popTrial t rest s)
      obtain ⟨rv, ps, tb', a', r', h'⟩ := ih (raise (.trialExpired t.entry t.item t.old) (popTrial t rest s))
      exact ⟨rv, ps, tb', a', r', by rw [h', h]; rfl⟩
    · exact ⟨s.revert, s.settings.profiles, s.table, s.assoc, s.reports, rfl⟩

theorem trialTests_shape (n : Sample) (s : State) :
    ∃ rv ps t a r du, trialTests n s =
      { s with revert := rv, settings := { s.settings with profiles := ps }, table := t, assoc := a, reports := r,
               due := du } := by
  unfold trialTests
  split
  · obtain ⟨rv, ps, t, a, r, h⟩ := popExpired_profiles n s.revert { s with due := { s.due with trials := false } }
    exact ⟨rv, ps, t, a, r, _, h⟩
  · exact ⟨s.revert, s.settings.profiles, s.table, s.assoc, s.reports, s.due, rfl⟩

theorem entryTests_shape (n : Sample) (s : State) : ∃ a du, entryTests n s = { s with assoc := a, due := du } := by
  unfold entryTests
  split
  · exact ⟨_, _, rfl⟩
  · exact ⟨s.assoc, s.due, rfl⟩

/-- What the recipients of a frame may touch. -/
def handled (s t : State) : Prop :=
  ∃ tb u d c a r du rv ps ch, t = { s with
    table := tb, unit := u, det := d, chain := c, assoc := a, reports := r, due := du, revert := rv, choices := ch,
    settings := { s.settings with profiles := ps } }

theorem handled_refl (s : State) : handled s s :=
  ⟨s.table, s.unit, s.det, s.chain, s.assoc, s.reports, s.due, s.revert, s.settings.profiles, s.choices, rfl⟩

theorem handled_trans {s t u : State} (h : handled s t) (h' : handled t u) : handled s u := by
  obtain ⟨_, _, _, _, _, _, _, _, _, _, rfl⟩ := h
  obtain ⟨_, _, _, _, _, _, _, _, _, _, rfl⟩ := h'
  exact ⟨_, _, _, _, _, _, _, _, _, _, rfl⟩

theorem receive_handled (f : Conditioned) (s : State) (r : Recipient) : handled s (receive f s r) := by
  cases r with
  | detector w =>
    obtain ⟨_, _, _, _, _, _, h⟩ := detectorFrame_shape w f s
    exact ⟨_, _, _, s.chain, _, _, s.due, s.revert, s.settings.profiles, _, h⟩
  | recentre =>
    obtain ⟨_, _, _, _, _, h⟩ := readRecentre_shape f s
    exact ⟨_, _, _, _, s.assoc, s.reports, s.due, s.revert, s.settings.profiles, s.choices, h⟩
  | after =>
    obtain ⟨_, _, _, _, _, _, h⟩ := afterDetectors_shape f s
    exact ⟨_, s.unit, _, _, _, _, _, s.revert, s.settings.profiles, s.choices, h⟩
  | stack =>
    obtain ⟨_, _, _, _, _, _, h⟩ := trialTests_shape f.n s
    exact ⟨_, s.unit, s.det, s.chain, _, _, _, _, _, s.choices, h⟩
  | assoc =>
    obtain ⟨a, du, h⟩ := entryTests_shape f.n s
    exact ⟨s.table, s.unit, s.det, s.chain, _, s.reports, du, s.revert, s.settings.profiles, s.choices,
      by rw [receive, h]; rfl⟩

theorem foldl_handled (f : Conditioned) (order : List Recipient) : ∀ s : State, handled s (order.foldl (receive f) s) := by
  induction order with
  | nil => exact handled_refl
  | cons r rest ih => exact fun s => handled_trans (receive_handled f s r) (ih _)

theorem deliver_handled (f : Conditioned) (s : State) : handled s (deliver f s) := by
  obtain ⟨order, drawn, -, -, h⟩ := deliver_shape f s
  rw [h]
  exact handled_trans ⟨s.table, s.unit, s.det, s.chain, s.assoc, s.reports, s.due, s.revert, s.settings.profiles, _, rfl⟩
    (foldl_handled f order _)

/-! ## The conditioned frame (R18) -/

theorem ringWrite_shape (f : Conditioned) (s : State) : ∃ t, ringWrite f s =
    { s with table := t,
             ring := (if s.ring.length < Config.ringCap then s.ring else s.ring.drop 1) ++
               [⟨f.n, f.d, f.clip, f.filled⟩] } := by
  unfold ringWrite
  split
  · exact ⟨s.table, rfl⟩
  · exact ⟨_, rfl⟩

end Sys2Proof.Proofs
end

section
/-! PROOFS. The induction behind every invariant of a step, made once: what the receiver does to a frame's bytes, what each
request does to the part, and what each command does, as conditions under which a predicate over states is kept. -/

namespace Sys2Proof.Proofs

open Sys2Proof.Machine Sys2Proof.Laws

/-! ## The receiver (R166 to R169) -/

/-- A predicate that the port's own writes and every request of the catalogue keep. -/
structure KeptByPort (P : State → Prop) : Prop where
  port : ∀ s p, (s.port.discarded ≤ 65535 → p.discarded ≤ 65535) → P s → P { s with port := p }
  protect : ∀ s b, P s → P { s with protect := b }
  action : ∀ {kind : Nat} {body : List Byte} {lens : List Nat} {act : Action} (eff : Nat) (s : State),
    catalogue kind body = some (lens, act) → P s → P (act eff s).1

namespace KeptByPort

variable {P : State → Prop} (kept : KeptByPort P)
include kept

theorem setRx {s : State} (rx : List Byte) (h : P s) : P (setRx rx s) := kept.port s _ id h

theorem setCut {s : State} (c : Bool) (h : P s) : P (setCut c s) := kept.port s _ id h

theorem countDiscard {s : State} (h : P s) : P (countDiscard s) :=
  kept.port s _ (fun _ => Nat.min_le_right _ _) h

theorem request {kind : Byte} {r : Req} {lens : List Nat} {body : List Byte} {act : Action} {s : State}
    (keeps : ∀ eff s, P s → P (act eff s).1) (h : P s) : P (request kind r lens body act s) := by
  have sampled : P (s.sampled r.protect) := kept.protect s _ h
  have dispatched : P (dispatch r lens body act (s.sampled r.protect)).1 := by
    unfold dispatch
    split
    · exact sampled
    · split
      · exact sampled
      · exact keeps _ _ sampled
  unfold Machine.request
  split
  · split
    · exact kept.countDiscard h
    · exact kept.port _ _ id dispatched
  · exact h

theorem takeFrame {kind : Byte} {r : Req} {body : List Byte} {s : State} (h : P s) : P (takeFrame kind r body s) := by
  unfold Machine.takeFrame
  split
  next known => exact kept.request (fun eff s => kept.action eff s known) h
  next => exact kept.request (fun _ _ h => h) h

theorem portLoop (b : Bool) (fuel : Nat) : ∀ {s : State}, P s → P (portLoop b fuel s) := by
  induction fuel with
  | zero => exact fun h => h
  | succ fuel ih =>
    intro s h
    unfold Machine.portLoop
    dsimp only
    split
    · exact kept.setRx _ h
    · split
      · exact ih (kept.countDiscard (kept.setRx _ h))
      · split
        · exact kept.setRx _ h
        · split
          · exact ih (kept.takeFrame (kept.setRx _ h))
          · exact ih (kept.countDiscard (kept.setRx _ h))

theorem hear {bs : List Byte} {s : State} (h : P s) : P (hear bs s) := by
  unfold Machine.hear
  dsimp only
  split
  · split
    · exact kept.countDiscard (kept.setRx _ (kept.setCut _ h))
    · exact kept.setRx _ (kept.setCut _ h)
  · exact kept.setRx _ h

theorem portBytes {b : Bool} {bs : List Byte} {s : State} (h : P s) : P (portBytes b bs s) :=
  kept.portLoop b _ (kept.hear h)

theorem abandonLoop (b : Bool) (fuel : Nat) : ∀ {s : State}, P s → P (abandonLoop b fuel s) := by
  induction fuel with
  | zero => exact fun h => h
  | succ fuel ih =>
    intro s h
    unfold Machine.abandonLoop
    split
    · exact ih (kept.portBytes (kept.countDiscard (kept.setRx _ h)))
    · unfold cutSync
      split
      · exact kept.setRx _ (kept.setCut _ h)
      · exact h

theorem requestRow {kind : Byte} {r : Req} {body : List Byte} {s : State} (h : P s) : P (requestRow kind r body s) := by
  unfold Machine.requestRow
  split
  · split
    · exact kept.takeFrame (kept.setRx _ (kept.setCut _ h))
    · exact kept.portBytes h
  · exact h

end KeptByPort

/-! ## The requests (11.3) -/

/-- A predicate that the effect of every request of the catalogue keeps. The premises of a field are what the request's own
checks have established. -/
structure KeptByRequests (P : State → Prop) : Prop where
  collect : ∀ s n, s.reports.queue ≠ [] → P s →
    P (admitAll { s with reports := { s.reports with queue := s.reports.queue.drop n } })
  holdChain : ∀ s, P s → P (holdChain s) := by intros; assumption
  runLearn : ∀ s, s.chain.st = .hold → P s → P (runLearn s).1 := by intros; assumption
  runRestore : ∀ s, s.chain.st = .hold → P s → P (runRestore s).1 := by intros; assumption
  runImmediate : ∀ s, s.chain.st = .hold → P s → P (runImmediate s).1 := by intros; assumption
  blankTo : ∀ s n e, s.chain.st = .run → s.newest = some n → P s → P (blankTo e s) := by intros; assumption
  closeSlot : ∀ s n f i, (s.slot i).st = .opened → P s → P (closeSlot n f i s) := by intros; assumption
  deferClose : ∀ s i c, (s.slot i).st = .opened → P s → P (s.setSlot i { s.slot i with close := c }) := by
    intros; assumption
  forceSlot : ∀ s n newest i, s.chain.st = .run → s.newest = some newest → s.freeSlot? = some i → P s →
    P (forceSlot n newest i s).1
  writeProfile : ∀ (s : State) (e : Fin 8) (new : Profile),
    (s.settings.profiles[e].inRange = true → new.inRange = true) → new.consistent = true → P s →
    P (discardTrials e (afterStructural s.active (s.setProfile e new))) := by intros; assumption
  selectProfile : ∀ s e, P s →
    P (afterStructural s.active { s with settings := { s.settings with active := e } }) := by intros; assumption
  profileLock : ∀ (s : State) (e : Fin 8) (l : Lock), (∀ u, s.settings.profileLock[e] ≠ .power u) → P s →
    P { s with settings := { s.settings with profileLock := s.settings.profileLock.set e l } } := by intros; assumption
  stationLock : ∀ s l, (∀ u, s.settings.stationLock ≠ .power u) → P s →
    P { s with settings := { s.settings with stationLock := l } } := by intros; assumption
  gateLock : ∀ s l, (∀ u, s.settings.gateLock ≠ .power u) → P s →
    P { s with settings := { s.settings with gateLock := l } } := by intros; assumption
  writeStation : ∀ s items m, (items.all fun iv => stationInRange iv.1 iv.2) = true →
    mapOneToOne (s.settings.station.putAll items).map = true → P s →
    P { s with settings := { s.settings with station := s.settings.station.putAll items }, dc := m } := by
      intros; assumption
  writeGate : ∀ s k body, ((gateOf body).valid = true → (gateOf body).inRange = true ∧ (gateOf body).consistent = true) →
    P s → P (s.setGate k (gateOf body)) := by intros; assumption
  adjustSet : ∀ s k v, s.settings.gates[(k : Fin 16)].valid = true → P s →
    P (adjustSet s.settings.gates[k] v s).1 := by intros; assumption
  adjustTry : ∀ s k v d eff n, s.settings.gates[(k : Fin 16)].valid = true → s.revert.length < Config.stackCap → P s →
    P (adjustTry s.settings.gates[k] v d eff n s).1 := by intros; assumption
  revert : ∀ s t rest, s.revert = t :: rest → P s → P (popTrial t rest s) := by intros; assumption
  floor : ∀ s n, s.floor ≤ n → n ≤ 3 → P s → P { s with floor := n } := by intros; assumption
  timeLabel : ∀ s l, l < Config.labelMod → P s → P { s with time := { s.time with pendLabel := some l } } := by
    intros; assumption
  snapshots : ∀ s es eb is ib, (s.chain.impSt.counted = true → is.counted = true) → P s →
    P { s with chain := { s.chain with expSt := es, expBuf := eb, impSt := is, impBuf := ib } } := by intros; assumption
  storeSave : ∀ s, s.store.writing = none → P s →
    P { s with store := { s.store with mark := false, writing := some (imageOf s) } } := by intros; assumption
  resetPending : ∀ s p, P s → P { s with resetPending := p } := by intros; assumption

/-- A lock that a transition is allowed from is not in POWER (R144). -/
theorem lockMove_some {present l : Lock} {ask : LockAsk} {pass : Bool} (h : lockMove present ask pass = some l) :
    ∀ u, present ≠ .power u := by
  rintro u rfl
  cases h

/-- The record after one of 1 to 7 is one that an import can have taken (R39). -/
theorem importedTo_counted {k : Nat} (low : k ≠ 0) (high : k ≤ 7) : (importedTo k).counted = true := by
  unfold importedTo
  split
  · rfl
  · simp only [ImportState.counted, Bool.and_eq_true, decide_eq_true_eq]
    omega

/-- What a lock transition leaves, allowed or refused (R144). -/
theorem lockOutcome_keeps {P : State → Prop} {present : Lock} {ask : LockAsk} {eff : Nat} {s : State} {put : Lock → State}
    (keeps : (∀ u, present ≠ .power u) → ∀ l, P (put l)) (h : P s) : P (lockOutcome present ask eff s put).1 := by
  unfold lockOutcome
  split
  next l moved => exact keeps (lockMove_some moved) l
  next => exact h

/-- Every item of an entry lies in its range (R138). -/
theorem inRange_iff (p : Profile) : p.inRange = true ↔ ∀ i : Item, i.inRange (p.get i) = true := by
  simp only [Profile.inRange, List.all_eq_true]
  exact ⟨fun h i => h i (mem_allItems i), fun h i _ => h i⟩

theorem inRange_put {p : Profile} {i : Item} {v : Nat} (ranged : i.inRange v = true) (h : p.inRange = true) :
    (p.put i v).inRange = true := by
  rw [inRange_iff] at h ⊢
  intro j
  rw [get_put]
  split
  next same => exact same ▸ ranged
  next => exact h j

namespace KeptByRequests

variable {P : State → Prop} (kept : KeptByRequests P)
include kept

theorem actCollect (body : List Byte) (eff : Nat) {s : State} (h : P s) : P (actCollect body eff s).1 := by
  unfold Machine.actCollect
  dsimp only
  split
  · exact h
  · split
    · exact h
    next filled => exact kept.collect s _ (mt List.isEmpty_iff.mpr filled) h

theorem actRun (body : List Byte) (eff : Nat) {s : State} (h : P s) : P (actRun body eff s).1 := by
  unfold Machine.actRun
  dsimp only
  split
  · exact h
  · split
    · exact h
    next hold =>
      have hold := not_not.mp hold
      split
      · exact kept.runLearn s hold h
      · split
        · exact kept.runRestore s hold h
        · exact kept.runImmediate s hold h

theorem actBlank (body : List Byte) (eff : Nat) {s : State} (h : P s) : P (actBlank body eff s).1 := by
  unfold Machine.actBlank
  split
  next n run newest =>
    dsimp only
    split
    · exact h
    · exact kept.blankTo s n _ run newest h
  next => exact h

theorem actSlotClose (body : List Byte) (eff : Nat) {s : State} (h : P s) : P (actSlotClose body eff s).1 := by
  unfold Machine.actSlotClose
  split
  · exact h
  · split
    next isOpen =>
      unfold hostClose
      dsimp only
      split
      · exact kept.closeSlot s _ _ _ isOpen h
      · exact kept.deferClose s _ _ isOpen h
    next => exact h

theorem actSlotForce (body : List Byte) (eff : Nat) {s : State} (h : P s) : P (actSlotForce body eff s).1 := by
  unfold Machine.actSlotForce
  dsimp only
  split
  next newest run n =>
    split
    · exact h
    · split
      · exact h
      · split
        · exact h
        next i free => exact kept.forceSlot s _ _ i run n free h
  next => exact h

theorem writeProfile_fst {e : Fin 8} {new : Profile} {cls : Nat} {ranged : Bool} {eff : Nat} {s : State}
    (range : ranged = true → s.settings.profiles[e].inRange = true → new.inRange = true) (h : P s) :
    P (Machine.writeProfile e new cls ranged eff s).1 := by
  unfold Machine.writeProfile
  dsimp only
  split
  · exact h
  · split
    · exact h
    · split
      · exact h
      · split
        · exact h
        next inside =>
          split
          · exact h
          next consistent =>
            simp only [Bool.not_eq_true', Bool.not_eq_false] at inside consistent
            exact kept.writeProfile s e new (range inside) consistent h

theorem actProfileWrite (body : List Byte) (eff : Nat) {s : State} (h : P s) : P (actProfileWrite body eff s).1 := by
  unfold Machine.actProfileWrite
  split
  · exact h
  · dsimp only
    split
    · split
      · exact h
      · exact kept.writeProfile_fst inRange_put h
    · exact kept.writeProfile_fst (fun ranged _ => ranged) h

theorem actProfileSelect (body : List Byte) (eff : Nat) {s : State} (h : P s) : P (actProfileSelect body eff s).1 := by
  unfold Machine.actProfileSelect
  split
  · exact h
  · split
    · exact h
    · exact kept.selectProfile s _ h

theorem actProfileLock (body : List Byte) (eff : Nat) {s : State} (h : P s) : P (actProfileLock body eff s).1 := by
  unfold Machine.actProfileLock
  dsimp only
  split
  · exact h
  · split
    · exact lockOutcome_keeps (fun free l => kept.profileLock s _ l free h) h
    · split
      · exact lockOutcome_keeps (fun free l => kept.stationLock s l free h) h
      · split
        · exact lockOutcome_keeps (fun free l => kept.gateLock s l free h) h
        · exact h

theorem actStationWrite (body : List Byte) (eff : Nat) {s : State} (h : P s) : P (actStationWrite body eff s).1 := by
  unfold Machine.actStationWrite
  dsimp only
  split
  · exact h
  · split
    · exact h
    · split
      · exact h
      next ranged =>
        split
        · exact h
        next oneToOne =>
          simp only [Bool.not_eq_true', Bool.not_eq_false] at ranged oneToOne
          exact kept.writeStation s _ _ ranged oneToOne h

theorem actGateWrite (body : List Byte) (eff : Nat) {s : State} (h : P s) : P (actGateWrite body eff s).1 := by
  unfold Machine.actGateWrite
  split
  · exact h
  · dsimp only
    split
    · exact h
    · split
      · exact h
      · split
        · exact h
        next ranged =>
          split
          · exact h
          next consistent =>
            refine kept.writeGate s _ body (fun valid => ?_) h
            simpa [valid] using And.intro ranged consistent

theorem actAdjust (body : List Byte) (eff : Nat) {s : State} (h : P s) : P (actAdjust body eff s).1 := by
  unfold Machine.actAdjust
  dsimp only
  split
  · exact h
  next k _ =>
    split
    · exact h
    · split
      · exact h
      next valid =>
        simp only [Bool.not_eq_true', Bool.not_eq_false] at valid
        split
        · exact h
        · split
          · exact h
          · split
            · exact h
            · split
              · exact kept.adjustSet s k _ valid h
              · split
                · exact h
                next room =>
                  split
                  · exact h
                  · exact kept.adjustTry s k _ _ _ _ valid (Nat.lt_of_not_le room) h

theorem actRevert (eff : Nat) {s : State} (h : P s) : P (actRevert eff s).1 := by
  unfold Machine.actRevert
  split
  · exact h
  next t rest top =>
    split
    · exact h
    · exact kept.revert s t rest top h

theorem actFloor (body : List Byte) (eff : Nat) {s : State} (h : P s) : P (actFloor body eff s).1 := by
  unfold Machine.actFloor
  dsimp only
  split
  · exact h
  next high =>
    split
    · exact h
    next low => exact kept.floor s _ (Nat.le_of_not_lt low) (Nat.le_of_not_lt high) h

theorem actTimeLabel (body : List Byte) (eff : Nat) {s : State} (h : P s) : P (actTimeLabel body eff s).1 := by
  unfold Machine.actTimeLabel
  dsimp only
  split
  · exact h
  next label => exact kept.timeLabel s _ (Nat.lt_of_not_le label) h

omit kept in
theorem actSnapshotRead (body : List Byte) (eff : Nat) {s : State} (h : P s) : P (actSnapshotRead body eff s).1 := by
  unfold Machine.actSnapshotRead
  dsimp only
  split
  · exact h
  · split <;> exact h

theorem actSnapshotWrite (body : List Byte) (eff : Nat) {s : State} (h : P s) : P (actSnapshotWrite body eff s).1 := by
  have bad {s : State} (ib : Snapshot) (h : P s) : P (badImport { s with chain := { s.chain with impBuf := ib } }) :=
    kept.snapshots s s.chain.expSt s.chain.expBuf .invalid ib (fun _ => rfl) h
  unfold Machine.actSnapshotWrite
  dsimp only
  split
  · exact h
  · split
    · exact bad s.chain.impBuf h
    next place =>
      have place := not_or.mp place
      split
      · exact bad s.chain.impBuf h
      · split
        · exact kept.snapshots s s.chain.expSt s.chain.expBuf _ _
            (fun _ => importedTo_counted place.1 (Nat.le_of_not_lt place.2)) h
        · exact bad _ h

theorem actStoreSave (eff : Nat) {s : State} (h : P s) : P (actStoreSave eff s).1 := by
  unfold Machine.actStoreSave
  split
  · exact h
  next idle => exact kept.storeSave s idle h

theorem actReset (eff : Nat) {s : State} (h : P s) : P (actReset eff s).1 := by
  unfold Machine.actReset
  split
  · exact h
  · exact kept.resetPending s _ h

omit kept in
theorem needLevel {n : Nat} {act : Action} (keeps : ∀ eff s, P s → P (act eff s).1) (eff : Nat) (s : State) (h : P s) :
    P (Machine.needLevel n act eff s).1 := by
  unfold Machine.needLevel
  split
  · exact keeps eff s h
  · exact h

/-- Every request of the catalogue keeps what their effects keep. -/
theorem action {kind : Nat} {body : List Byte} {lens : List Nat} {act : Action} (eff : Nat) (s : State)
    (known : catalogue kind body = some (lens, act)) (h : P s) : P (act eff s).1 := by
  unfold catalogue at known
  split at known <;> (try cases known)
  case h_1 => exact needLevel (fun _ _ h => h) eff s h
  case h_2 => exact needLevel (fun eff _ => kept.actCollect body eff) eff s h
  case h_3 => exact needLevel (fun _ s h => kept.holdChain s h) eff s h
  case h_4 => exact needLevel (fun eff _ => kept.actRun body eff) eff s h
  case h_5 => exact needLevel (fun eff _ => kept.actBlank body eff) eff s h
  case h_6 => exact needLevel (fun eff _ => kept.actSlotClose body eff) eff s h
  case h_7 => exact needLevel (fun eff _ => kept.actSlotForce body eff) eff s h
  case h_8 => exact needLevel (fun eff s h => by unfold actProfileRead; split <;> exact h) eff s h
  case h_9 => exact kept.actProfileWrite body eff h
  case h_10 => exact needLevel (fun eff _ => kept.actProfileSelect body eff) eff s h
  case h_11 => exact needLevel (fun eff _ => kept.actProfileLock body eff) eff s h
  case h_12 => exact needLevel (fun _ _ h => h) eff s h
  case h_13 => exact needLevel (fun eff _ => kept.actStationWrite body eff) eff s h
  case h_14 => exact needLevel (fun eff s h => by unfold actGateRead; split <;> exact h) eff s h
  case h_15 => exact needLevel (fun eff _ => kept.actGateWrite body eff) eff s h
  case h_16 => exact kept.actAdjust body eff h
  case h_17 => exact kept.actRevert eff h
  case h_18 => exact kept.actFloor body eff h
  case h_19 => exact needLevel (fun eff _ => kept.actTimeLabel body eff) eff s h
  case h_20 => exact needLevel (fun _ s h => kept.snapshots s .pending blankSnapshot s.chain.impSt s.chain.impBuf id h) eff s h
  case h_21 => exact needLevel (fun eff _ => actSnapshotRead body eff) eff s h
  case h_22 => exact needLevel (fun eff _ => kept.actSnapshotWrite body eff) eff s h
  case h_23 => exact needLevel (fun eff _ => kept.actStoreSave eff) eff s h
  case h_24 => exact needLevel (fun eff _ => kept.actReset eff) eff s h

end KeptByRequests

/-! ## The commands (0.2) -/

/-- A predicate that every event keeps which is neither a request nor part of a reset. -/
structure KeptByEvents (P : State → Prop) : Prop where
  clock : ∀ s c, P s → P { s with clock := c } := by intros; assumption
  draw : ∀ s, P s → P s.draw.2 := by intros; assumption
  loseLink : ∀ s due, P s → P (loseLink due s) := by intros; assumption
  missPulse : ∀ s, P s → P (missPulse s) := by intros; assumption
  pulseEdge : ∀ s now, P s → P (pulseEdge now s) := by intros; assumption
  receiver : ∀ s rx bad, (s.intake.bad ≤ 65535 → bad ≤ 65535) → P s →
    P { s with intake := { s.intake with rx := rx, bad := bad } } := by intros; assumption
  goodFrame : ∀ s now f, P s → P (goodFrame now f s) := by intros; assumption
  completionTest : ∀ s n, s.chain.st = .warmup → P s → P (completionTest n s) := by intros; assumption
  autoClose : ∀ s w n, s.chain.st = .run → s.newest = some n → P s → P (autoClose w n s) := by intros; assumption
  endBlanking : ∀ s, s.chain.st = .run → s.chain.blankEnd.isSome → P s → P (endBlanking s) := by intros; assumption
  endPause : ∀ s, s.chain.st = .warmup → P s → P (endPause s) := by intros; assumption
  entryTests : ∀ s n, P s → P (entryTests n s) := by intros; assumption
  trialTests : ∀ s n, P s → P (trialTests n s) := by intros; assumption
  stage : ∀ s u v, s.unit = some u → v.slot = u.slot → P s → P { s with unit := some v } := by intros; assumption
  completeRefinement : ∀ s u o p k, s.unit = some u → P s → P (completeRefinement u o p k s) := by intros; assumption
  admitItem : ∀ s w, s.oldestWaiting = some w → s.placesFor w ≤ s.places → P s → P (admitItem w s) := by
    intros; assumption
  blockedAttempt : ∀ s w, P s → P (blockedAttempt w s) := by intros; assumption

/-- Is a command one that ends the power, moves the RESET line, or may let a reset take effect? -/
def endsOrResets : Instr → Bool
  | .storeSaveCompletion => true
  | .powerOn _ => true
  | .resetLine _ _ => true
  | .resetTakesEffect => true
  | .replyComplete => true
  | .powerLoss => true
  | _ => false

/-- A command that is a request is its frame's row. -/
theorem exec_request {c : Instr} {kind : Byte} {r : Req} {body : List Byte} (h : requestOf c = some (kind, r, body))
    (s : State) : exec c s = .next (requestRow kind r body s) := by
  cases c <;> first | (cases h; rfl) | cases h

namespace KeptByEvents

variable {P : State → Prop} (kept : KeptByEvents P)
include kept

theorem runTimers (t fuel : Nat) : ∀ {s : State}, P s → P (runTimers t fuel s) := by
  induction fuel with
  | zero => exact fun h => h
  | succ fuel ih =>
    intro s h
    unfold Machine.runTimers
    split
    next => exact h
    next a _ _ => exact ih (kept.loseLink s a h)
    next => exact ih (kept.missPulse s h)
    next a b _ _ =>
      split
      · exact ih (kept.loseLink s a h)
      · split
        · exact ih (kept.missPulse s h)
        · dsimp only
          refine ih ?_
          split
          · exact kept.loseLink s.draw.2 a (kept.draw s h)
          · exact kept.missPulse s.draw.2 (kept.draw s h)

theorem advanceTo (t : Nat) {s : State} (h : P s) : P (advanceTo t s) := kept.clock _ _ (kept.runTimers t _ h)

theorem intakeLoop (now fuel : Nat) : ∀ {s : State}, P s → P (intakeLoop now fuel s) := by
  induction fuel with
  | zero => exact fun h => h
  | succ fuel ih =>
    intro s h
    unfold Machine.intakeLoop
    dsimp only
    split
    · exact kept.receiver s _ s.intake.bad id h
    · split
      · exact ih (kept.goodFrame _ _ _ (kept.receiver s _ s.intake.bad id h))
      · exact ih (kept.receiver s _ _ (fun _ => Nat.min_le_right _ _) h)

theorem takeBytes (now : Nat) (bs : List Byte) {s : State} (h : P s) : P (takeBytes now bs s) :=
  kept.intakeLoop now _ (kept.receiver s _ s.intake.bad id h)

/-- A command that is neither a request nor part of a reset has a next state, which keeps what its events keep. -/
theorem exec_event {c : Instr} (event : requestOf c = none) (noReset : endsOrResets c = false)
    (port : KeptByPort P) {s : State} (h : P s) : ∃ t, exec c s = .next t ∧ P t := by
  cases c
  case sampleFrame bytes tick =>
    refine ⟨_, rfl, ?_⟩
    split
    · exact kept.takeBytes _ _ (kept.advanceTo _ h)
    · exact h
  case warmupCompletion =>
    refine ⟨_, rfl, ?_⟩
    split
    next n _ warmup _ => exact kept.completionTest s n warmup h
    next => exact h
  case autoClose w =>
    refine ⟨_, rfl, ?_⟩
    split
    next n _ run newest => exact kept.autoClose s w n run newest h
    next => exact h
  case blankingEnd =>
    refine ⟨_, rfl, ?_⟩
    split
    next n _ run _ =>
      split
      next atEnd => exact kept.endBlanking s run (by rw [isAt, beq_iff_eq] at atEnd; rw [atEnd]; rfl) h
      next => exact h
    next => exact h
  case warmupPauseEnd =>
    refine ⟨_, rfl, ?_⟩
    split
    next warmup _ =>
      split
      · exact kept.endPause s warmup h
      · exact h
    next => exact h
  case entryExpiry =>
    refine ⟨_, rfl, ?_⟩
    split
    · exact kept.entryTests s _ h
    · exact h
  case trialExpiry =>
    refine ⟨_, rfl, ?_⟩
    split
    · exact kept.trialTests s _ h
    · exact h
  case linkLoss =>
    refine ⟨_, rfl, ?_⟩
    split
    · exact kept.loseLink _ _ (kept.runTimers _ _ h)
    · exact h
  case pulseEdge tick =>
    refine ⟨_, rfl, ?_⟩
    split
    · exact kept.pulseEdge _ _ (kept.advanceTo _ h)
    · exact h
  case missingPulse =>
    refine ⟨_, rfl, ?_⟩
    split
    · exact kept.missPulse _ (kept.runTimers _ _ h)
    · exact h
  case onsetSearch =>
    refine ⟨_, rfl, ?_⟩
    split
    next u _ unit =>
      split
      · exact kept.stage s u _ unit rfl h
      · exact h
    next => exact h
  case polarization =>
    refine ⟨_, rfl, ?_⟩
    split
    next u _ unit =>
      split
      · exact kept.stage s u _ unit rfl h
      · exact h
    next => exact h
  case peaksAndCounts =>
    refine ⟨_, rfl, ?_⟩
    split
    next u _ unit =>
      split
      · exact kept.stage s u _ unit rfl h
      · exact h
    next => exact h
  case refinementCompletion =>
    refine ⟨_, rfl, ?_⟩
    split
    next u _ unit =>
      split
      · exact kept.completeRefinement s u _ _ _ unit h
      · exact h
    next => exact h
  case pickAdmission =>
    refine ⟨_, rfl, ?_⟩
    split
    · split
      next i oldest =>
        split
        next fits => exact kept.admitItem s (.pick i) oldest fits h
        next => exact kept.blockedAttempt s _ h
      next => exact h
    · exact h
  case noticeAdmission =>
    refine ⟨_, rfl, ?_⟩
    split
    · split
      next k oldest =>
        split
        next fits => exact kept.admitItem s (.notice k) oldest fits h
        next => exact kept.blockedAttempt s _ h
      next => exact h
    · exact h
  case controlFrameDiscard bytes protect =>
    refine ⟨_, rfl, ?_⟩
    split
    · exact port.portBytes h
    · exact h
  case controlFrameAbandoned protect =>
    refine ⟨_, rfl, ?_⟩
    split
    · exact port.abandonLoop _ _ h
    · exact h
  all_goals simp [requestOf, endsOrResets] at event noReset

end KeptByEvents

/-- A predicate that a loss of power, the RESET line, a completed save and a reset keep. -/
structure KeptByResets (P : State → Prop) : Prop where
  losePower : ∀ s, P s → P (losePower s) := by intros; assumption
  lines : ∀ s b low p, P s → P { s with straps := b, resetLow := low, resetPending := p } := by intros; assumption
  saved : ∀ s im, s.store.writing = some im → P s → P { s with store := ⟨im, true, none, false⟩ } := by
    intros; assumption
  doReset : ∀ s k, s.store.writing = none → P s → P (doReset k s)

/-- A loss of power leaves no save in flight (R150). -/
theorem losePower_idle (s : State) : (losePower s).store.writing = none := by
  unfold losePower
  dsimp only
  split
  next idle => exact idle
  next => rfl

namespace KeptByResets

variable {P : State → Prop} (kept : KeptByResets P)
include kept

theorem tryReset {s : State} (h : P s) : P (tryReset s) := by
  unfold Machine.tryReset
  split
  next idle => exact kept.doReset s _ idle h
  next => exact h

/-- A command of this kind has a next state, which keeps what they keep. -/
theorem exec_reset {c : Instr} (resets : endsOrResets c = true) (port : KeptByPort P) {s : State} (h : P s) :
    ∃ t, exec c s = .next t ∧ P t := by
  cases c
  case storeSaveCompletion =>
    refine ⟨_, rfl, ?_⟩
    split
    next im _ writing => exact kept.tryReset (kept.saved s im writing h)
    next => exact h
  case powerOn b =>
    have straps : P { Machine.losePower s with straps := b } :=
      kept.lines _ b (Machine.losePower s).resetLow (Machine.losePower s).resetPending (kept.losePower s h)
    exact ⟨_, rfl, kept.doReset _ .powerOn (losePower_idle s) straps⟩
  case resetLine low b =>
    refine ⟨_, rfl, ?_⟩
    split
    · unfold assertLine
      dsimp only
      split
      · exact kept.lines s b true _ h
      · exact kept.lines s b true s.resetPending h
    · unfold releaseLine
      split
      · exact kept.tryReset (kept.lines s b false _ h)
      · exact kept.lines s b s.resetLow s.resetPending h
    · exact kept.lines s b _ s.resetPending h
  case resetTakesEffect =>
    refine ⟨_, rfl, ?_⟩
    split
    next idle => exact kept.doReset s .request idle h
    next idle => exact kept.doReset s .line idle h
    next => exact h
  case replyComplete =>
    refine ⟨_, rfl, ?_⟩
    split
    · have sent : P { s with port := { s.port with busy := none } } := port.port s _ id h
      unfold completeReply
      dsimp only
      split
      · exact kept.tryReset (kept.lines _ s.straps s.resetLow _ sent)
      · exact sent
    · exact h
  case powerLoss => exact ⟨_, rfl, kept.losePower s h⟩
  all_goals cases resets

end KeptByResets

/-- What a predicate must be kept by to be kept by every step. -/
structure Kept (P : State → Prop) : Prop where
  port : ∀ s p, (s.port.discarded ≤ 65535 → p.discarded ≤ 65535) → P s → P { s with port := p }
  protect : ∀ s b, P s → P { s with protect := b }
  requests : KeptByRequests P
  events : KeptByEvents P

namespace Kept

variable {P : State → Prop} (kept : Kept P)
include kept

theorem byPort : KeptByPort P := ⟨kept.port, kept.protect, kept.requests.action⟩

/-- Every command but those that end the power or reset has a next state, which keeps what they keep. -/
theorem exec {c : Instr} (noReset : endsOrResets c = false) {s : State} (h : P s) : ∃ t, exec c s = .next t ∧ P t := by
  cases row : requestOf c with
  | none => exact kept.events.exec_event row noReset kept.byPort h
  | some x => exact ⟨_, exec_request row s, kept.byPort.requestRow h⟩

/-- Every command has a next state, which keeps what they and the resets keep. -/
theorem exec_all (resets : KeptByResets P) (c : Instr) {s : State} (h : P s) :
    ∃ t, Machine.exec c s = .next t ∧ P t := by
  cases kind : endsOrResets c with
  | false => exact kept.exec kind h
  | true => exact resets.exec_reset kind kept.byPort h

/-- Every step keeps a predicate that its commands keep and that does not read the queue of commands. -/
theorem step (resets : KeptByResets P) (pending : ∀ s q, P s → P { s with pending := q }) {s t : State} (h : P s)
    (stepped : Machine.step s = .next t) : P t := by
  unfold Machine.step at stepped
  split at stepped
  next => cases stepped; exact h
  next c rest _ =>
    obtain ⟨u, ran, hu⟩ := kept.exec_all resets c (pending s rest h)
    rw [ran] at stepped
    cases stepped
    exact hu

end Kept

end Sys2Proof.Proofs
end

section
/-! PROOFS. The parts that events and the chain's requests write, as conditions under which a predicate over states is kept:
a conjunction of such conditions is easier to meet than one on each whole event. -/

namespace Sys2Proof.Proofs

open Sys2Proof.Machine Sys2Proof.Laws

/-! ## Counts of a detector (R28, R60) -/

theorem hold_counted {last : Bool} {d : Detector} (h : d.counted) : (d.hold last).counted := by
  unfold Detector.hold
  split <;> exact h

theorem toBlanked_counted {d : Detector} (h : d.counted) : d.toBlanked.counted := by
  unfold Detector.toBlanked
  split
  · exact h
  · exact ⟨Nat.zero_le _, h.2⟩
  · exact h

theorem quietStep_counted {p : DetParams} {e : Nat} {last : Bool} {d : Detector} (h : d.counted) :
    (quietStep p e last d).det.counted := by
  have settled : (if last then ((d.take p.sta e).applyBlock p.lta).endBlock else d.take p.sta e).counted := by
    split <;> exact h
  unfold quietStep plainOut
  dsimp only
  generalize (if last then ((d.take p.sta e).applyBlock p.lta).endBlock else d.take p.sta e) = d' at settled ⊢
  split
  · exact ⟨Nat.zero_le _, settled.2⟩
  · exact settled

theorem settleTriggered_counted {c : Nat} {d : Detector} (h : d.counted) : (d.settleTriggered c).counted := by
  unfold Detector.settleTriggered
  split
  · exact h
  · split
    next room => exact ⟨room, h.2⟩
    next => exact h

theorem triggeredStep_counted {p : DetParams} {e : Nat} {last : Bool} {d : Detector} (h : d.counted) :
    (triggeredStep p e last d).det.counted := by
  have taken : (if last then (d.take p.sta e).settleTriggered p.lta else d.take p.sta e).counted := by
    split
    · exact settleTriggered_counted h
    · exact h
  unfold triggeredStep plainOut
  dsimp only
  generalize (if last then (d.take p.sta e).settleTriggered p.lta else d.take p.sta e) = d' at taken ⊢
  split
  · exact ⟨Nat.zero_le _, taken.2⟩
  · exact taken

theorem detStep_counted {w : Det} {prof : Profile} {paused : Bool} {f : Conditioned} {d : Detector} (h : d.counted) :
    (detStep w prof paused f d).det.counted := by
  unfold detStep
  dsimp only
  split
  · exact h
  · exact hold_counted h
  · split
    · exact hold_counted h
    · unfold warmingStep
      dsimp only [plainOut]
      split <;> exact h
  · split
    · exact hold_counted (toBlanked_counted h)
    · exact quietStep_counted h
  · split
    · exact hold_counted (toBlanked_counted h)
    · exact triggeredStep_counted h

theorem ratioOf_le (p : DetParams) (d : Detector) : ratioOf p d ≤ 65535 := Nat.min_le_right _ _

/-- A ratio that a detector reports is capped (R24). -/
theorem detStep_ratio_le (w : Det) (prof : Profile) (paused : Bool) (f : Conditioned) (d : Detector) :
    (detStep w prof paused f d).ratio ≤ 65535 := by
  unfold detStep quietStep triggeredStep warmingStep plainOut
  dsimp only
  repeat' split
  all_goals exact ratioOf_le _ _

theorem enterRun_counted {p : DetParams} {d : Detector} (h : d.counted) : (d.enterRun p).counted :=
  ⟨Nat.zero_le _, h.2⟩

theorem unblank_counted {p : DetParams} {d : Detector} (h : d.counted) : (unblank p d).counted := by
  unfold unblank
  split
  · exact enterRun_counted h
  · exact h

/-! ## The parts -/

/-- What an event other than an admission makes of a slot: its counts stay in range, and a slot that is DONE was, with the
same record and order. -/
def mayBecome (d : Pair Detector) (x y : Slot) : Prop :=
  (d.z.counted → d.h.counted → x.counted = true → y.counted = true) ∧
  (y.st = .done → x.st = .done ∧ y.record = x.record ∧ y.order = x.order)

theorem mayBecome_refl (d : Pair Detector) (x : Slot) : mayBecome d x x := ⟨fun _ _ h => h, fun h => ⟨h, rfl, rfl⟩⟩

/-- A predicate that every part kept by the events of the sample link, the chain and the slots is written without loss. -/
structure KeptByParts (P : State → Prop) : Prop where
  raise : ∀ d s, P s → P (raise d s)
  enterDone : ∀ s i rec, ((s.slot i).counted = true → (Record.pick rec).counted = true) → P s → P (enterDone i rec s)
  table : ∀ (s : State) t u, (∀ i : Fin 8, mayBecome s.det (s.slot i) t.slots[i]) →
    (∀ w, s.table.lost.get w ≤ 65535 → t.lost.get w ≤ 65535) → P s → P { s with table := t, unit := u } := by
    intros; assumption
  det : ∀ (s : State) d, (s.det.z.counted → s.det.h.counted → d.z.counted ∧ d.h.counted) → P s →
    P { s with det := d } := by intros; assumption
  chain : ∀ (s : State) c, (s.chain.impSt.counted = true → c.impSt.counted = true) → P s → P { s with chain := c } := by
    intros; assumption
  assoc : ∀ (s : State) a, P s → P { s with assoc := a } := by intros; assumption
  ring : ∀ (s : State) r, (s.ring.length ≤ Config.ringCap → r.length ≤ Config.ringCap) → P s → P { s with ring := r } := by
    intros; assumption
  link : ∀ (s : State) i, (s.intake.bad ≤ 65535 → i.bad ≤ 65535) → (s.intake.stale ≤ 65535 → i.stale ≤ 65535) →
    (s.intake.filled ≤ 65535 → i.filled ≤ 65535) → (s.intake.gaps ≤ 65535 → i.gaps ≤ 65535) → P s →
    P { s with intake := i } := by intros; assumption
  lastFrame : ∀ (s : State) x, P s → P { s with time := { s.time with lastFrame := x } } := by intros; assumption
  conditioner : ∀ (s : State) m n, P s → P { s with dc := m, newest := n } := by intros; assumption
  due : ∀ (s : State) d, P s → P { s with due := d } := by intros; assumption
  clock : ∀ (s : State) c, P s → P { s with clock := c } := by intros; assumption
  choices : ∀ (s : State) c, P s → P { s with choices := c } := by intros; assumption
  popTrial : ∀ s t rest, s.revert = t :: rest → P s → P (popTrial t rest s) := by intros; assumption

namespace KeptByParts

variable {P : State → Prop} (kept : KeptByParts P)
include kept

theorem draw {s : State} (h : P s) : P s.draw.2 := kept.choices s _ h

theorem writeChain {s : State} (h : P s) (c : Chain) (counts : s.chain.impSt.counted = true → c.impSt.counted = true) :
    P { s with chain := c } := kept.chain s c counts h

theorem writeDet {s : State} (h : P s) (d : Pair Detector)
    (counts : s.det.z.counted → s.det.h.counted → d.z.counted ∧ d.h.counted) : P { s with det := d } :=
  kept.det s d counts h

/-! ### Slots (chapters 3 and 4) -/

theorem setSlot {s : State} {i : Fin 8} {y : Slot} (becomes : mayBecome s.det (s.slot i) y) (h : P s) :
    P (s.setSlot i y) := by
  refine kept.table s (s.setSlot i y).table s.unit (fun j => ?_) (fun _ l => l) h
  change mayBecome s.det (s.slot j) ((s.setSlot i y).slot j)
  by_cases same : j = i
  · rw [same, setSlot_slot_self]
    exact becomes
  · rw [setSlot_slot_ne s y same]
    exact mayBecome_refl _ _

theorem mapSlots {s : State} {f : Fin 8 → Slot → Slot} (becomes : ∀ i, mayBecome s.det (s.slot i) (f i (s.slot i)))
    (h : P s) : P (s.mapSlots f) := by
  refine kept.table s (s.mapSlots f).table s.unit (fun i => ?_) (fun _ l => l) h
  change mayBecome s.det (s.slot i) ((s.mapSlots f).slot i)
  rw [mapSlots_slot]
  exact becomes i

/-- The Slot Table's other records and the Unit. -/
theorem aside {s : State} (q : List (Fin 8)) (r : Pair (Option (Fin 8 × Sample))) (u : Option RefineUnit) (h : P s) :
    P { s with table := { s.table with queue := q, recent := r }, unit := u } :=
  kept.table s _ u (fun _ => mayBecome_refl _ _) (fun _ l => l) h

theorem takeNext {s : State} (h : P s) : P (takeNext s) := by
  unfold Machine.takeNext
  split
  next i rest _ _ =>
    exact kept.aside rest _ _ (kept.setSlot (y := { s.slot i with st := .refining }) ⟨fun _ _ h => h, nofun⟩ h)
  next => exact h

theorem closeSlot {s : State} (close : Sample) (f : Flags) (i : Fin 8) (h : P s) : P (closeSlot close f i s) := by
  have closed : P (s.setSlot i (closedSlot s (s.slot i) close f)) := kept.setSlot ⟨fun _ _ h => h, nofun⟩ h
  have recent : P (clearRecent i (s.setSlot i (closedSlot s (s.slot i) close f))) := kept.aside s.table.queue _ s.unit closed
  exact kept.takeNext (kept.aside (s.table.queue ++ [i]) _ s.unit recent)

omit kept in
theorem fold {α : Type} {g : State → α → State} (keeps : ∀ s a, P s → P (g s a)) (l : List α) :
    ∀ s, P s → P (l.foldl g s) := by
  induction l with
  | nil => exact fun _ h => h
  | cons a l ih => exact fun s h => ih _ (keeps s a h)

theorem closeAll {s : State} (f : Flags) (h : P s) : P (closeAll f s) :=
  fold (fun _ _ h => kept.closeSlot _ _ _ h) _ s h

theorem autoClose {s : State} (w : Det) (n : Sample) (h : P s) : P (autoClose w n s) :=
  fold (fun _ _ h => kept.closeSlot _ _ _ h) _ s h

theorem reportSteps {s : State} (w : Det) (n : Sample) {ratio : Nat} (capped : ratio ≤ 65535) (h : P s) :
    P (reportSteps w n ratio s) := by
  refine kept.autoClose w n (kept.mapSlots (fun i => ?_) h)
  split
  next opened =>
    simp only [Bool.and_eq_true, beq_iff_eq] at opened
    refine ⟨fun _ _ counts => ?_, fun done => absurd (opened.1.symm.trans done) nofun⟩
    simp only [Slot.counted, Bool.and_eq_true, decide_eq_true_eq] at counts ⊢
    exact ⟨⟨⟨Nat.max_le.mpr ⟨counts.1.1.1, capped⟩, counts.1.1.2⟩, counts.1.2⟩, counts.2⟩
  next => exact mayBecome_refl _ _

theorem setDet {s : State} {w : Det} {d : Detector} (counts : (s.det.get w).counted → d.counted) (h : P s) :
    P (s.setDet w d) := by
  refine kept.det s _ (fun z h => ?_) h
  cases w
  · exact ⟨counts z, h⟩
  · exact ⟨z, counts h⟩

theorem detMap {s : State} {g : Detector → Detector} (counts : ∀ d, d.counted → (g d).counted) (h : P s) :
    P { s with det := s.det.map g } :=
  kept.det s _ (fun z h => ⟨counts _ z, counts _ h⟩) h

omit kept in
theorem openSlot_becomes {d : Pair Detector} {s : State} {x : Slot} {cls : SlotClass} {t : Sample} {lta ratio lost : Nat}
    {forced : Bool} (capped : ratio ≤ 65535) (bounded : d.z.counted → d.h.counted → lost ≤ 65535) :
    mayBecome d x (openSlot s cls t lta ratio lost forced) := by
  refine ⟨fun z h _ => ?_, nofun⟩
  simp [Slot.counted, openSlot, capped, bounded z h]

theorem openFor {s : State} {w : Det} {t : Sample} {eff ratio : Nat} {i : Fin 8} (capped : ratio ≤ 65535) (h : P s) :
    P (openFor w t eff ratio i s) := by
  have lost (z : s.det.z.counted) (h : s.det.h.counted) : (s.det.get w).pendLost ≤ 65535 := by
    cases w
    · exact z.2
    · exact h.2
  unfold Machine.openFor
  dsimp only
  refine kept.aside (s := State.setDet _ _ _) s.table.queue _ s.unit (kept.setDet (fun c => ⟨c.1, Nat.zero_le _⟩) ?_)
  exact kept.setSlot (openSlot_becomes capped lost) h

theorem loseTrigger {s : State} (w : Det) (h : P s) : P (loseTrigger w s) := by
  unfold Machine.loseTrigger
  dsimp only
  refine kept.table (s.setDet w _) _ s.unit (fun i => mayBecome_refl _ _) (fun v l => ?_)
    (kept.setDet (fun c => ⟨c.1, Nat.min_le_right _ _⟩) h)
  by_cases same : v = w
  · subst same
    rw [pair_get_set]
    exact Nat.min_le_right _ _
  · rw [pair_get_set_ne _ _ same]
    exact l

theorem crossing {s : State} {w : Det} {t : Sample} {eff ratio : Nat} (capped : ratio ≤ 65535) (h : P s) :
    P (crossing w t eff ratio s) := by
  unfold Machine.crossing
  split
  next i _ =>
    refine kept.setSlot ⟨fun _ _ counts => ?_, fun done => ⟨done, rfl, rfl⟩⟩ h
    simp only [Slot.counted, Bool.and_eq_true, decide_eq_true_eq] at counts ⊢
    exact ⟨⟨⟨counts.1.1.1, Nat.min_le_right _ _⟩, counts.1.2⟩, counts.2⟩
  next =>
    split
    · exact kept.openFor capped h
    · exact kept.loseTrigger w h

theorem crossingReport {s : State} {w : Det} {n : Sample} {eff ratio : Nat} (capped : ratio ≤ 65535) (h : P s) :
    P (crossingReport w n eff ratio s) := by
  rcases crossingReport_outcomes w n eff ratio s with out | ⟨-, out | out⟩ <;> rw [out]
  · exact kept.crossing capped (kept.reportSteps w n capped h)
  · exact kept.crossing capped (kept.reportSteps w n capped (kept.draw h))
  · exact kept.reportSteps w n capped (kept.crossing capped (kept.draw h))

/-! ### The recipients of a frame (R16) -/

theorem announceForced {s : State} (w : Det) (n : Sample) (h : P s) : P (announceForced w n s) := by
  refine kept.raise _ _ (kept.mapSlots (fun i => ?_) h)
  split
  · exact ⟨fun _ _ h => h, fun done => ⟨done, rfl, rfl⟩⟩
  · exact mayBecome_refl _ _

theorem detectorFrame {s : State} (w : Det) (f : Conditioned) (h : P s) : P (detectorFrame w f s) := by
  have capped : (s.outOf w f).ratio ≤ 65535 := detStep_ratio_le _ _ _ _ _
  have taken : P (s.setDet w (s.outOf w f).det) := kept.setDet detStep_counted h
  have announced : P (if (s.outOf w f).forcedNow then Machine.announceForced w f.n (s.setDet w (s.outOf w f).det)
      else s.setDet w (s.outOf w f).det) := by
    split
    · exact kept.announceForced w f.n taken
    · exact taken
  unfold Machine.detectorFrame
  dsimp only
  split
  · split
    · exact kept.crossingReport capped announced
    · exact kept.reportSteps w f.n capped announced
  · exact announced

theorem blankTo {s : State} (e : Sample) (h : P s) : P (blankTo e s) := by
  unfold Machine.blankTo
  split
  · exact kept.detMap (fun _ => toBlanked_counted) (kept.closeAll _ (kept.chain s _ id h))
  · exact kept.chain s _ id h

theorem readRecentre {s : State} (f : Conditioned) (h : P s) : P (readRecentre f s) := by
  unfold Machine.readRecentre
  split
  · split
    · exact kept.blankTo _ h
    · exact kept.chain s _ id h
    · exact h
  · exact h

theorem enterRun {s : State} (h : P s) : P (enterRun s) := by
  have tested := kept.det s ⟨s.det.z.enterRun s.active.det.z, s.det.h.enterRun s.active.det.h⟩
    (fun z h => ⟨enterRun_counted z, enterRun_counted h⟩) h
  exact (kept.writeChain tested { s.chain with st := .run } id :)

theorem completionTest {s : State} (n : Sample) (h : P s) : P (completionTest n s) := by
  unfold Machine.completionTest
  split
  · dsimp only
    split
    · exact kept.raise _ _ (kept.enterRun (kept.due s _ h))
    · exact kept.due s _ h
  · exact h

theorem endPause {s : State} (h : P s) : P (endPause s) := by
  have restarted := kept.detMap (g := fun d => { d with learn := 0 }) (fun _ => id) h
  exact (kept.writeChain restarted { s.chain with pauseEnd := none, k := 0 } id :)

theorem endBlanking {s : State} (h : P s) : P (endBlanking s) := by
  have tested := kept.det s ⟨unblank s.active.det.z s.det.z, unblank s.active.det.h s.det.h⟩
    (fun z h => ⟨unblank_counted z, unblank_counted h⟩) h
  exact (kept.writeChain tested { s.chain with blankEnd := none } id :)

theorem countBlock {s : State} (h : P s) : P (countBlock s) := by
  have averaged := kept.detMap (g := fun d => { d with lta := 256 * d.learn / (s.chain.k + 1) }) (fun _ => id) h
  have counted := (kept.writeChain averaged { s.chain with k := s.chain.k + 1 } id :)
  exact (kept.due _ { s.due with completion := true } counted :)

theorem capture {s : State} (n : Sample) (h : P s) : P (capture n s) := by
  unfold Machine.capture
  split
  · exact kept.chain s _ id h
  · exact h

theorem afterDetectors {s : State} (f : Conditioned) (h : P s) : P (afterDetectors f s) := by
  unfold Machine.afterDetectors
  split
  · unfold afterWarmupFrame
    split
    · split
      · exact kept.endPause h
      · exact h
    · split
      · exact kept.completionTest f.n (kept.countBlock h)
      · exact h
  · have captured : P (if isBlockEnd s.active.blk f.n then Machine.capture f.n s else s) := by
      split
      · exact kept.capture f.n h
      · exact h
    unfold afterRunFrame
    dsimp only
    generalize (if isBlockEnd s.active.blk f.n then Machine.capture f.n s else s) = s' at captured ⊢
    split
    · exact kept.endBlanking captured
    · exact captured
  · exact h

theorem popExpired (n : Sample) (ts : List Trial) : ∀ s : State, s.revert = ts → P s → P (popExpired n ts s) := by
  induction ts with
  | nil => exact fun _ _ h => h
  | cons t rest ih =>
    intro s top h
    unfold Machine.popExpired
    split
    · obtain ⟨_, _, _, shape⟩ := raise_shape (.trialExpired t.entry t.item t.old) (Machine.popTrial t rest s)
      exact ih _ (by rw [shape]; rfl) (kept.raise _ _ (kept.popTrial s t rest top h))
    · exact h

theorem trialTests {s : State} (n : Sample) (h : P s) : P (trialTests n s) := by
  unfold Machine.trialTests
  split
  · exact kept.popExpired n _ _ rfl (kept.due s _ h)
  · exact h

theorem entryTests {s : State} (n : Sample) (h : P s) : P (entryTests n s) := by
  unfold Machine.entryTests
  split
  · exact kept.assoc _ _ (kept.due s _ h)
  · exact h

theorem receive {s : State} (f : Conditioned) (r : Recipient) (h : P s) : P (receive f s r) := by
  cases r with
  | detector w => exact kept.detectorFrame w f h
  | recentre => exact kept.readRecentre f h
  | after => exact kept.afterDetectors f h
  | stack => exact kept.trialTests f.n h
  | assoc => exact kept.assoc _ _ (kept.entryTests f.n h)

theorem deliver {s : State} (f : Conditioned) (h : P s) : P (deliver f s) := by
  obtain ⟨order, drawn, -, -, shape⟩ := deliver_shape f s
  rw [shape]
  exact fold (fun _ r => kept.receive f r) order _ (kept.choices s _ h)

/-! ### The sample link (1.1) -/

theorem ringWrite {s : State} (f : Conditioned) (h : P s) : P (ringWrite f s) := by
  unfold Machine.ringWrite
  dsimp only
  split
  next room => exact kept.ring s _ (fun _ => by rw [List.length_append]; exact room) h
  next full =>
    refine kept.mapSlots (fun i => ?_) (kept.ring s _ (fun fits => ?_) h)
    · dsimp only
      split
      · split
        · exact ⟨fun _ _ h => h, fun done => ⟨done, rfl, rfl⟩⟩
        · exact mayBecome_refl _ _
      · exact mayBecome_refl _ _
    · rw [List.length_append, List.length_drop, List.length_singleton]
      unfold Config.ringCap at *
      omega

theorem conditionFrame {s : State} (f : RawFrame) (filled : Bool) (h : P s) : P (conditionFrame f filled s) :=
  kept.deliver _ (kept.ringWrite _ (kept.due _ _ (kept.conditioner s (conditioned s f filled).2 (some f.seq) h) :))

theorem acceptFrame {s : State} (now : Nat) (f : RawFrame) (h : P s) : P (acceptFrame now f s) := by
  have taken := kept.link s { s.intake with lastRaw := some f, expected := some (f.seq + 1), silence := some now } id id id
    id h
  exact kept.conditionFrame f false (kept.lastFrame _ (some (f.seq, now)) taken :)

theorem fillFrames (raw : RawFrame) (j : Nat) : ∀ (n : Sample) (s : State), P s → P (fillFrames raw j n s) := by
  induction j with
  | zero => exact fun _ _ h => h
  | succ j ih => exact fun n s h => ih _ _ (kept.conditionFrame _ true h)

theorem shortGap {s : State} (now : Nat) (f : RawFrame) (e : Sample) (j : Nat) (h : P s) : P (shortGap now f e j s) := by
  have filled : P (match s.intake.lastRaw with
      | some raw => Machine.fillFrames raw j e s
      | none => s) := by
    split
    · exact kept.fillFrames _ j e s h
    · exact h
  exact kept.acceptFrame now f (kept.link _ _ id id (fun _ => Nat.min_le_right _ _) id filled)

theorem completeShort {s : State} (i : Fin 8) (h : P s) : P (completeShort i s) := by
  refine kept.enterDone _ i _ (fun counts => ?_) (kept.setSlot ⟨fun _ _ h => h, fun done => ⟨done, rfl, rfl⟩⟩ h)
  simp only [setSlot_slot_self, Slot.counted, Slot.raise, Bool.and_eq_true, decide_eq_true_eq] at counts
  simp [Record.counted, formRecord, Slot.raise, counts]

theorem emptyRing {s : State} (h : P s) : P (emptyRing s) :=
  fold (fun _ i => kept.completeShort i) _ _
    (kept.aside [] s.table.recent none (kept.ring s [] (fun _ => Nat.zero_le _) h))

theorem resync {s : State} (h : P s) : P (resync s) := by
  have unset := kept.conditioner _ ⟨none, none, none⟩ (Machine.emptyRing s).newest (kept.emptyRing h)
  exact (kept.detMap (g := Detector.endBlock) (fun _ => id) unset :)

theorem dropEnds {s : State} (h : P s) : P (dropEnds s) := kept.chain s _ id h

theorem chainLongGap {s : State} (h : P s) : P (chainLongGap s) := by
  unfold Machine.chainLongGap
  split
  · exact kept.dropEnds (kept.closeAll _ h)
  · exact kept.dropEnds h
  · exact h

theorem enterWarmup {s : State} (h : P s) : P (enterWarmup s) := by
  have warming := kept.detMap (g := Detector.toWarming) (fun _ c => ⟨Nat.zero_le _, c.2⟩) h
  exact (kept.writeChain warming { s.chain with st := .warmup, k := 0, blankEnd := none, pauseEnd := none } id :)

theorem invalidateImport {s : State} (h : P s) : P (invalidateImport s) := by
  unfold Machine.invalidateImport
  split
  · exact kept.chain s _ (fun _ => rfl) h
  · exact h

theorem disarm {s : State} (h : P s) : P (disarm s) := kept.chain s _ id h

theorem autostart {s : State} (h : P s) : P (autostart s) := by
  unfold Machine.autostart
  split
  · dsimp only
    split
    · exact kept.enterWarmup (kept.invalidateImport (kept.disarm h))
    · exact kept.disarm h
  · exact h

theorem chainRestart {s : State} (h : P s) : P (chainRestart s) := by
  unfold Machine.chainRestart
  split
  · exact kept.autostart h
  · exact kept.enterWarmup h

theorem chainAfterGap {s : State} (h : P s) : P (chainAfterGap s) := by
  unfold Machine.chainAfterGap
  split
  · exact h
  · exact kept.enterWarmup h

theorem longGap {s : State} (now : Nat) (f : RawFrame) (e : Sample) (h : P s) : P (longGap now f e s) :=
  kept.acceptFrame now f (kept.chainAfterGap (kept.resync (kept.chainLongGap (kept.raise _ _
    (kept.link s _ id id id (fun _ => Nat.min_le_right _ _) h)))))

theorem resume {s : State} (now : Nat) (f : RawFrame) (h : P s) : P (resume now f s) :=
  kept.acceptFrame now f (kept.chainRestart (kept.resync (kept.chainLongGap (kept.link s _ id id id id h))))

theorem goodFrame {s : State} (now : Nat) (f : RawFrame) (h : P s) : P (goodFrame now f s) := by
  unfold Machine.goodFrame
  split
  · unfold classify
    dsimp only
    split
    · exact kept.link s _ id (fun _ => Nat.min_le_right _ _) id id h
    · split
      · exact kept.acceptFrame now f h
      · split
        · exact kept.shortGap now f _ _ h
        · exact kept.longGap now f _ h
  · exact kept.resume now f h

theorem leaveFor {s : State} (st : ChainState) (f : Flags) (h : P s) : P (leaveFor st f s) :=
  kept.chain _ _ id (kept.dropEnds (kept.detMap (g := Detector.toOff) (fun _ c => ⟨Nat.zero_le _, c.2⟩)
    (kept.closeAll f h)))

theorem loseLink {s : State} (due : Nat) (h : P s) : P (loseLink due s) := by
  have timed := kept.clock s (max s.clock due) h
  have down := kept.link { s with clock := max s.clock due }
    { s.intake with link := .down, expected := none, silence := none } id id id id timed
  have raised := kept.raise (.linkDown s.lastSeq) _ down
  unfold Machine.loseLink chainLinkLoss
  dsimp only at raised ⊢
  split
  · exact kept.leaveFor _ _ raised
  · exact kept.leaveFor _ _ raised
  · exact raised

/-! ### The Refinement Unit (chapter 5) -/

theorem completeRefinement {s : State} (u : RefineUnit) (o : OnsetResult) (p : PolResult) (k : PeakResult) (h : P s) :
    P (completeRefinement u o p k s) := by
  refine kept.takeNext (kept.enterDone _ _ _ (fun counts => ?_) (kept.aside s.table.queue s.table.recent none h))
  replace counts : (s.slot u.slot).counted = true := counts
  simp only [Slot.counted, Bool.and_eq_true, decide_eq_true_eq] at counts
  simp [Record.counted, formRecord, counts]

/-! ### The requests of the chain and the slots (3.1, 3.4, 4.3, 4.6) -/

theorem holdChain {s : State} (h : P s) : P (holdChain s) := by
  unfold Machine.holdChain
  split
  · exact h
  · exact kept.leaveFor _ _ h

theorem runLearn {s : State} (h : P s) : P (runLearn s).1 := kept.enterWarmup (kept.invalidateImport (kept.disarm h))

theorem runImmediate {s : State} (h : P s) : P (runImmediate s).1 :=
  kept.enterRun (kept.det _ _ (fun z h => ⟨⟨Nat.zero_le _, z.2⟩, Nat.zero_le _, h.2⟩)
    (kept.invalidateImport (kept.disarm h)))

theorem loadSnapshot {s : State} (sn : Snapshot) (h : P s) : P (loadSnapshot sn s) := by
  have means := kept.conditioner s (sn.mean.map some) s.newest h
  exact (kept.writeDet means ⟨s.det.z.load sn.avg.z.sta sn.avg.z.lta, s.det.h.load sn.avg.h.sta sn.avg.h.lta⟩
    (fun z h => ⟨⟨Nat.zero_le _, z.2⟩, Nat.zero_le _, h.2⟩) :)

theorem runRestore {s : State} (h : P s) : P (runRestore s).1 := by
  unfold Machine.runRestore
  split
  · split
    · exact kept.enterRun (kept.loadSnapshot _ (kept.disarm h))
    · exact h
  · exact kept.invalidateImport h

theorem forceSlot {s : State} (n newest : Sample) (i : Fin 8) (h : P s) : P (forceSlot n newest i s).1 := by
  have opened : P (s.setSlot i (forcedSlot s n)) :=
    kept.setSlot (openSlot_becomes (ratioOf_le _ _) (fun _ _ => Nat.zero_le _)) h
  unfold Machine.forceSlot
  dsimp only
  split
  · exact kept.closeSlot _ _ i opened
  · exact opened

theorem afterStructural {s : State} (old : Profile) (h : P s) : P (afterStructural old s) := by
  unfold Machine.afterStructural
  split
  · exact kept.det s _ (fun z h => ⟨z, h⟩) h
  · exact h

end KeptByParts

end Sys2Proof.Proofs
end

section
/-! PROOFS. The step rule of an invariant that does not read how the blocks agree with one another: the parts that every
command writes, and what follows for the whole of a step. -/

namespace Sys2Proof.Proofs

open Sys2Proof.Machine Sys2Proof.Laws

/-- The parts that any command but those of a reset writes. -/
structure KeptByWrites (P : State → Prop) : Prop extends KeptByParts P where
  port : ∀ s p, (s.port.discarded ≤ 65535 → p.discarded ≤ 65535) → P s → P { s with port := p } := by
    intros; assumption
  protect : ∀ s b, P s → P { s with protect := b } := by intros; assumption
  missPulse : ∀ s, P s → P (missPulse s) := by intros; assumption
  pulseEdge : ∀ s now, P s → P (pulseEdge now s) := by intros; assumption
  admitItem : ∀ s w, s.oldestWaiting = some w → s.placesFor w ≤ s.places → P s → P (admitItem w s)
  blocked : ∀ s b, P s → P { s with reports := { s.reports with blocked := b } } := by intros; assumption
  collect : ∀ s n, s.reports.queue ≠ [] → P s →
    P (admitAll { s with reports := { s.reports with queue := s.reports.queue.drop n } })
  setProfile : ∀ (s : State) (e : Fin 8) (new : Profile),
    (s.settings.profiles[e].inRange = true → new.inRange = true) → new.consistent = true → P s →
    P (discardTrials e (s.setProfile e new)) := by intros; assumption
  select : ∀ (s : State) e, P s → P { s with settings := { s.settings with active := e } } := by intros; assumption
  profileLock : ∀ (s : State) (e : Fin 8) (l : Lock), (∀ u, s.settings.profileLock[e] ≠ .power u) → P s →
    P { s with settings := { s.settings with profileLock := s.settings.profileLock.set e l } } := by intros; assumption
  stationLock : ∀ s l, (∀ u, s.settings.stationLock ≠ .power u) → P s →
    P { s with settings := { s.settings with stationLock := l } } := by intros; assumption
  gateLock : ∀ s l, (∀ u, s.settings.gateLock ≠ .power u) → P s →
    P { s with settings := { s.settings with gateLock := l } } := by intros; assumption
  writeStation : ∀ s items m, (items.all fun iv => stationInRange iv.1 iv.2) = true →
    mapOneToOne (s.settings.station.putAll items).map = true → P s →
    P { s with settings := { s.settings with station := s.settings.station.putAll items }, dc := m } := by
      intros; assumption
  writeGate : ∀ s k body, ((gateOf body).valid = true → (gateOf body).inRange = true ∧ (gateOf body).consistent = true) →
    P s → P (s.setGate k (gateOf body)) := by intros; assumption
  adjustSet : ∀ s k v, s.settings.gates[(k : Fin 16)].valid = true → P s →
    P (adjustSet s.settings.gates[k] v s).1 := by intros; assumption
  adjustTry : ∀ s k v d eff n, s.settings.gates[(k : Fin 16)].valid = true → s.revert.length < Config.stackCap → P s →
    P (adjustTry s.settings.gates[k] v d eff n s).1 := by intros; assumption
  floor : ∀ s n, s.floor ≤ n → n ≤ 3 → P s → P { s with floor := n } := by intros; assumption
  timeLabel : ∀ s l, l < Config.labelMod → P s → P { s with time := { s.time with pendLabel := some l } } := by
    intros; assumption
  storeSave : ∀ s, s.store.writing = none → P s →
    P { s with store := { s.store with mark := false, writing := some (imageOf s) } } := by intros; assumption
  resetPending : ∀ s p, P s → P { s with resetPending := p } := by intros; assumption

namespace KeptByWrites

variable {P : State → Prop} (kept : KeptByWrites P)
include kept

theorem blockedAttempt {s : State} (w : Waiting) (h : P s) : P (blockedAttempt w s) := by
  unfold Machine.blockedAttempt
  split
  · exact kept.blocked s true h
  · exact h

theorem writeProfile {s : State} {e : Fin 8} {new : Profile}
    (range : s.settings.profiles[e].inRange = true → new.inRange = true) (consistent : new.consistent = true) (h : P s) :
    P (discardTrials e (Machine.afterStructural s.active (s.setProfile e new))) := by
  have written := kept.setProfile s e new range consistent h
  unfold Machine.afterStructural
  split
  · exact (kept.writeDet written ⟨s.det.z.bound .z (s.setProfile e new).active.cf,
      s.det.h.bound .h (s.setProfile e new).active.cf⟩ (fun z h => ⟨z, h⟩) :)
  · exact written

theorem requests : KeptByRequests P where
  collect := kept.collect
  holdChain _ := kept.holdChain
  runLearn _ _ := kept.runLearn
  runRestore _ _ := kept.runRestore
  runImmediate _ _ := kept.runImmediate
  blankTo _ _ e _ _ := kept.blankTo e
  closeSlot _ n f i _ := kept.closeSlot n f i
  deferClose _ _ _ _ := kept.setSlot ⟨fun _ _ h => h, fun done => ⟨done, rfl, rfl⟩⟩
  forceSlot _ n newest i _ _ _ := kept.forceSlot n newest i
  writeProfile _ _ _ := kept.writeProfile
  selectProfile s e h := kept.afterStructural s.active (kept.select s e h)
  profileLock := kept.profileLock
  stationLock := kept.stationLock
  gateLock := kept.gateLock
  writeStation := kept.writeStation
  writeGate := kept.writeGate
  adjustSet := kept.adjustSet
  adjustTry := kept.adjustTry
  revert := kept.popTrial
  floor := kept.floor
  timeLabel := kept.timeLabel
  snapshots s es eb is ib counts := kept.chain s { s.chain with expSt := es, expBuf := eb, impSt := is, impBuf := ib } counts
  storeSave := kept.storeSave
  resetPending := kept.resetPending

theorem events : KeptByEvents P where
  clock := kept.clock
  draw _ := kept.draw
  loseLink _ due := kept.loseLink due
  missPulse := kept.missPulse
  pulseEdge := kept.pulseEdge
  receiver s rx bad counts := kept.link s { s.intake with rx := rx, bad := bad } counts id id id
  goodFrame _ now f := kept.goodFrame now f
  completionTest _ n _ := kept.completionTest n
  autoClose _ w n _ _ := kept.autoClose w n
  endBlanking _ _ _ := kept.endBlanking
  endPause _ _ := kept.endPause
  entryTests _ n := kept.entryTests n
  trialTests _ n := kept.trialTests n
  stage s _ v _ _ := kept.aside s.table.queue s.table.recent (some v)
  completeRefinement _ u o p k _ := kept.completeRefinement u o p k
  admitItem := kept.admitItem
  blockedAttempt _ w := kept.blockedAttempt w

theorem all : Kept P := ⟨kept.port, kept.protect, kept.requests, kept.events⟩

end KeptByWrites

/-! ## A predicate that reads no slot, no association entry and no report -/

/-- A predicate that reads none of what an admission touches is kept by whatever raises a notice or admits an item. -/
structure FreeOfReports (P : State → Prop) : Prop where
  free : ∀ (s : State) t a r, P s → P { s with table := t, assoc := a, reports := r } := by intros; assumption

namespace FreeOfReports

variable {P : State → Prop} (kept : FreeOfReports P)
include kept

theorem raise (d : NoticeData) (s : State) (h : P s) : P (raise d s) := by
  obtain ⟨t, a, r, shape⟩ := raise_shape d s
  exact shape ▸ kept.free s t a r h

theorem admitAll (s : State) (h : P s) : P (admitAll s) := by
  obtain ⟨t, a, r, shape⟩ := admitAll_shape s
  exact shape ▸ kept.free s t a r h

theorem admitItem (s : State) (w : Waiting) (h : P s) : P (admitItem w s) := by
  obtain ⟨t, a, r, shape⟩ := admitItem_shape w s
  exact shape ▸ kept.free s t a r h

theorem collect (s : State) (n : Nat) (_ : s.reports.queue ≠ []) (h : P s) :
    P (Machine.admitAll { s with reports := { s.reports with queue := s.reports.queue.drop n } }) :=
  kept.admitAll _ (kept.free s s.table s.assoc _ h)

theorem enterDone (step : ∀ s : State, P s → P { s with time := { s.time with step := false } }) (s : State) (i : Fin 8)
    (rec : PickRecord) (h : P s) : P (enterDone i rec s) := by
  obtain ⟨t, a, r, shape⟩ := enterDone_shape i rec s
  exact shape ▸ kept.free _ t a r (step s h)

theorem moveTime (move : ∀ (s : State) st, P s → P { s with time := { s.time with st := st } }) (s : State) (st : TimeState)
    (h : P s) : P (moveTime st s) := by
  unfold Machine.moveTime
  split
  · exact h
  · exact kept.raise _ _ (move s st h)

/-- A missed pulse, for a predicate that reads neither the Time Base nor the clock. -/
theorem missPulse (timeless : ∀ (s : State) c t, P s → P { s with clock := c, time := t }) (s : State) (h : P s) :
    P (missPulse s) := by
  unfold Machine.missPulse
  split
  · exact h
  · exact kept.moveTime (fun s st => timeless s s.clock { s.time with st := st }) _ _ (timeless s _ _ h)

theorem pulseEdge (timeless : ∀ (s : State) c t, P s → P { s with clock := c, time := t }) (s : State) (now : Nat)
    (h : P s) : P (pulseEdge now s) := by
  unfold Machine.pulseEdge
  split
  · exact h
  · exact kept.moveTime (fun s st => timeless s s.clock { s.time with st := st }) _ _ (timeless s s.clock _ h)

end FreeOfReports

end Sys2Proof.Proofs
end

section
/-! PROOFS. What a step runs, and what only a reset may undo: the command queue, the link floor and the POWER locks. -/

namespace Sys2Proof.Proofs

open Sys2Proof.Machine Sys2Proof.Laws

/-! ## The command queue (0.2) -/

/-- The commands that wait behind the one that runs are these. -/
abbrev waitingAre (rest : List Instr) (s : State) : Prop := s.pending = rest

theorem waitingAre_free (rest : List Instr) : FreeOfReports (waitingAre rest) where

theorem waitingAre_parts (rest : List Instr) : KeptByParts (waitingAre rest) where
  raise := (waitingAre_free rest).raise
  enterDone s i rec _ := (waitingAre_free rest).enterDone (fun _ h => h) s i rec

theorem waitingAre_writes (rest : List Instr) : KeptByWrites (waitingAre rest) where
  toKeptByParts := waitingAre_parts rest
  missPulse := (waitingAre_free rest).missPulse fun _ _ _ h => h
  pulseEdge := (waitingAre_free rest).pulseEdge fun _ _ _ h => h
  admitItem s w _ _ := (waitingAre_free rest).admitItem s w
  collect := (waitingAre_free rest).collect

theorem losePower_pending (s : State) : (losePower s).pending = s.pending := by
  unfold losePower
  dsimp only
  split <;> rfl

theorem doReset_pending (k : ResetKind) (s : State) : (doReset k s).pending = s.pending := by
  unfold doReset
  dsimp only
  split
  · rfl
  · exact (waitingAre_free s.pending).raise _ _ rfl

theorem waitingAre_resets (rest : List Instr) : KeptByResets (waitingAre rest) where
  losePower s h := (losePower_pending s).trans h
  doReset s k _ h := (doReset_pending k s).trans h

/-- Settles O1: no command has a meaning that faults or is refused, and none writes the queue of commands. -/
theorem stepRunsTheFrontCommand : Obligations.StepRunsTheFrontCommand := by
  refine ⟨fun s empty => ?idle, fun c rest s front => ⟨?runs, ?keeps⟩⟩
  case idle => simp only [step, empty]
  case runs => simp only [step, front]
  case keeps =>
    exact (waitingAre_writes rest).all.exec_all (waitingAre_resets rest) c (s := { s with pending := rest }) rfl

/-! ## The link floor and the POWER locks (9.3, 10.1) -/

/-- The floor is at least s's, and every lock that is in POWER in s is the same. -/
def heldBack (s t : State) : Prop :=
  s.floor ≤ t.floor ∧
  (∀ (e : Fin 8) (u : BaseLock), s.settings.profileLock[e] = .power u → t.settings.profileLock[e] = .power u) ∧
  (∀ u : BaseLock, s.settings.stationLock = .power u → t.settings.stationLock = .power u) ∧
  ∀ u : BaseLock, s.settings.gateLock = .power u → t.settings.gateLock = .power u

theorem heldBack_free (s : State) : FreeOfReports (heldBack s) where

theorem heldBack_parts (s : State) : KeptByParts (heldBack s) where
  raise := (heldBack_free s).raise
  enterDone t i rec _ := (heldBack_free s).enterDone (fun _ h => h) t i rec

theorem heldBack_writes (s : State) : KeptByWrites (heldBack s) where
  toKeptByParts := heldBack_parts s
  missPulse := (heldBack_free s).missPulse fun _ _ _ h => h
  pulseEdge := (heldBack_free s).pulseEdge fun _ _ _ h => h
  admitItem t w _ _ := (heldBack_free s).admitItem t w
  collect := (heldBack_free s).collect
  profileLock t e l moved h := by
    obtain ⟨floor, profile, station, gate⟩ := h
    refine ⟨floor, fun e' u power => ?_, station, gate⟩
    by_cases same : e' = e
    · exact absurd (same ▸ profile e' u power) (moved u)
    · have ne : (e : Nat) ≠ e' := fun h => same (Fin.ext h.symm)
      simpa [Vector.getElem_set_ne _ _ ne] using profile e' u power
  stationLock t l moved h := by
    obtain ⟨floor, profile, station, gate⟩ := h
    exact ⟨floor, profile, fun u power => absurd (station u power) (moved u), gate⟩
  gateLock t l moved h := by
    obtain ⟨floor, profile, station, gate⟩ := h
    exact ⟨floor, profile, station, fun u power => absurd (gate u power) (moved u)⟩
  floor t n raised _ h := by
    obtain ⟨floor, rest⟩ := h
    exact ⟨floor.trans raised, rest⟩

/-- With no reset asked for, no save's completion, reply's end or loss of power resets the part. -/
theorem heldBack_without_reset {c : Instr} {s t : State} (resets : endsOrResets c = true) (power : ∀ b, c ≠ .powerOn b)
    (line : ∀ low b, c ≠ .resetLine low b) (none' : s.resetPending = none) (ran : exec c s = .next t) : heldBack s t := by
  have same : heldBack s s := ⟨Nat.le_refl _, fun _ _ h => h, fun _ h => h, fun _ h => h⟩
  cases c
  case storeSaveCompletion =>
    cases ran
    split
    · simp only [completeSave, tryReset, none']
      exact same
    · exact same
  case powerOn b => exact absurd rfl (power b)
  case resetLine low b => exact absurd rfl (line low b)
  case resetTakesEffect =>
    cases ran
    split
    next pending _ => exact absurd (none'.symm.trans pending) nofun
    next pending _ => exact absurd (none'.symm.trans pending) nofun
    next => exact same
  case replyComplete =>
    cases ran
    split
    · simp only [completeReply, none']
      exact same
    · exact same
  case powerLoss =>
    cases ran
    unfold losePower
    dsimp only
    split <;> exact same
  all_goals cases resets

/-- Settles O60: every command but a reset keeps the floor from falling and the POWER locks as they are. -/
theorem onlyResetsLowerTheFloorOrLeavePower : Obligations.OnlyResetsLowerTheFloorOrLeavePower := by
  intro c s t power line none' ran
  cases resets : endsOrResets c with
  | true => exact heldBack_without_reset resets power line none' ran
  | false =>
    obtain ⟨u, ran', held⟩ := (heldBack_writes s).all.exec resets
      (s := s) ⟨Nat.le_refl _, fun _ _ h => h, fun _ h => h, fun _ h => h⟩
    rw [ran'] at ran
    cases ran
    exact held

end Sys2Proof.Proofs
end

section
/-! PROOFS. What every step keeps of the Time Base (chapter 7): the state follows the capture, the labels and the count of
missed pulses. -/

namespace Sys2Proof.Proofs

open Sys2Proof.Machine Sys2Proof.Laws

theorem timeAgrees_free : FreeOfReports State.timeAgrees where

/-- The invariant reads the Time Base alone. -/
theorem timeAgrees_of_time {s t : State} (same : t.time = s.time) (h : s.timeAgrees) : t.timeAgrees := by
  unfold State.timeAgrees at *
  rwa [same]

/-- A Time Base that has seen no pulse meets the invariant (R113). -/
theorem resetTime_agrees {s : State} (fresh : s.time = resetTime) : s.timeAgrees := by
  rw [State.timeAgrees, fresh]
  decide

/-- A change of state changes nothing else in the Time Base (R120). -/
theorem moveTime_time (st : TimeState) (s : State) : (moveTime st s).time = { s.time with st := st } := by
  unfold moveTime
  split
  next same => rw [← same]
  next => rw [raise_time]

/-- A change of state keeps the invariant if the new state does. -/
theorem moveTime_timeAgrees {st : TimeState} {s : State}
    (h : State.timeAgrees { s with time := { s.time with st := st } }) : (moveTime st s).timeAgrees :=
  timeAgrees_of_time (moveTime_time st s) h

/-- A missed pulse moves count and state together: 1 from LOCKED, UNLOCKED at 600 (R115). -/
theorem missPulse_timeAgrees (s : State) (h : s.timeAgrees) : (missPulse s).timeAgrees := by
  unfold missPulse
  split
  · exact h
  next due timer =>
    refine moveTime_timeAgrees ?_
    obtain ⟨known, locked, holdover, unlocked, runs, last, pend⟩ := h
    have edge : s.time.lastEdge.isSome := runs.mp (by rw [timer]; rfl)
    cases st : s.time.st with
    | neverSet => simp_all [State.timeAgrees]
    | locked => simp_all [State.timeAgrees, Config.unlockCount]
    | holdover =>
      obtain ⟨low, high⟩ := holdover st
      have counted : sat16 (s.time.missed + 1) = s.time.missed + 1 :=
        Nat.min_eq_left (by unfold Config.unlockCount at high; omega)
      rcases Nat.lt_or_ge (s.time.missed + 1) Config.unlockCount with few | all
      · simp_all [State.timeAgrees, if_neg (Nat.not_le.mpr few)]
      · simp_all [State.timeAgrees]
    | unlocked =>
      have many := unlocked st
      simp_all [State.timeAgrees, Config.unlockCount, sat16]
      omega

/-- The label that an edge takes is one of the labels (R116, R117). -/
theorem labelAt_lt {t : TimeBase} {now l : Nat} (pend : t.pendLabel.all (fun l => decide (l < Config.labelMod)) = true)
    (taken : t.labelAt now = some l) : l < Config.labelMod := by
  unfold TimeBase.labelAt at taken
  split at taken
  next p given =>
    cases taken
    simpa [given] using pend
  next =>
    split at taken
    · cases taken
      exact Nat.mod_lt _ (by decide)
    · cases taken

/-- An edge takes a label wherever a last one is known (R117). -/
theorem labelAt_isSome {t : TimeBase} (now : Nat) (label : t.lastLabel.isSome) (edge : t.lastEdge.isSome) :
    (t.labelAt now).isSome := by
  obtain ⟨l, label⟩ := Option.isSome_iff_exists.mp label
  obtain ⟨e, edge⟩ := Option.isSome_iff_exists.mp edge
  unfold TimeBase.labelAt
  split
  · rfl
  · simp only [label, edge, Option.isSome_some]

/-- A capture made at a labelled edge carries the label (R119). -/
theorem captureAt_labelled {s : State} {now : Nat} {label : Option Nat} {c : Capture} (h : captureAt s now label = some c)
    (given : label.isSome) : labelled (some c) = true := by
  obtain ⟨l, rfl⟩ := Option.isSome_iff_exists.mp given
  unfold captureAt at h
  split at h
  · cases h; rfl
  · cases h

/-- The label known behind an edge (R117). -/
theorem lastLabel_lt {t : TimeBase} (now : Nat) (last : t.lastLabel.all (fun l => decide (l < Config.labelMod)) = true)
    (pend : t.pendLabel.all (fun l => decide (l < Config.labelMod)) = true) :
    ((t.labelAt now).orElse fun _ => t.lastLabel).all (fun l => decide (l < Config.labelMod)) = true := by
  cases label : t.labelAt now with
  | none => exact last
  | some l => simpa using labelAt_lt pend label

/-- An accepted edge leaves NEVER_SET only with a label and a capture; from any other state, where a label is known, it
leads to LOCKED (R117). -/
theorem acceptEdge_timeAgrees (now : Nat) (s : State) (h : s.timeAgrees) : (acceptEdge now s).timeAgrees := by
  obtain ⟨known, locked, holdover, unlocked, runs, last, pend⟩ := h
  have bounded := lastLabel_lt now last pend
  refine moveTime_timeAgrees ?_
  by_cases never : s.time.st = .neverSet
  · have state : s.time.stateAfterEdge (s.time.labelAt now).isSome (captureAt s now (s.time.labelAt now)).isSome =
        if (s.time.labelAt now).isSome && (captureAt s now (s.time.labelAt now)).isSome then .locked else .neverSet := by
      simp only [TimeBase.stateAfterEdge, never]
    cases label : s.time.labelAt now with
    | none => simp_all [State.timeAgrees]
    | some l =>
      cases cap : captureAt s now (some l) with
      | none => simp_all [State.timeAgrees]
      | some c => simp_all [State.timeAgrees, captureAt_labelled cap rfl]
  · obtain ⟨capture, label, edge⟩ := known never
    have given := labelAt_isSome now label edge
    have state : s.time.stateAfterEdge (s.time.labelAt now).isSome (captureAt s now (s.time.labelAt now)).isSome = .locked := by
      rw [given]
      unfold TimeBase.stateAfterEdge
      split
      next st => exact absurd st never
      next => rfl
    obtain ⟨l, label'⟩ := Option.isSome_iff_exists.mp given
    have captured : labelled ((captureAt s now (s.time.labelAt now)).orElse fun _ => s.time.capture) = true := by
      cases cap : captureAt s now (s.time.labelAt now) with
      | none => exact capture
      | some c => exact captureAt_labelled cap given
    simp_all [State.timeAgrees]

theorem timeAgrees_parts : KeptByParts State.timeAgrees where
  raise := timeAgrees_free.raise
  enterDone s i rec _ := timeAgrees_free.enterDone (fun _ h => h) s i rec

theorem timeAgrees_writes : KeptByWrites State.timeAgrees where
  toKeptByParts := timeAgrees_parts
  missPulse := missPulse_timeAgrees
  pulseEdge s now h := by
    unfold pulseEdge
    split
    · exact h
    · exact acceptEdge_timeAgrees now s h
  admitItem s w _ _ := timeAgrees_free.admitItem s w
  collect := timeAgrees_free.collect
  timeLabel s l label h := by
    obtain ⟨known, locked, holdover, unlocked, runs, last, _⟩ := h
    exact ⟨known, locked, holdover, unlocked, runs, last, by simpa using label⟩

theorem timeAgrees_resets : KeptByResets State.timeAgrees where
  losePower s h := by
    unfold losePower
    dsimp only
    split <;> exact h
  doReset s k _ h := by
    have fresh : (resetState k s).timeAgrees := by
      cases k
      · exact resetTime_agrees rfl
      · exact resetTime_agrees rfl
      · exact h
    unfold doReset
    dsimp only
    split
    · exact fresh
    · exact timeAgrees_free.raise _ _ fresh

/-- Settles O56: the pulses and their timer are the only writers of state, label, capture and count together. -/
theorem stepsKeepTheTimeBase : Obligations.StepsKeepTheTimeBase :=
  fun _ _ agrees stepped => timeAgrees_writes.all.step timeAgrees_resets (fun _ _ h => h) agrees stepped

end Sys2Proof.Proofs
end

section
/-! PROOFS. What every step keeps of capacities and saturating counters (0.5.6): first those that no admission touches, then
those of the Slot Table, the detectors and the Report Queue. -/

namespace Sys2Proof.Proofs

open Sys2Proof.Machine Sys2Proof.Laws

/-! ## Stores and counters that no admission touches -/

/-- Ring, stack, floor, link and port counters, missed pulses and import within their bounds. -/
abbrev storesBounded (s : State) : Prop :=
  s.ring.length ≤ Config.ringCap ∧ s.revert.length ≤ Config.stackCap ∧ s.floor ≤ 3 ∧
  s.intake.bad ≤ 65535 ∧ s.intake.stale ≤ 65535 ∧ s.intake.filled ≤ 65535 ∧ s.intake.gaps ≤ 65535 ∧
  s.port.discarded ≤ 65535 ∧ s.time.missed ≤ 65535 ∧ s.chain.impSt.counted = true

theorem storesBounded_free : FreeOfReports storesBounded where

theorem storesBounded_parts : KeptByParts storesBounded where
  raise := storesBounded_free.raise
  enterDone s i rec _ := storesBounded_free.enterDone (fun _ h => h) s i rec
  chain s c counts h := by
    obtain ⟨ring, revert, floor, bad, stale, filled, gaps, port, missed, imported⟩ := h
    exact ⟨ring, revert, floor, bad, stale, filled, gaps, port, missed, counts imported⟩
  ring s r fits h := ⟨fits h.1, h.2⟩
  link s i bad' stale' filled' gaps' h := by
    obtain ⟨ring, revert, floor, bad, stale, filled, gaps, rest⟩ := h
    exact ⟨ring, revert, floor, bad' bad, stale' stale, filled' filled, gaps' gaps, rest⟩
  popTrial s t rest top h := by
    obtain ⟨ring, revert, others⟩ := h
    rw [top, List.length_cons] at revert
    exact ⟨ring, Nat.le_of_succ_le revert, others⟩

/-- Missed pulses saturate (R115). -/
theorem storesBounded_missed {s : State} {c n : Nat} {t : TimeBase} (count : t.missed = n) (le : n ≤ 65535)
    (h : storesBounded s) : storesBounded { s with clock := c, time := t } := by
  obtain ⟨ring, revert, floor, bad, stale, filled, gaps, port, _, imported⟩ := h
  exact ⟨ring, revert, floor, bad, stale, filled, gaps, port, count.trans_le le, imported⟩

theorem storesBounded_writes : KeptByWrites storesBounded where
  toKeptByParts := storesBounded_parts
  port s p counts h := by
    obtain ⟨ring, revert, floor, bad, stale, filled, gaps, port, rest⟩ := h
    exact ⟨ring, revert, floor, bad, stale, filled, gaps, counts port, rest⟩
  missPulse s h := by
    unfold missPulse
    split
    · exact h
    · refine storesBounded_free.moveTime (fun _ _ h => h) _ _ (storesBounded_missed rfl ?_ h)
      dsimp only
      split
      · exact Nat.le_of_ble_eq_true rfl
      · exact Nat.min_le_right _ _
  pulseEdge s now h := by
    unfold pulseEdge
    split
    · exact h
    · exact storesBounded_free.moveTime (fun _ _ h => h) _ _
        (storesBounded_missed (c := s.clock) rfl (Nat.zero_le _) h)
  admitItem s w _ _ := storesBounded_free.admitItem s w
  collect := storesBounded_free.collect
  setProfile s e new _ _ h := by
    obtain ⟨ring, revert, rest⟩ := h
    exact ⟨ring, (List.length_filter_le _ _).trans revert, rest⟩
  adjustSet s k v _ h := by
    obtain ⟨ring, revert, rest⟩ := h
    exact ⟨ring, (List.length_filter_le _ _).trans revert, rest⟩
  adjustTry s k v d eff n _ room h := ⟨h.1, room, h.2.2⟩
  floor s n _ le h := by
    obtain ⟨ring, revert, _, rest⟩ := h
    exact ⟨ring, revert, le, rest⟩

theorem storesBounded_resets : KeptByResets storesBounded where
  losePower s h := by
    unfold losePower
    dsimp only
    split <;> exact h
  doReset s k _ h := by
    have fresh : storesBounded (resetState k s) := by
      obtain ⟨_, _, floor, _, _, _, _, _, missed, _⟩ := h
      refine ⟨Nat.zero_le _, Nat.zero_le _, ?_, Nat.zero_le _, Nat.zero_le _, Nat.zero_le _, Nat.zero_le _, Nat.zero_le _,
        ?_, rfl⟩
      · cases k
        · exact Nat.zero_le _
        · exact Nat.zero_le _
        · exact floor
      · cases k
        · exact Nat.zero_le _
        · exact Nat.zero_le _
        · exact missed
    unfold doReset
    dsimp only
    split
    · exact fresh
    · exact storesBounded_free.raise _ _ fresh

/-! ## Slots, detectors and reports -/

/-- The Report Queue, the lost-trigger and owed counts, and the counts of slots, records and notices within their bounds. -/
abbrev countsBounded (s : State) : Prop :=
  s.reports.queue.length ≤ Config.queueCap ∧ s.table.lost.z ≤ 65535 ∧ s.table.lost.h ≤ 65535 ∧
  s.det.z.counted ∧ s.det.h.counted ∧ s.countsHold

theorem countsBounded_slots {s : State} {t : SlotTable} {u : Option RefineUnit}
    (counts : ∀ i : Fin 8, (s.slot i).counted = true → t.slots[i].counted = true)
    (lost : ∀ w, s.table.lost.get w ≤ 65535 → t.lost.get w ≤ 65535) (h : countsBounded s) :
    countsBounded { s with table := t, unit := u } := by
  obtain ⟨room, lostZ, lostH, detZ, detH, slots, rest⟩ := h
  exact ⟨room, lost .z lostZ, lost .h lostH, detZ, detH, fun i => counts i (slots i), rest⟩

theorem countsBounded_setSlot {s : State} {i : Fin 8} {x : Slot} (counts : (s.slot i).counted = true → x.counted = true)
    (h : countsBounded s) : countsBounded (s.setSlot i x) := by
  refine countsBounded_slots (t := (s.setSlot i x).table) (u := s.unit) (fun j slot => ?_) (fun _ l => l) h
  change ((s.setSlot i x).slot j).counted = true
  by_cases same : j = i
  · subst same
    rw [setSlot_slot_self]
    exact counts slot
  · rw [setSlot_slot_ne s x same]
    exact slot

/-- The reports rewritten: what remains to be shown is about the queue and the notices. -/
theorem countsBounded_reports {s : State} {r : Reports} {a : Assoc} (room : r.queue.length ≤ Config.queueCap)
    (notices : ∀ k : Fin 8, r.notices[k].all (fun p => occurs p.count) = true) (queue : r.queue.all Record.counted = true)
    (h : countsBounded s) : countsBounded { s with reports := r, assoc := a } := by
  obtain ⟨_, lostZ, lostH, detZ, detH, slots, _, _⟩ := h
  exact ⟨room, lostZ, lostH, detZ, detH, slots, notices, queue⟩

/-- What an admitted pick puts behind the queue: its record with its number, role and group, and the group record that it
completes (R100, R108). -/
theorem associate_shape (p : PickRecord) (seq : BitVec 32) (smin smax : Nat) (s : State) :
    ∃ (role : Role) (group : Option (BitVec 8)) (behind : List Record) (a : Assoc) (g : BitVec 8),
      associate p seq smin smax s = { s with
        assoc := a
        reports := { s.reports with
          groupId := g
          queue := s.reports.queue ++ .pick { p with seq := some seq, role := role, group := group } :: behind } } ∧
      ((s.completes p = none ∧ behind = []) ∨
        ((s.completes p).isSome ∧ ∃ gr : GroupRecord, behind = [.group gr] ∧ gr.sSeq = seq ∧ group = some gr.group ∧
          role = gr.role)) := by
  unfold associate
  dsimp only
  split
  next isP =>
    have none' : s.completes p = none := by simp [State.completes, PickRecord.seeks, isP]
    exact ⟨_, _, [], _, _, rfl, .inl ⟨none', rfl⟩⟩
  next =>
    split
    next j found =>
      have found' : s.completes p = some j := found
      exact ⟨_, _, [_], _, _, rfl, .inr ⟨by rw [found']; rfl, _, rfl, rfl, rfl, rfl⟩⟩
    next none' => exact ⟨_, _, [], s.assoc, s.reports.groupId, rfl, .inl ⟨none', rfl⟩⟩

/-- A pick record's counts are those of the record at its completion. -/
theorem counted_admitted (p : PickRecord) (seq : Option (BitVec 32)) (role : Role) (group : Option (BitVec 8)) :
    (Record.pick { p with seq := seq, role := role, group := group }).counted = (Record.pick p).counted := rfl

theorem admitPick_countsBounded {s : State} {i : Fin 8} (fits : s.placesFor (.pick i) ≤ s.places) (h : countsBounded s) :
    countsBounded (admitPick i s) := by
  cases record : (s.slot i).record with
  | none => rwa [show admitPick i s = s by simp only [admitPick, record]]
  | some p =>
    obtain ⟨room, _, _, _, _, slots, notices, queue⟩ := id h
    rw [admitPick_some record]
    refine countsBounded_setSlot (fun _ => rfl) ?_
    obtain ⟨role, group, behind, a, g, shape, completed⟩ := associate_shape p s.reports.pickSeq (s.slot i).params.smin
      (s.slot i).params.smax { s with reports := { s.reports with pickSeq := s.reports.pickSeq + 1, blocked := false } }
    rw [shape]
    have pick : (Record.pick p).counted = true := by
      have all := slots i
      simp only [Slot.counted, record, Option.all_some, Bool.and_eq_true] at all
      exact all.2
    have places : s.reports.queue.length + (1 + behind.length) ≤ Config.queueCap ∧ behind.all Record.counted = true := by
      simp only [State.placesFor, record, State.places] at fits
      rcases completed with ⟨none', rfl⟩ | ⟨some', gr, rfl, -⟩
      · have none' : s.completes p = none := none'
        simp only [none', Option.isSome_none, Bool.false_eq_true, if_false] at fits
        exact ⟨by simp only [List.length_nil]; omega, rfl⟩
      · have some' : (s.completes p).isSome = true := some'
        simp only [some', if_true] at fits
        exact ⟨by simp only [List.length_singleton]; omega, rfl⟩
    refine countsBounded_reports (s := s) ?_ notices ?_ h
    · simp only [List.length_append, List.length_cons]
      omega
    · simp only [List.all_append, List.all_cons, counted_admitted, pick, queue, places.2, Bool.and_true]

theorem admitNotice_countsBounded {s : State} {k : Fin 8} (fits : s.placesFor (.notice k) ≤ s.places)
    (h : countsBounded s) : countsBounded (admitNotice k s) := by
  cases pending : s.reports.notices[k] with
  | none => rwa [show admitNotice k s = s by simp only [admitNotice, pending]]
  | some p =>
    obtain ⟨room, _, _, _, _, _, notices, queue⟩ := id h
    rw [admitNotice_some pending]
    have occurs : occurs p.count = true := by simpa [pending] using notices k
    have space : 1 ≤ s.places := fits
    unfold State.places at space
    refine countsBounded_reports (s := s) ?_ (fun j => ?_) ?_ h
    · change (s.reports.queue ++ [_]).length ≤ _
      rw [List.length_append, List.length_singleton]
      omega
    · by_cases same : j = k
      · subst same
        simp
      · have ne : (k : Nat) ≠ j := fun h => same (Fin.ext h.symm)
        simpa [Vector.getElem_set_ne _ _ ne] using notices j
    · simp [queue, Record.counted, occurs]

theorem attempts_keeps {P : State → Prop}
    (admits : ∀ s w, s.oldestWaiting = some w → s.placesFor w ≤ s.places → P s → P (admitItem w s))
    (block : ∀ s w, P s → P (blockedAttempt w s)) (n : Nat) : ∀ s, P s → P (attempts n s) := by
  induction n with
  | zero => exact fun _ h => h
  | succ n ih =>
    intro s h
    unfold attempts
    split
    · exact h
    next w oldest =>
      split
      next fits => exact ih _ (admits s w oldest fits h)
      next => exact block s w h

theorem admitItem_countsBounded (s : State) (w : Waiting) (_ : s.oldestWaiting = some w) (fits : s.placesFor w ≤ s.places)
    (h : countsBounded s) : countsBounded (admitItem w s) := by
  cases w with
  | pick i => exact admitPick_countsBounded fits h
  | notice k => exact admitNotice_countsBounded fits h

theorem admitAll_countsBounded {s : State} (h : countsBounded s) : countsBounded (admitAll s) := by
  refine attempts_keeps admitItem_countsBounded (fun s w h => ?_) 16 s h
  unfold blockedAttempt
  split <;> exact h

theorem post_countsBounded (d : NoticeData) {s : State} (h : countsBounded s) : countsBounded (post d s) := by
  have written {s : State} {p : PendingNotice} (occurs : occurs p.count = true) (h : countsBounded s) :
      countsBounded (s.setNotice d.key (some p)) := by
    obtain ⟨room, _, _, _, _, _, notices, queue⟩ := id h
    refine countsBounded_reports (s := s) room (fun j => ?_) queue h
    by_cases same : j = d.key
    · subst same
      simpa using occurs
    · have ne : (d.key : Nat) ≠ j := fun h => same (Fin.ext h.symm)
      simpa [Vector.getElem_set_ne _ _ ne] using notices j
  cases pending : s.reports.notices[d.key] with
  | none => exact post_new pending ▸ written (p := ⟨s.reports.waiting, s.newest, 1, d⟩) rfl h
  | some p =>
    rw [post_pending pending]
    refine written ?_ h
    simp [occurs, sat8]

theorem raise_countsBounded (d : NoticeData) (s : State) (h : countsBounded s) : countsBounded (raise d s) := by
  unfold raise
  split
  · exact admitAll_countsBounded (post_countsBounded d h)
  · exact post_countsBounded d h

theorem countsBounded_parts : KeptByParts countsBounded where
  raise := raise_countsBounded
  enterDone s i rec counts h := by
    have entered : countsBounded (s.setSlot i { s.slot i with
        st := .done, pin := none, order := some s.reports.waiting, record := some rec, flags := rec.flags }) := by
      refine countsBounded_setSlot (fun slot => ?_) h
      have record := counts slot
      simp only [Slot.counted, Bool.and_eq_true] at slot ⊢
      exact ⟨slot.1, record⟩
    unfold enterDone
    exact admitAll_countsBounded entered
  table s t u becomes lost h := by
    obtain ⟨_, _, _, detZ, detH, _⟩ := id h
    exact countsBounded_slots (fun i => (becomes i).1 detZ detH) lost h
  det s d counts h := by
    obtain ⟨room, lostZ, lostH, detZ, detH, rest⟩ := h
    obtain ⟨detZ', detH'⟩ := counts detZ detH
    exact ⟨room, lostZ, lostH, detZ', detH', rest⟩

theorem moveTime_countsBounded {st : TimeState} {s : State} (h : countsBounded s) : countsBounded (moveTime st s) := by
  unfold moveTime
  split
  · exact h
  · exact raise_countsBounded _ _ h

theorem countsBounded_writes : KeptByWrites countsBounded where
  toKeptByParts := countsBounded_parts
  missPulse s h := by
    unfold missPulse
    split
    · exact h
    · exact moveTime_countsBounded h
  pulseEdge s now h := by
    unfold pulseEdge
    split
    · exact h
    · exact moveTime_countsBounded h
  admitItem := admitItem_countsBounded
  collect s n _ h := by
    obtain ⟨room, lostZ, lostH, detZ, detH, slots, notices, queue⟩ := h
    refine admitAll_countsBounded ⟨?_, lostZ, lostH, detZ, detH, slots, notices, ?_⟩
    · simp only [List.length_drop]
      omega
    · rw [List.all_eq_true] at queue ⊢
      exact fun r mem => queue r (List.mem_of_mem_drop mem)

/-- The tables that a reset leaves hold no count (R42, R61, R136). -/
theorem resetState_countsBounded (k : ResetKind) (s : State) : countsBounded (resetState k s) := by
  have fresh : countsBounded State.reset := by decide
  exact fresh

theorem countsBounded_resets : KeptByResets countsBounded where
  losePower s h := by
    unfold losePower
    dsimp only
    split <;> exact h
  doReset s k _ _ := by
    unfold doReset
    dsimp only
    split
    · exact resetState_countsBounded k s
    · exact raise_countsBounded _ _ (resetState_countsBounded k s)

/-! ## Every step -/

theorem withinCapacity_iff (s : State) : s.withinCapacity ↔ storesBounded s ∧ countsBounded s := by
  unfold State.withinCapacity storesBounded countsBounded
  tauto

/-- Settles O53: every part that a command writes stays within its bounds. -/
theorem stepsKeepCapacities : Obligations.StepsKeepCapacities := by
  intro s t h stepped
  obtain ⟨stores, counts⟩ := (withinCapacity_iff s).mp h
  exact (withinCapacity_iff t).mpr
    ⟨storesBounded_writes.all.step storesBounded_resets (fun _ _ h => h) stores stepped,
      countsBounded_writes.all.step countsBounded_resets (fun _ _ h => h) counts stepped⟩

end Sys2Proof.Proofs
end

section
/-! PROOFS. The values that an ADJUST may apply (10.4): which values of a live parameter leave an entry legal, and where the
two clamping steps put a carried value among them. -/

namespace Sys2Proof.Proofs

open Sys2Proof.Machine Sys2Proof.Laws

/-! ## Legal values of one parameter (R138, R160) -/

theorem forall_det {P : Det → Prop} : (∀ w, P w) ↔ P .z ∧ P .h :=
  ⟨fun h => ⟨h _, h _⟩, fun h w => by cases w; exacts [h.1, h.2]⟩

/-- The cross-constraints of an entry, one by one (R138). -/
theorem consistent_iff (p : Profile) : p.consistent = true ↔
    (∀ w, (p.det.get w).off < (p.det.get w).on ∧ (p.det.get w).ons ≤ (p.det.get w).on) ∧ p.lmin ≤ p.lw ∧
    p.dsep ≤ p.lmin ∧ p.lb + p.lw ≤ 12288 ∧ 2 ^ p.pol ≤ p.lw ∧ p.vs < p.vp ∧ p.snrC ≤ p.snrB ∧ p.snrB ≤ p.snrA ∧
    p.riseA ≤ p.riseB ∧ p.smin < p.smax := by
  simp only [forall_det, Profile.consistent, DetParams.consistent, Bool.and_eq_true, decide_eq_true_eq, Pair.get, and_assoc]

theorem inRange_bounds {i : Item} {v : Nat} : i.inRange v = true ↔ i.lo ≤ v ∧ v ≤ i.hi := by
  simp only [Item.inRange, Bool.and_eq_true, decide_eq_true_eq]

/-- One item's value replaced leaves every item in its range exactly if the value is in the item's (R138). -/
theorem inRange_put_iff {p : Profile} (h : p.inRange = true) (i : Item) (v : Nat) :
    (p.put i v).inRange = true ↔ i.inRange v = true := by
  refine ⟨fun all => ?_, fun ranged => inRange_put ranged h⟩
  have item := (inRange_iff _).mp all i
  rwa [get_put, if_pos rfl] at item

/-- The interval of a live parameter is what the entry's constraints leave it (R160). -/
theorem consistent_put_iff {p : Profile} (h : p.legal) {i : Item} (live : i.live = true) {v : Nat}
    (ranged : i.inRange v = true) :
    (p.put i v).consistent = true ↔ (p.interval i).1 ≤ v ∧ v ≤ (p.interval i).2 := by
  obtain ⟨range, consistent⟩ := h
  have bounds (j : Item) : j.lo ≤ p.get j ∧ p.get j ≤ j.hi := inRange_bounds.mp ((inRange_iff p).mp range j)
  rw [consistent_iff] at consistent ⊢
  obtain ⟨thresholds, lmin, dsep, span, pol, share, snrC, snrB, rise, smin⟩ := consistent
  have on (w : Det) := bounds (.on w)
  have lw := bounds .lw
  have lb := bounds .lb
  have vp := bounds .vp
  have smax := bounds .smax
  have log : (2 ^ v ≤ p.lw ↔ v ≤ Nat.log2 p.lw) := (Nat.le_log2 (by simp only [Item.lo] at lw; exact (Nat.lt_of_lt_of_le (by decide) lw.1).ne')).symm
  rw [inRange_bounds] at ranged
  simp only [Item.lo, Item.hi, Profile.get] at on lw lb vp smax
  clear bounds range
  cases i with
  | on w | off w | ons w =>
    cases w <;> simp_all [forall_det, Profile.put, Profile.interval, Item.lo, Item.hi, Pair.get, Pair.set] <;> omega
  | floor w => cases w <;> simp_all [forall_det, Profile.put, Profile.interval, Item.lo, Item.hi, Pair.get, Pair.set]
  | hp | cf | blk | sta w | lta w | level => cases live
  | pol => simp_all [Profile.put, Profile.interval, Item.lo, Item.hi]
  | _ => simp_all [Profile.put, Profile.interval, Item.lo, Item.hi] <;> omega

/-- A value of a live parameter leaves a legal entry legal exactly if it lies in the parameter's range and in the interval
that the entry's other values leave it (R138, R160). -/
theorem legal_put_iff {p : Profile} (h : p.legal) {i : Item} (live : i.live = true) (v : Nat) :
    (p.put i v).legal ↔ (i.lo ≤ v ∧ v ≤ i.hi) ∧ (p.interval i).1 ≤ v ∧ v ≤ (p.interval i).2 := by
  rw [Profile.legal, inRange_put_iff h.1, ← inRange_bounds]
  exact and_congr_right fun ranged => consistent_put_iff h live ranged

/-- An item's own value put back changes nothing. -/
theorem put_get (p : Profile) (i : Item) : p.put i (p.get i) = p := by
  cases i with
  | sta w | lta w | on w | off w | ons w | floor w => cases w <;> rfl
  | _ => rfl

/-! ## The two clamping steps (R160) -/

/-- A valid gate that has passed its checks names a live parameter, with bounds in order within its range (R158). -/
theorem gate_bounds {g : Gate} (valid : g.valid = true) (legal : g.legal) :
    g.item.live = true ∧ g.item.lo ≤ g.low ∧ g.low ≤ g.high ∧ g.high ≤ g.item.hi := by
  obtain ⟨range, consistent⟩ := legal valid
  simp only [Gate.inRange, Gate.consistent, Bool.and_eq_true, decide_eq_true_eq] at range consistent
  unfold Gate.item
  cases item : itemOf g.param with
  | none => simp [item] at consistent
  | some i =>
    simp only [item, Option.map_some, Option.getD_some, Bool.and_eq_true] at range consistent ⊢
    obtain ⟨low, high⟩ := range.2
    exact ⟨consistent.1.1, (inRange_bounds.mp low).1, consistent.2, (inRange_bounds.mp high).2⟩

/-- The ends of a live parameter's interval enclose its present value, so they meet its range. -/
theorem interval_encloses {p : Profile} (h : p.legal) {i : Item} (live : i.live = true) :
    (i.lo ≤ p.get i ∧ p.get i ≤ i.hi) ∧ (p.interval i).1 ≤ p.get i ∧ p.get i ≤ (p.interval i).2 :=
  (legal_put_iff h live _).mp ((put_get p i).symm ▸ h)

/-- A value clamped twice, first to the gate's bounds, then to the interval. -/
theorem clampValue_eq {g : Gate} (order : g.low ≤ g.high) (p : Profile) (i : Item) (v : Int) :
    (clampValue g p i v : Int) =
      if max (g.low : Int) (min (g.high : Int) v) < (p.interval i).1 then ((p.interval i).1 : Int)
      else if ((p.interval i).2 : Int) < max (g.low : Int) (min (g.high : Int) v) then ((p.interval i).2 : Int)
      else max (g.low : Int) (min (g.high : Int) v) := by
  have bounded : clampTo g.low g.high v = max (g.low : Int) (min (g.high : Int) v) := by
    unfold clampTo
    split
    · omega
    · split <;> omega
  rw [clampValue, bounded, Int.toNat_of_nonneg]
  · rfl
  · unfold clampTo
    split
    · omega
    · split <;> omega

/-- Settles O23: the interval meets the parameter's range in an interval around its present value, and the gate's bounds
lie in that range, so the clamped value is the nearest legal one. -/
theorem clampedValuesKeepTheEntryLegal : Obligations.ClampedValuesKeepTheEntryLegal := by
  intro g p carried valid gate legal
  obtain ⟨live, low, order, high⟩ := gate_bounds valid gate
  obtain ⟨range, inside⟩ := interval_encloses legal live
  dsimp only
  simp only [legal_put_iff legal live]
  have applied := clampValue_eq order p g.item
  refine ⟨?allowed, fun v above below allowed => ?itself, fun v allowed reached => ?reached, fun v allowed other => ?nearest⟩
  case allowed =>
    have value := applied carried
    split_ifs at value <;> omega
  case itself =>
    have value := applied v
    split_ifs at value <;> omega
  case reached =>
    have value := applied carried
    split_ifs at value <;> omega
  case nearest =>
    have value := applied carried
    split_ifs at value <;> omega

end Sys2Proof.Proofs
end

section
/-! PROOFS. What every step keeps of the settings, the trials and the store's images (chapters 9 and 10). -/

namespace Sys2Proof.Proofs

open Sys2Proof.Machine Sys2Proof.Laws

/-! ## Trials (R141, R161 to R165) -/

/-- One item's value replaced twice is the second value. -/
theorem put_put (p : Profile) (i : Item) (v u : Nat) : (p.put i v).put i u = p.put i u := by
  cases i with
  | sta w | lta w | on w | off w | ons w | floor w => cases w <;> rfl
  | _ => rfl

/-- A discard on an entry that is written anew leaves the other entries' trials as they were (R141, R162). -/
theorem unwinds_discard (e : Fin 8) (new : Profile) (ts : List Trial) : ∀ ps : Vector Profile 8, unwinds ps ts →
    unwinds (ps.set e new) (ts.filter fun t => t.entry != e) := by
  induction ts with
  | nil => exact fun _ _ => trivial
  | cons t rest ih =>
    intro ps h
    obtain ⟨now, legal, further⟩ := h
    have kept := ih _ further
    by_cases same : t.entry = e
    · rw [List.filter_cons_of_neg (by simp [same])]
      subst same
      rwa [Vector.set_set] at kept
    · rw [List.filter_cons_of_pos (by simp [same])]
      have apart : (e : Nat) ≠ t.entry := fun h => same (Fin.ext h.symm)
      have untouched : (ps.set e new)[t.entry] = ps[t.entry] := Vector.getElem_set_ne _ _ apart
      rw [Vector.set_comm _ _ apart.symm] at kept
      exact ⟨by rw [untouched]; exact now, by rw [untouched]; exact legal, by rw [untouched]; exact kept⟩

theorem vector_set_all {α : Type} {n : Nat} {P : α → Prop} {v : Vector α n} (all : ∀ i : Fin n, P v[i]) {k : Fin n} {x : α}
    (new : P x) (i : Fin n) : P (v.set k x)[i] := by
  by_cases same : (k : Nat) = i
  · have value : (v.set k x)[i] = x := by simp [same]
    rw [value]
    exact new
  · have value : (v.set k x)[i] = v[i] := Vector.getElem_set_ne _ _ same
    rw [value]
    exact all i

/-- With every trial taken back every entry is legal (R149). -/
theorem untried_legal (ts : List Trial) : ∀ ps : Vector Profile 8, (∀ e : Fin 8, ps[e].legal) → unwinds ps ts →
    ∀ e : Fin 8, (untried ps ts)[e].legal := by
  induction ts with
  | nil => exact fun _ legal _ => legal
  | cons t rest ih =>
    intro ps legal h
    obtain ⟨_, restored, further⟩ := h
    exact ih _ (vector_set_all legal restored) further

/-! ## The station record and the gates (9.4, 10.3) -/

/-- The items of a station record, each by its number, lie in their ranges (9.4). -/
abbrev stationRanged (st : Station) : Prop := ((List.range 16).zip st.values).all (fun iv => stationInRange iv.1 iv.2) = true

theorem mapOf_mapCode (m : Trio LinkPos) : mapOf (mapCode m) = some m := by
  obtain ⟨z, n, e⟩ := m
  cases z <;> cases n <;> cases e <;> rfl

theorem stationRanged_iff (st : Station) : stationRanged st ↔
    rates.contains st.rate = true ∧ (∀ g ∈ [st.trim.z, st.trim.n, st.trim.e], 16384 ≤ g ∧ g ≤ 49152) ∧
    (∀ c ∈ [st.clip.z, st.clip.n, st.clip.e], 1 ≤ c ∧ c ≤ 8388607) ∧ st.gd ≤ 65535 ∧ st.gap ≤ 16 := by
  have bit (b : Bool) : b.toNat ≤ 1 := Bool.toNat_le b
  have number : st.dflt.val ≤ 7 := Nat.le_of_lt_succ st.dflt.isLt
  simp only [stationRanged, Station.values, List.range, List.range.loop, List.zip, List.zipWith, List.all_cons,
    List.all_nil, stationInRange, mapOf_mapCode, bit, number, Option.isSome_some, decide_true, Bool.and_true,
    Bool.true_and, Bool.and_eq_true, decide_eq_true_eq, List.forall_mem_cons, List.not_mem_nil, false_imp_iff,
    implies_true, and_true, and_assoc]

theorem stationRanged_put {st : Station} {id v : Nat} (ranged : stationInRange id v = true) (h : stationRanged st) :
    stationRanged (st.put id v) := by
  simp only [stationRanged_iff] at h ⊢
  unfold stationInRange at ranged
  unfold Station.put
  split at ranged <;> simp_all

theorem stationRanged_putAll (items : List (Nat × Nat)) : ∀ st : Station,
    (items.all fun iv => stationInRange iv.1 iv.2) = true → stationRanged st → stationRanged (st.putAll items) := by
  induction items with
  | nil => exact fun _ _ h => h
  | cons iv rest ih =>
    intro st all h
    rw [List.all_cons, Bool.and_eq_true] at all
    exact ih _ all.2 (stationRanged_put all.1 h)

theorem unbe_lt (bs : List Byte) : unbe bs < 256 ^ bs.length := by
  induction bs with
  | nil => exact Nat.one_pos
  | cons b bs ih =>
    have one : unbe [b] < 256 := by simpa [unbe] using b.isLt
    have split' : unbe (b :: bs) = unbe [b] * 256 ^ bs.length + unbe bs := unbe_append [b] bs
    rw [split', List.length_cons, Nat.pow_succ]
    calc unbe [b] * 256 ^ bs.length + unbe bs < unbe [b] * 256 ^ bs.length + 256 ^ bs.length := by omega
      _ = (unbe [b] + 1) * 256 ^ bs.length := by ring
      _ ≤ 256 * 256 ^ bs.length := Nat.mul_le_mul_right _ one
      _ = 256 ^ bs.length * 256 := Nat.mul_comm _ _

/-- A field of `len` bytes is a number below 256 to that power. -/
theorem field_lt (bs : List Byte) (off len : Nat) : field bs off len < 256 ^ len :=
  (unbe_lt _).trans_le (Nat.pow_le_pow_right (by decide) (List.length_take_le _ _))

/-- The fields of a GATE WRITE body are read from the bytes that carry them (11.3). -/
theorem gateOf_carried (body : List Byte) : (gateOf body).carried = true := by
  have byte (off : Nat) : field body off 1 < 256 := field_lt body off 1
  have word (off : Nat) : field body off 4 < 2 ^ 32 := field_lt body off 4
  have dur : field body 14 3 < 2 ^ 24 := field_lt body 14 3
  simp only [Gate.carried, gateOf, List.all_cons, List.all_nil, byte, word, dur, decide_true, Bool.and_self]

/-! ## The images (9.5) -/

theorem factoryImage_legal : factoryImage.legal := by decide

/-- The invariant: settings, trials and images legal, no mark beside a save in flight. -/
abbrev settingsKept (s : State) : Prop := s.settingsLegal ∧ s.storeAgrees

theorem settingsKept_free : FreeOfReports settingsKept where

/-- An entry rewritten legally, its trials discarded (R141, R162). -/
theorem settingsKept_rewritten {s : State} {e : Fin 8} {new : Profile} (legal : new.legal) (h : settingsKept s) :
    settingsKept (discardTrials e (s.setProfile e new)) := by
  obtain ⟨⟨profiles, station, gates, live, back, image, writing⟩, store⟩ := h
  exact ⟨⟨vector_set_all profiles legal, station, gates, fun t mem => live t (List.mem_of_mem_filter mem),
    unwinds_discard e new _ _ back, image, writing⟩, store⟩

/-- The value that an ADJUST applies is legal for the entry that its gate resolves to (R160). -/
theorem adjusted_legal {s : State} (h : settingsKept s) {k : Fin 16} (valid : s.settings.gates[k].valid = true) (v : Int)
    (e : Fin 8) :
    s.settings.gates[k].item.live = true ∧
      (s.settings.profiles[e].put s.settings.gates[k].item
        (clampValue s.settings.gates[k] s.settings.profiles[e] s.settings.gates[k].item v)).legal := by
  obtain ⟨⟨profiles, _, gates, _⟩, _⟩ := h
  exact ⟨(gate_bounds valid (gates k).1).1,
    (clampedValuesKeepTheEntryLegal _ _ v valid (gates k).1 (profiles e)).1⟩

theorem settingsKept_parts : KeptByParts settingsKept where
  raise := settingsKept_free.raise
  enterDone s i rec _ := settingsKept_free.enterDone (fun _ h => h) s i rec
  popTrial s t rest top h := by
    obtain ⟨⟨profiles, station, gates, live, back, image, writing⟩, store⟩ := h
    rw [top] at back
    obtain ⟨_, restored, further⟩ := back
    exact ⟨⟨vector_set_all profiles restored, station, gates,
      fun t' mem => live t' (top ▸ List.mem_cons_of_mem _ mem), further, image, writing⟩, store⟩

theorem settingsKept_writes : KeptByWrites settingsKept where
  toKeptByParts := settingsKept_parts
  missPulse := settingsKept_free.missPulse fun _ _ _ h => h
  pulseEdge := settingsKept_free.pulseEdge fun _ _ _ h => h
  admitItem s w _ _ := settingsKept_free.admitItem s w
  collect := settingsKept_free.collect
  setProfile s e new range consistent h := settingsKept_rewritten ⟨range (h.1.1 e).1, consistent⟩ h
  writeStation s items m ranged oneToOne h := by
    obtain ⟨⟨profiles, station, rest⟩, store⟩ := h
    exact ⟨⟨profiles, ⟨stationRanged_putAll items _ ranged station.1, oneToOne⟩, rest⟩, store⟩
  writeGate s k body checked h := by
    obtain ⟨⟨profiles, station, gates, rest⟩, store⟩ := h
    exact ⟨⟨profiles, station, vector_set_all (P := fun g : Gate => g.legal ∧ g.carried = true) gates
      ⟨checked, gateOf_carried body⟩, rest⟩, store⟩
  adjustSet s k v valid h := settingsKept_rewritten (adjusted_legal h valid v _).2 h
  adjustTry s k v d eff n valid _ h := by
    have applied := adjusted_legal h valid v (s.settings.gates[k].resolve s.settings.active)
    obtain ⟨⟨profiles, station, gates, live, back, image, writing⟩, store⟩ := h
    refine ⟨⟨vector_set_all profiles applied.2, station, gates, ?_, ?_, image, writing⟩, store⟩
    · rintro t (_ | ⟨_, mem⟩)
      · exact applied.1
      · exact live t mem
    · simp only [adjustTry, storeValue, State.setProfile, unwinds]
      simpa [get_put, put_put, put_get, back] using profiles _
  storeSave s idle h := by
    obtain ⟨⟨profiles, station, gates, live, back, image, writing⟩, store⟩ := h
    refine ⟨⟨profiles, station, gates, live, back, nofun, ?_⟩, fun _ => rfl⟩
    rintro im ⟨⟩
    exact ⟨untried_legal _ _ profiles back, station, gates⟩

/-- The working tables that a reset loads, the locks apart (R145, R151). -/
theorem loadedSettings_tables (k : ResetKind) (s : State) :
    let im := if s.store.mark then s.store.image else factoryImage
    (loadedSettings k s).profiles = im.profiles ∧ (loadedSettings k s).station = im.station ∧
      (loadedSettings k s).gates = im.gates := by
  unfold loadedSettings
  dsimp only
  split <;> exact ⟨rfl, rfl, rfl⟩

theorem settingsKept_losePower (s : State) (h : settingsKept s) : settingsKept (losePower s) := by
  unfold losePower
  dsimp only
  split
  · exact h
  · obtain ⟨⟨profiles, station, gates, live, back, -⟩, -⟩ := h
    exact ⟨⟨profiles, station, gates, live, back, fun marked => absurd marked Bool.false_ne_true, fun _ none' => nomatch none'⟩,
      fun inFlight => nomatch inFlight⟩

theorem settingsKept_saved (s : State) (im : Image) (inFlight : s.store.writing = some im) (h : settingsKept s) :
    settingsKept { s with store := ⟨im, true, none, false⟩ } := by
  obtain ⟨⟨profiles, station, gates, live, back, -, writing⟩, -⟩ := h
  exact ⟨⟨profiles, station, gates, live, back, fun _ => writing im inFlight, fun _ none' => nomatch none'⟩,
    fun inFlight => nomatch inFlight⟩

theorem resetState_settingsKept (k : ResetKind) {s : State} (h : settingsKept s) : settingsKept (resetState k s) := by
  obtain ⟨⟨-, -, -, -, -, image, -⟩, -⟩ := h
  have legal : (if s.store.mark then s.store.image else factoryImage).legal := by
    split
    next marked => exact image marked
    next => exact factoryImage_legal
  obtain ⟨profiles', station', gates'⟩ := loadedSettings_tables k s
  obtain ⟨profiles, station, gates⟩ := legal
  rw [← profiles'] at profiles
  rw [← station'] at station
  rw [← gates'] at gates
  exact ⟨⟨profiles, station, gates, fun _ mem => absurd mem List.not_mem_nil, trivial, image,
    fun _ writing => absurd writing (Option.not_mem_none _)⟩, fun writing => absurd writing Bool.false_ne_true⟩

theorem settingsKept_resets : KeptByResets settingsKept where
  losePower := settingsKept_losePower
  saved := settingsKept_saved
  doReset s k _ h := by
    unfold doReset
    dsimp only
    split
    · exact resetState_settingsKept k h
    · exact settingsKept_free.raise _ _ (resetState_settingsKept k h)

/-- Settles O58: each write of the settings has its own check, and the trials unwind to legal entries through all of them. -/
theorem stepsKeepSettingsLegal : Obligations.StepsKeepSettingsLegal :=
  fun _ _ legal store stepped => settingsKept_writes.all.step settingsKept_resets (fun _ _ h => h) ⟨legal, store⟩ stepped

end Sys2Proof.Proofs
end

section
/-! PROOFS. What every step keeps of the Report Queue (chapters 6 and 8): the attempts of an event leave nothing waiting
beside two free places, and every record they put into the queue carries on its numbering. -/

namespace Sys2Proof.Proofs

open Sys2Proof.Machine Sys2Proof.Laws

/-! ## What waits (R127) -/

/-- Every DONE slot carries its record and its completion order (R72). -/
abbrev doneCarried (s : State) : Prop := ∀ i : Fin 8, (s.slot i).st = .done → (s.slot i).record.isSome ∧ (s.slot i).order.isSome

theorem mem_eight (i : Fin 8) : i ∈ eight := eight_eq_finRange ▸ List.mem_finRange i

theorem waitingItems_ne_nil_of_done {s : State} {i : Fin 8} (done : (s.slot i).st = .done)
    (order : (s.slot i).order.isSome) : s.waitingItems ≠ [] := by
  obtain ⟨d, order⟩ := Option.isSome_iff_exists.mp order
  have dated : (d, Waiting.pick i) ∈ eight.filterMap fun i =>
      if (s.slot i).st = .done then (s.slot i).order.map fun d => (d, Waiting.pick i) else none :=
    List.mem_filterMap.mpr ⟨i, mem_eight i, by rw [if_pos done, order]; rfl⟩
  exact List.ne_nil_of_mem (List.mem_append_left _ dated)

/-- The scan finds an item wherever one waits. -/
theorem oldestWaiting_isSome_of_waits {s : State} (carried : doneCarried s) (waiting : ¬ s.nothingWaits) :
    s.oldestWaiting.isSome := by
  by_contra none'
  refine waiting ⟨fun i done => none' ?_, fun k => ?_⟩
  · exact oldestWaiting_isSome (waitingItems_ne_nil_of_done done (carried i done).2)
  · by_contra pending
    obtain ⟨p, pending⟩ := Option.ne_none_iff_exists'.mp pending
    exact none' (oldestWaiting_isSome (waitingItems_ne_nil_of_notice pending))

theorem nothingWaits_of_oldest_none {s : State} (carried : doneCarried s) (oldest : s.oldestWaiting = none) :
    s.nothingWaits := by
  by_contra waiting
  have := oldestWaiting_isSome_of_waits carried waiting
  rw [oldest] at this
  cases this

theorem waits_pos_of_oldest {s : State} {w : Waiting} (oldest : s.oldestWaiting = some w) : 0 < waits s := by
  have itWaits := oldest_waits oldest
  unfold waits
  cases w with
  | pick i =>
    refine Nat.add_pos_left (List.countP_pos_iff.mpr ⟨i, mem_eight i, ?_⟩) _
    simpa using itWaits
  | notice k => exact Nat.add_pos_right _ (List.countP_pos_iff.mpr ⟨k, mem_eight k, itWaits⟩)

/-- An item's admission leaves every other slot as it was (R129, R130). -/
theorem admitItem_doneCarried {s : State} {w : Waiting} (oldest : s.oldestWaiting = some w) (carried : doneCarried s) :
    doneCarried (admitItem w s) := by
  have itWaits := oldest_waits oldest
  cases w with
  | pick i =>
    obtain ⟨freed, others, -⟩ := admitPick_frees (carried i itWaits.1).1
    intro j done
    by_cases same : j = i
    · rw [same, show admitItem (.pick i) s = admitPick i s from rfl, freed] at done
      cases done
    · rw [show admitItem (.pick i) s = admitPick i s from rfl, others j same] at done ⊢
      exact carried j done
  | notice k =>
    obtain ⟨-, -, slots⟩ := admitNotice_clears itWaits
    intro j done
    rw [show admitItem (.notice k) s = admitNotice k s from rfl, slots j] at done ⊢
    exact carried j done

/-! ## The numbering of the queue (R108, R129) -/

/-- May a record stand behind another (R108)? A group record stands behind the pick of its S alone. -/
def mayFollow (a b : Record) : Prop :=
  match b with
  | .group g =>
    match a with
    | .pick p => p.seq = some g.sSeq ∧ p.group = some g.group ∧ p.role = g.role
    | _ => False
  | _ => True

theorem groupsBehindPicks_iff (q : List Record) : groupsBehindPicks q = true ↔ q.IsChain mayFollow := by
  induction q with
  | nil => simp [groupsBehindPicks]
  | cons a rest ih =>
    cases rest with
    | nil => cases a <;> simp [groupsBehindPicks]
    | cons b rest =>
      rw [List.isChain_cons_cons, ← ih]
      cases a <;> cases b <;> simp [groupsBehindPicks, mayFollow, and_assoc]

/-- The numbers of n picks, the last of them one below the counter. -/
def numbersBelow (counter : BitVec 32) (n : Nat) : List (Option (BitVec 32)) :=
  (List.range n).map fun j => some (counter - BitVec.ofNat 32 (n - j))

theorem queueNumbered_iff (s : State) : s.queueNumbered ↔
    pickSeqs s.reports.queue = numbersBelow s.reports.pickSeq (pickSeqs s.reports.queue).length ∧
      s.reports.queue.IsChain mayFollow := by
  rw [State.queueNumbered, groupsBehindPicks_iff]
  rfl

theorem numbersBelow_succ (counter : BitVec 32) (n : Nat) :
    numbersBelow counter n ++ [some counter] = numbersBelow (counter + 1) (n + 1) := by
  rw [numbersBelow, numbersBelow, List.range_succ, List.map_append]
  congr 1
  · refine List.map_congr_left fun j mem => ?_
    rw [List.mem_range] at mem
    have one : n + 1 - j = (n - j) + 1 := by omega
    rw [one, BitVec.ofNat_add]
    exact congrArg some (add_sub_add_right_eq_sub counter _ 1).symm
  · simp

theorem numbersBelow_drop (counter : BitVec 32) (n m : Nat) :
    (numbersBelow counter n).drop m = numbersBelow counter (n - m) := by
  refine List.ext_getElem (by simp [numbersBelow]) fun j _ _ => ?_
  simp only [numbersBelow, List.getElem_drop, List.getElem_map, List.getElem_range]
  rw [show n - (m + j) = n - m - j by omega]

theorem pickSeqs_append (q q' : List Record) : pickSeqs (q ++ q') = pickSeqs q ++ pickSeqs q' := List.filterMap_append

/-- Records that leave from the front leave the numbering of the rest (R133). -/
theorem queueNumbered_drop {s : State} (n : Nat) (h : s.queueNumbered) :
    State.queueNumbered { s with reports := { s.reports with queue := s.reports.queue.drop n } } := by
  rw [queueNumbered_iff] at h ⊢
  obtain ⟨numbers, groups⟩ := h
  refine ⟨?_, groups.drop n⟩
  have parts := pickSeqs_append (s.reports.queue.take n) (s.reports.queue.drop n)
  rw [List.take_append_drop] at parts
  have rest : pickSeqs (s.reports.queue.drop n) =
      (pickSeqs s.reports.queue).drop (pickSeqs (s.reports.queue.take n)).length := by
    rw [parts, List.drop_left]
  have length : (pickSeqs (s.reports.queue.drop n)).length =
      (pickSeqs s.reports.queue).length - (pickSeqs (s.reports.queue.take n)).length := by
    rw [parts, List.length_append]
    omega
  dsimp only
  rw [length, ← numbersBelow_drop, ← numbers, rest]

/-- What an admission appends to the queue: a record that may stand there, with the group record that it completes. -/
theorem admitItem_appends {s : State} {w : Waiting} (oldest : s.oldestWaiting = some w) (carried : doneCarried s) :
    (∃ p behind, (admitItem w s).reports.queue = s.reports.queue ++ .pick p :: behind ∧
      p.seq = some s.reports.pickSeq ∧ (admitItem w s).reports.pickSeq = s.reports.pickSeq + 1 ∧
      (behind = [] ∨ ∃ g, behind = [.group g] ∧ mayFollow (.pick p) (.group g))) ∨
    ∃ n, (admitItem w s).reports.queue = s.reports.queue ++ [.notice n] ∧
      (admitItem w s).reports.pickSeq = s.reports.pickSeq := by
  have itWaits := oldest_waits oldest
  cases w with
  | pick i =>
    obtain ⟨p, record⟩ := Option.isSome_iff_exists.mp (carried i itWaits.1).1
    obtain ⟨role, group, behind, a, g, shape, completed⟩ := associate_shape p s.reports.pickSeq (s.slot i).params.smin
      (s.slot i).params.smax { s with reports := { s.reports with pickSeq := s.reports.pickSeq + 1, blocked := false } }
    have queue := admitPick_some record
    rw [shape] at queue
    refine .inl ⟨{ p with seq := some s.reports.pickSeq, role := role, group := group }, behind, ?_, rfl, ?_, ?_⟩
    · exact congrArg (·.reports.queue) queue
    · exact congrArg (·.reports.pickSeq) queue
    · rcases completed with ⟨-, none'⟩ | ⟨-, gr, some', seq, group, role⟩
      · exact .inl none'
      · exact .inr ⟨gr, some', congrArg some seq.symm, group, role⟩
  | notice k =>
    obtain ⟨p, pending⟩ := Option.isSome_iff_exists.mp itWaits
    have queue := admitNotice_some pending
    exact .inr ⟨_, congrArg (·.reports.queue) queue, congrArg (·.reports.pickSeq) queue⟩

/-- An admitted item carries the numbering on (R129). -/
theorem admitItem_queueNumbered {s : State} {w : Waiting} (oldest : s.oldestWaiting = some w) (carried : doneCarried s)
    (h : s.queueNumbered) : (admitItem w s).queueNumbered := by
  rw [queueNumbered_iff] at h ⊢
  obtain ⟨numbers, groups⟩ := h
  rcases admitItem_appends oldest carried with ⟨p, behind, queue, seq, counter, group⟩ | ⟨n, queue, counter⟩
  · rw [queue, counter]
    have only : pickSeqs (.pick p :: behind) = [some s.reports.pickSeq] := by
      rcases group with rfl | ⟨g, rfl, -⟩ <;> simp [pickSeqs, seq]
    refine ⟨?_, List.isChain_append.mpr ⟨groups, ?_, ?_⟩⟩
    · rw [pickSeqs_append, only, List.length_append, List.length_singleton, ← numbersBelow_succ, ← numbers]
    · rcases group with rfl | ⟨g, rfl, follows⟩
      · exact List.isChain_singleton _
      · exact List.isChain_cons_cons.mpr ⟨follows, List.isChain_singleton _⟩
    · rintro a - b first
      cases first
      trivial
  · rw [queue, counter]
    have no : pickSeqs [.notice n] = [] := rfl
    refine ⟨?_, List.isChain_append.mpr ⟨groups, List.isChain_singleton _, ?_⟩⟩
    · rw [pickSeqs_append, no, List.append_nil]
      exact numbers
    · rintro a - b first
      cases first
      trivial

theorem admitItem_queue_grows {s : State} {w : Waiting} (oldest : s.oldestWaiting = some w) (carried : doneCarried s) :
    ∃ r rs, (admitItem w s).reports.queue = s.reports.queue ++ r :: rs := by
  rcases admitItem_appends oldest carried with ⟨p, behind, queue, -⟩ | ⟨n, queue, -⟩
  · exact ⟨_, _, queue⟩
  · exact ⟨_, [], queue⟩

/-! ## The attempts of one event (R128) -/

/-- An attempt that finds too few places writes the blocked indication alone (R135). -/
theorem blockedAttempt_eq (w : Waiting) (s : State) :
    ∃ b, blockedAttempt w s = { s with reports := { s.reports with blocked := b } } := by
  unfold blockedAttempt
  split
  · exact ⟨true, rfl⟩
  · exact ⟨s.reports.blocked, rfl⟩

theorem placesFor_le_two (s : State) (w : Waiting) : s.placesFor w ≤ 2 := by
  unfold State.placesFor
  split
  · split
    · split <;> decide
    · decide
  · decide

/-- The attempts end with nothing waiting, or with an item that does not fit. -/
theorem attempts_settle (n : Nat) : ∀ s : State, doneCarried s → s.queueNumbered → waits s ≤ n →
    (attempts n s).waitsOnlyWhenFull ∧ (attempts n s).queueNumbered := by
  induction n with
  | zero =>
    intro s carried numbered few
    refine ⟨⟨carried, fun waiting => ?_⟩, numbered⟩
    obtain ⟨w, oldest⟩ := Option.isSome_iff_exists.mp (oldestWaiting_isSome_of_waits carried waiting)
    exact absurd (waits_pos_of_oldest oldest) (by omega)
  | succ n ih =>
    intro s carried numbered few
    unfold attempts
    split
    next oldest => exact ⟨⟨carried, fun waiting => absurd (nothingWaits_of_oldest_none carried oldest) waiting⟩, numbered⟩
    next w oldest =>
      split
      next fits =>
        have fewer := (admitItem_waits oldest fun i done => (carried i done).1).1
        exact ih _ (admitItem_doneCarried oldest carried) (admitItem_queueNumbered oldest carried numbered) (by omega)
      next tight =>
        have two := placesFor_le_two s w
        have full : Config.queueCap ≤ s.reports.queue.length + 1 := by
          unfold State.places at tight
          omega
        obtain ⟨b, same⟩ := blockedAttempt_eq w s
        rw [same]
        exact ⟨⟨carried, fun _ => full⟩, numbered⟩

theorem admitAll_settles {s : State} (carried : doneCarried s) (numbered : s.queueNumbered) :
    (admitAll s).waitsOnlyWhenFull ∧ (admitAll s).queueNumbered :=
  attempts_settle 16 s carried numbered (waits_le s)

/-- The attempts only add to the queue. -/
theorem attempts_queue_prefix (n : Nat) : ∀ s : State, doneCarried s → s.reports.queue <+: (attempts n s).reports.queue := by
  induction n with
  | zero => exact fun _ _ => List.prefix_rfl
  | succ n ih =>
    intro s carried
    unfold attempts
    split
    · exact List.prefix_rfl
    next w oldest =>
      split
      · obtain ⟨r, rs, grown⟩ := admitItem_queue_grows oldest carried
        have further := ih _ (admitItem_doneCarried oldest carried)
        rw [grown] at further
        exact (List.prefix_append _ _).trans further
      · obtain ⟨b, same⟩ := blockedAttempt_eq w s
        rw [same]

/-- With the queue empty an item that waits is admitted. -/
theorem admitAll_fills {s : State} (carried : doneCarried s) (waiting : ¬ s.nothingWaits) (empty : s.reports.queue = []) :
    (admitAll s).reports.queue ≠ [] := by
  obtain ⟨w, oldest⟩ := Option.isSome_iff_exists.mp (oldestWaiting_isSome_of_waits carried waiting)
  have fits : s.placesFor w ≤ s.places := by
    have two := placesFor_le_two s w
    simp only [State.places, empty, List.length_nil, Config.queueCap]
    omega
  obtain ⟨r, rs, grown⟩ := admitItem_queue_grows oldest carried
  rw [admitAll_fits oldest (fun i done => (carried i done).1) fits]
  have further := attempts_queue_prefix 16 _ (admitItem_doneCarried oldest carried)
  rw [grown] at further
  intro none'
  rw [show (attempts 16 (admitItem w s)).reports.queue = [] from none', List.prefix_nil] at further
  simp at further

/-! ## The parts that touch the queue -/

/-- The invariant. -/
abbrev queueKept (s : State) : Prop := s.waitsOnlyWhenFull ∧ s.queueNumbered

theorem post_doneCarried (d : NoticeData) {s : State} (carried : doneCarried s) : doneCarried (post d s) := by
  simpa only [doneCarried, post_slot] using carried

theorem post_queueNumbered (d : NoticeData) {s : State} (numbered : s.queueNumbered) : (post d s).queueNumbered := by
  unfold post
  split <;> exact numbered

theorem raise_queueKept (d : NoticeData) (s : State) (h : queueKept s) : queueKept (raise d s) := by
  obtain ⟨⟨carried, full⟩, numbered⟩ := h
  unfold raise
  split
  · exact admitAll_settles (post_doneCarried d carried) (post_queueNumbered d numbered)
  next p pending =>
    have waiting : ¬ s.nothingWaits := fun idle => by simp [idle.2 d.key] at pending
    exact ⟨⟨post_doneCarried d carried, fun _ => by rw [post_queue]; exact full waiting⟩, post_queueNumbered d numbered⟩

/-- The slot that enters DONE carries its record (R72). -/
theorem doneCarried_setSlot {s : State} {i : Fin 8} {x : Slot} (carries : x.record.isSome ∧ x.order.isSome)
    (carried : doneCarried s) : doneCarried (s.setSlot i x) := by
  intro j done
  by_cases same : j = i
  · rw [same, setSlot_slot_self]
    exact carries
  · rw [setSlot_slot_ne s x same] at done ⊢
    exact carried j done

/-- The slot table before the attempts that its entry into DONE brings (R72, R127). -/
def entering (i : Fin 8) (rec : PickRecord) (s : State) : State :=
  let t := s.setSlot i { s.slot i with
    st := .done, pin := none, order := some s.reports.waiting, record := some rec, flags := rec.flags }
  State.takeDate { t with time := { t.time with step := false } }

theorem enterDone_eq (i : Fin 8) (rec : PickRecord) (s : State) : enterDone i rec s = admitAll (entering i rec s) := rfl

theorem entering_doneCarried (i : Fin 8) (rec : PickRecord) {s : State} (carried : doneCarried s) :
    doneCarried (entering i rec s) :=
  doneCarried_setSlot (x := { s.slot i with
    st := .done, pin := none, order := some s.reports.waiting, record := some rec, flags := rec.flags }) ⟨rfl, rfl⟩ carried

theorem queueKept_parts : KeptByParts queueKept where
  raise := raise_queueKept
  enterDone s i rec _ h := by
    rw [enterDone_eq]
    exact admitAll_settles (entering_doneCarried i rec h.1.1) h.2
  table s t u becomes _ h := by
    obtain ⟨⟨carried, full⟩, numbered⟩ := h
    refine ⟨⟨fun i done => ?_, fun waiting => full fun idle => waiting ⟨fun i done => ?_, idle.2⟩⟩, numbered⟩
    · obtain ⟨done', record, order⟩ := (becomes i).2 done
      have carries := carried i done'
      rw [← record, ← order] at carries
      exact carries
    · exact idle.1 i ((becomes i).2 done).1

theorem moveTime_queueKept {st : TimeState} {s : State} (h : queueKept s) : queueKept (moveTime st s) := by
  unfold moveTime
  split
  · exact h
  · exact raise_queueKept _ _ h

theorem queueKept_writes : KeptByWrites queueKept where
  toKeptByParts := queueKept_parts
  missPulse s h := by
    unfold missPulse
    split
    · exact h
    · exact moveTime_queueKept h
  pulseEdge s now h := by
    unfold pulseEdge
    split
    · exact h
    · exact moveTime_queueKept h
  admitItem s w oldest _ h := by
    obtain ⟨⟨carried, full⟩, numbered⟩ := h
    refine ⟨⟨admitItem_doneCarried oldest carried, fun _ => ?_⟩, admitItem_queueNumbered oldest carried numbered⟩
    have waiting : ¬ s.nothingWaits := fun idle => by rw [oldestWaiting_of_nothingWaits idle] at oldest; cases oldest
    obtain ⟨r, rs, grown⟩ := admitItem_queue_grows oldest carried
    rw [grown, List.length_append, List.length_cons]
    exact (full waiting).trans (by omega)
  collect s n _ h := admitAll_settles h.1.1 (queueNumbered_drop n h.2)

theorem resetState_queueKept (k : ResetKind) (s : State) : queueKept (resetState k s) := by
  have fresh : queueKept State.reset := by decide
  exact fresh

theorem queueKept_resets : KeptByResets queueKept where
  losePower s h := by
    unfold losePower
    dsimp only
    split <;> exact h
  doReset s k _ _ := by
    unfold doReset
    dsimp only
    split
    · exact resetState_queueKept k s
    · exact raise_queueKept _ _ (resetState_queueKept k s)

/-! ## The ATTN line (R134) -/

theorem attn_iff {s : State} (power : s.power = true) : s.attn = true ↔ s.reports.queue ≠ [] := by
  simp [State.attn, power]

/-- A part with nothing to collect has nothing waiting. -/
theorem nothingWaits_of_empty {s : State} (h : s.waitsOnlyWhenFull) (empty : s.reports.queue = []) : s.nothingWaits := by
  by_contra waiting
  have full := h.2 waiting
  rw [empty] at full
  exact absurd full (by decide)

/-- ATTN behind a COLLECT that is DONE: high exactly while records are left (R133, R134). -/
theorem attn_collect {s : State} (power : s.power = true) (h : s.waitsOnlyWhenFull) {n : Nat} (few : n ≤ 4) :
    (admitAll { s with reports := { s.reports with queue := s.reports.queue.drop n } }).attn = true ↔
      n < s.reports.queue.length := by
  obtain ⟨t, a, r, shape⟩ := admitAll_shape { s with reports := { s.reports with queue := s.reports.queue.drop n } }
  rw [attn_iff (by rw [shape]; exact power)]
  constructor
  · intro left
    by_contra all
    have short : s.reports.queue.length ≤ n := Nat.le_of_not_lt all
    have idle : s.nothingWaits := by
      by_contra waiting
      have full := h.2 waiting
      unfold Config.queueCap at full
      omega
    rw [admitAll_of_nothingWaits (s := { s with reports := { s.reports with queue := s.reports.queue.drop n } }) idle]
      at left
    exact left (List.drop_eq_nil_of_le short)
  · intro left none'
    have kept := attempts_queue_prefix 16 { s with reports := { s.reports with queue := s.reports.queue.drop n } } h.1
    rw [show (attempts 16 _).reports.queue = [] from none', List.prefix_nil, List.drop_eq_nil_iff] at kept
    omega

theorem attn_raise {s : State} (power : s.power = true) (h : s.waitsOnlyWhenFull) (empty : s.reports.queue = [])
    (d : NoticeData) : (raise d s).attn = true := by
  have room : s.reports.queue.length < Config.queueCap := by rw [empty]; decide
  rw [raise_of_nothingWaits (nothingWaits_of_empty h empty) room]
  exact (attn_iff (s := reported d s) power).mpr (by simp [reported])

theorem takeNext_attn (s : State) : (takeNext s).attn = s.attn := by
  obtain ⟨t, u, shape⟩ := takeNext_shape s
  rw [shape]
  rfl

theorem attn_completeRefinement {s : State} (power : s.power = true) (h : s.waitsOnlyWhenFull)
    (empty : s.reports.queue = []) (u : RefineUnit) (o : OnsetResult) (p : PolResult) (k : PeakResult) :
    (completeRefinement u o p k s).attn = true := by
  rw [completeRefinement, takeNext_attn, enterDone_eq]
  generalize formRecord s (s.slot u.slot) o p k = rec
  have waiting : ¬ (entering u.slot rec { s with unit := none }).nothingWaits := fun idle => idle.1 u.slot (by
    change ((State.setSlot _ u.slot _).slot u.slot).st = .done
    rw [setSlot_slot_self])
  have carried : doneCarried (entering u.slot rec { s with unit := none }) := entering_doneCarried u.slot rec (s := { s with unit := none }) h.1
  obtain ⟨t, a, r, shape⟩ := admitAll_shape (entering u.slot rec { s with unit := none })
  exact (attn_iff (by rw [shape]; exact power)).mpr (admitAll_fills carried waiting empty)

/-- A reply leaves ATTN as it is. -/
theorem replied_attn (s t : State) (r : Req) (kind : Byte) (st : Status) (clamped : Bool) (data : List Byte) :
    (replied s t r kind st clamped data).attn = t.attn := rfl

/-- Settles O57: the attempts of each event settle the queue, and with an empty queue the first item that waits enters it. -/
theorem stepsKeepTheReportQueue : Obligations.StepsKeepTheReportQueue := by
  refine ⟨fun s t full numbered stepped => ?kept, fun s off => ?off, fun s power h => ⟨attn_iff power, fun low => ?idle,
    fun r body taken len least most high => ?collected, fun low => ⟨fun d => ?raised, fun u o pr pk unit onset pol peaks => ?done⟩⟩⟩
  case kept => exact queueKept_writes.all.step queueKept_resets (fun _ _ h => h) ⟨full, numbered⟩ stepped
  case off => simp [State.attn, off]
  case collected =>
    obtain ⟨-, -, removed, -⟩ := collectRemovesTheOldestRecords s r body taken len
    refine ⟨_, removed least most ((attn_iff power).mp high), ?_⟩
    exact (replied_attn _ _ _ _ _ _ _).symm ▸ attn_collect power h most
  all_goals
    have empty : s.reports.queue = [] := by
      by_contra filled
      rw [(attn_iff power).mpr filled] at low
      cases low
  case idle => exact nothingWaits_of_empty h empty
  case raised => exact attn_raise power h empty d
  case done =>
    refine ⟨_, rfl, ?_⟩
    simp only [power, unit, onset, pol, peaks]
    exact attn_completeRefinement power h empty u o pr pk

end Sys2Proof.Proofs
end

section
/-! PROOFS. The detectors and the chain through the delivery of one frame (3.1, 3.3, 3.4): in whatever order the recipients
take it, chain and detectors agree again once both detectors and the recentre flag have been served. -/

namespace Sys2Proof.Proofs

open Sys2Proof.Machine Sys2Proof.Laws

/-! ## One detector (R28, R30) -/

/-- Owed count and forced-baseline mark agree with a detector's own state. -/
abbrev Sound (d : Detector) : Prop :=
  (d.st ≠ .triggered → d.owed = 0 ∧ d.forced = false) ∧ d.owed ≤ Config.owedCap ∧ (d.forced = true → d.owed = Config.owedCap)

theorem sound_of_cleared {d : Detector} (owed : d.owed = 0) (forced : d.forced = false) : Sound d :=
  ⟨fun _ => ⟨owed, forced⟩, owed ▸ Nat.zero_le _, fun mark => by rw [forced] at mark; cases mark⟩

theorem hold_st (last : Bool) (d : Detector) : (d.hold last).st = d.st := by
  unfold Detector.hold
  split <;> rfl

theorem sound_hold {last : Bool} {d : Detector} (h : Sound d) : Sound (d.hold last) := by
  unfold Detector.hold
  split <;> exact h

theorem sound_toBlanked {d : Detector} (h : Sound d) : Sound d.toBlanked := by
  unfold Detector.toBlanked
  split
  next quiet =>
    obtain ⟨owed, forced⟩ := h.1 (by rw [quiet]; decide)
    exact sound_of_cleared owed forced
  next => exact sound_of_cleared rfl rfl
  next => exact h

theorem toBlanked_st {d : Detector} (h : d.st = .quiet ∨ d.st = .triggered ∨ d.st = .blanked) : d.toBlanked.st = .blanked := by
  rcases h with h | h | h <;> simp [Detector.toBlanked, h]

theorem quietStep_sound {p : DetParams} {e : Nat} {last : Bool} {d : Detector} (h : Sound d) (quiet : d.st = .quiet) :
    Sound (quietStep p e last d).det ∧ ((quietStep p e last d).det.st = .quiet ∨ (quietStep p e last d).det.st = .triggered) := by
  obtain ⟨owed, forced⟩ := h.1 (by rw [quiet]; decide)
  have settled : ∃ d', (if last then ((d.take p.sta e).applyBlock p.lta).endBlock else d.take p.sta e) = d' ∧
      d'.st = .quiet ∧ d'.owed = 0 ∧ d'.forced = false := by
    refine ⟨_, rfl, ?_⟩
    split <;> exact ⟨quiet, owed, forced⟩
  obtain ⟨d', same, quiet', owed', forced'⟩ := settled
  simp only [quietStep, same, plainOut]
  split
  · exact ⟨sound_of_cleared rfl rfl, .inr rfl⟩
  · exact ⟨sound_of_cleared owed' forced', .inl quiet'⟩

theorem settleTriggered_sound {c : Nat} {d : Detector} (h : Sound d) (triggered : d.st = .triggered) :
    Sound (d.settleTriggered c) ∧ (d.settleTriggered c).st = .triggered := by
  obtain ⟨-, room, full⟩ := h
  unfold Detector.settleTriggered
  split
  next mark => exact ⟨⟨fun other => absurd triggered other, room, full⟩, triggered⟩
  next mark =>
    split
    next more => exact ⟨⟨fun other => absurd triggered other, more, fun m => absurd m mark⟩, triggered⟩
    next all => exact ⟨⟨fun other => absurd triggered other, room, fun _ => by change d.owed = _; omega⟩, triggered⟩

theorem triggeredStep_sound {p : DetParams} {e : Nat} {last : Bool} {d : Detector} (h : Sound d)
    (triggered : d.st = .triggered) :
    Sound (triggeredStep p e last d).det ∧
      ((triggeredStep p e last d).det.st = .quiet ∨ (triggeredStep p e last d).det.st = .triggered) := by
  have taken : Sound (d.take p.sta e) := h
  have settled : ∃ d', (if last then (d.take p.sta e).settleTriggered p.lta else d.take p.sta e) = d' ∧ Sound d' ∧
      d'.st = .triggered := by
    refine ⟨_, rfl, ?_⟩
    split
    · exact settleTriggered_sound taken triggered
    · exact ⟨taken, triggered⟩
  obtain ⟨d', same, sound, triggered'⟩ := settled
  simp only [triggeredStep, same, plainOut]
  split
  · exact ⟨sound_of_cleared rfl rfl, .inl rfl⟩
  · exact ⟨sound, .inr triggered'⟩

/-- The detector states that stand in RUN (3.3). -/
abbrev running (st : DetState) : Prop := st = .quiet ∨ st = .triggered ∨ st = .blanked

/-- Where a frame leaves a detector: OFF, WARMING and BLANKED stay; QUIET and TRIGGERED go to BLANKED at a flagged frame and
move between each other at any other (R52, R53, R56). -/
theorem detStep_sound (w : Det) (prof : Profile) (paused : Bool) (f : Conditioned) {d : Detector} (h : Sound d) :
    Sound (detStep w prof paused f d).det ∧
    (d.st = .off → (detStep w prof paused f d).det = d) ∧
    (d.st = .warming → (detStep w prof paused f d).det.st = .warming) ∧
    (d.st = .blanked → (detStep w prof paused f d).det.st = .blanked) ∧
    (d.st = .quiet ∨ d.st = .triggered →
      if f.recentre then (detStep w prof paused f d).det.st = .blanked
      else (detStep w prof paused f d).det.st = .quiet ∨ (detStep w prof paused f d).det.st = .triggered) := by
  cases st : d.st <;> simp only [detStep, st, reduceCtorEq, false_imp_iff, true_and, and_true, forall_const, or_false,
    or_self, or_true]
  case off => exact ⟨h, rfl⟩
  case warming =>
    obtain ⟨owed, forced⟩ := h.1 (by rw [st]; decide)
    split
    · exact ⟨sound_hold h, (hold_st _ d).trans st⟩
    · unfold warmingStep plainOut
      dsimp only
      split
      · exact ⟨sound_of_cleared owed forced, st⟩
      · exact ⟨sound_of_cleared owed forced, st⟩
  case blanked => exact ⟨sound_hold h, (hold_st _ d).trans st⟩
  case quiet =>
    split
    · exact ⟨sound_hold (sound_toBlanked h), (hold_st _ _).trans (toBlanked_st (.inl st))⟩
    · exact quietStep_sound h st
  case triggered =>
    split
    · exact ⟨sound_hold (sound_toBlanked h), (hold_st _ _).trans (toBlanked_st (.inr (.inl st)))⟩
    · exact triggeredStep_sound h st

/-! ## Chain and detectors outside a delivery and inside one -/

/-- A detector agrees with the chain while the recipients of frame f take it: in RUN a flagged frame may have blanked it
before the blanking end stands. -/
abbrev follows' (f : Conditioned) (st : ChainState) (blanking : Bool) (d : Detector) : Prop :=
  Sound d ∧
  (st = .hold ∨ st = .resync → d.st = .off ∧ d.blkSum = 0 ∧ d.blkCount = 0) ∧
  (st = .warmup → d.st = .warming) ∧
  (st = .run → if f.recentre then running d.st ∧ (blanking = true → d.st = .blanked)
    else if blanking then d.st = .blanked else d.st = .quiet ∨ d.st = .triggered)

/-- Chain and detectors agree, the autostart arming being gone (3.1, 3.3, 3.4). -/
structure agreed (s : State) : Prop where
  det : ∀ w, (s.det.get w).follows s.chain.st s.chain.blankEnd.isSome
  blank : s.chain.blankEnd.isSome → s.chain.st = .run
  pause : s.chain.pauseEnd.isSome → s.chain.st = .warmup
  armed : s.chain.armed = false

/-- Chain and detectors agree as far as they do while the recipients of frame f take it. -/
structure midway (f : Conditioned) (s : State) : Prop where
  det : ∀ w, follows' f s.chain.st s.chain.blankEnd.isSome (s.det.get w)
  blank : s.chain.blankEnd.isSome → s.chain.st = .run
  pause : s.chain.pauseEnd.isSome → s.chain.st = .warmup
  armed : s.chain.armed = false

/-- What a recipient's act brings about at a flagged frame in RUN. -/
def served (f : Conditioned) (s : State) : Recipient → Prop
  | .detector w => f.recentre = true → s.chain.st = .run → (s.det.get w).st = .blanked
  | .recentre => f.recentre = true → s.chain.st = .run → s.chain.blankEnd.isSome
  | _ => True

theorem follows_iff (d : Detector) (st : ChainState) (blanking : Bool) : d.follows st blanking ↔
    Sound d ∧ (st = .hold ∨ st = .resync → d.st = .off ∧ d.blkSum = 0 ∧ d.blkCount = 0) ∧
    (st = .warmup → d.st = .warming) ∧
    (st = .run → if blanking then d.st = .blanked else d.st = .quiet ∨ d.st = .triggered) := by
  unfold Detector.follows Sound
  tauto

theorem midway_of_agreed (f : Conditioned) {s : State} (h : agreed s) : midway f s := by
  refine ⟨fun w => ?_, h.blank, h.pause, h.armed⟩
  obtain ⟨sound, off, warming, run⟩ := (follows_iff _ _ _).mp (h.det w)
  refine ⟨sound, off, warming, fun st => ?_⟩
  have now := run st
  split
  · split at now
    next blanking => exact ⟨.inr (.inr now), fun _ => now⟩
    next open' =>
      refine ⟨?_, fun blanking => absurd blanking open'⟩
      rcases now with h | h
      · exact .inl h
      · exact .inr (.inl h)
  · exact now

/-- Once both detectors and the recentre flag have been served, chain and detectors agree. -/
theorem agreed_of_midway {f : Conditioned} {s : State} (h : midway f s) (z : ∀ w, served f s (.detector w))
    (flag : served f s .recentre) : agreed s := by
  refine ⟨fun w => (follows_iff _ _ _).mpr ?_, h.blank, h.pause, h.armed⟩
  obtain ⟨sound, off, warming, run⟩ := h.det w
  refine ⟨sound, off, warming, fun st => ?_⟩
  have now := run st
  split at now
  next recentre =>
    rw [if_pos (flag recentre st)]
    exact z w recentre st
  next => exact now

/-- What a detector's own processing of the frame does for its agreement with the chain. -/
theorem follows'_detStep {w : Det} {prof : Profile} {paused : Bool} {f : Conditioned} {d : Detector} {st : ChainState}
    {blanking : Bool} (lost : Nat) (h : follows' f st blanking d) :
    follows' f st blanking { (detStep w prof paused f d).det with pendLost := lost } ∧
      (f.recentre = true → st = .run → (detStep w prof paused f d).det.st = .blanked) := by
  obtain ⟨sound, off, warming, run⟩ := h
  obtain ⟨sound', off', warming', blanked', open'⟩ := detStep_sound w prof paused f sound
  refine ⟨⟨sound', fun chain => ?_, fun chain => warming' (warming chain), fun chain => ?_⟩, fun flag chain => ?_⟩
  · rw [off' (off chain).1]
    exact off chain
  · have now := run chain
    by_cases flag : f.recentre = true
    · simp only [flag, if_true] at now open' ⊢
      rcases now.1 with quiet | triggered | blanked
      · exact ⟨.inr (.inr (open' (.inl quiet))), fun _ => open' (.inl quiet)⟩
      · exact ⟨.inr (.inr (open' (.inr triggered))), fun _ => open' (.inr triggered)⟩
      · exact ⟨.inr (.inr (blanked' blanked)), fun _ => blanked' blanked⟩
    · rw [if_neg flag] at now open' ⊢
      split at now
      next blanking =>
        rw [if_pos blanking]
        exact blanked' now
      next clear =>
        rw [if_neg clear]
        exact open' now
  · have now := run chain
    simp only [flag, if_true] at now open'
    rcases now.1 with quiet | triggered | blanked
    · exact open' (.inl quiet)
    · exact open' (.inr triggered)
    · exact blanked' blanked

/-- An act that leaves detectors and chain leaves their agreement. -/
theorem midway_of_eq {f : Conditioned} {s t : State} (det : t.det = s.det) (chain : t.chain = s.chain) (h : midway f s) :
    midway f t ∧ ∀ r, served f s r → served f t r := by
  obtain ⟨d, blank, pause, armed⟩ := h
  refine ⟨⟨?_, ?_, ?_, ?_⟩, fun r => ?_⟩
  · rwa [det, chain]
  · rwa [chain]
  · rwa [chain]
  · rwa [chain]
  · unfold served
    rw [det, chain]
    exact id

theorem detectorFrame_midway {w : Det} {f : Conditioned} {s : State} (h : midway f s) :
    midway f (detectorFrame w f s) ∧ served f (detectorFrame w f s) (.detector w) ∧
      ∀ r, served f s r → served f (detectorFrame w f s) r := by
  obtain ⟨tb, u, a, r, c, p, shape⟩ := detectorFrame_shape w f s
  rw [shape]
  obtain ⟨follows, blanked⟩ := follows'_detStep (w := w) (prof := s.active) (paused := s.chain.pauseEnd.isSome) p (h.det w)
  have own : (s.det.set w { (s.outOf w f).det with pendLost := p }).get w = { (s.outOf w f).det with pendLost := p } :=
    pair_get_set _ _ _
  have other {v : Det} (ne : v ≠ w) : (s.det.set w { (s.outOf w f).det with pendLost := p }).get v = s.det.get v :=
    pair_get_set_ne _ _ ne
  have ownServed (flag : f.recentre = true) (run : s.chain.st = .run) :
      ((s.det.set w { (s.outOf w f).det with pendLost := p }).get w).st = .blanked := by
    rw [own]
    exact blanked flag run
  refine ⟨⟨fun v => ?_, h.blank, h.pause, h.armed⟩, ownServed, fun r was => ?_⟩
  · by_cases same : v = w
    · subst same
      dsimp only
      rw [own]
      exact follows
    · dsimp only
      rw [other same]
      exact h.det v
  · cases r with
    | detector v =>
      by_cases same : v = w
      · subst same
        exact ownServed
      · intro flag run
        exact (other same).symm ▸ was flag run
    | recentre => exact was
    | _ => trivial

theorem readRecentre_midway {f : Conditioned} {s : State} (h : midway f s) :
    midway f (readRecentre f s) ∧ served f (readRecentre f s) .recentre ∧
      ∀ r, served f s r → served f (readRecentre f s) r := by
  obtain ⟨det, blank, pause, armed⟩ := id h
  unfold readRecentre
  split
  next flag =>
    split
    next run =>
      have inRun (w : Det) : running (s.det.get w).st ∧ (s.chain.blankEnd.isSome = true → (s.det.get w).st = .blanked) := by
        have now := (det w).2.2.2 run
        rwa [if_pos flag] at now
      have noPause : s.chain.pauseEnd.isSome = true → ChainState.run = .warmup := fun paused => run ▸ pause paused
      have away {P : Prop} : (ChainState.run = .hold ∨ ChainState.run = .resync) → P := by rintro (h | h) <;> cases h
      unfold blankTo
      split
      next begins =>
        obtain ⟨t, u, shape⟩ := beginBlanking_shape
          { s with chain := { s.chain with blankEnd := some (after f.n s.active.tail) } }
        rw [shape]
        have blanked (w : Det) : ((s.det.map Detector.toBlanked).get w).st = .blanked := by
          rw [pair_get_map]
          exact toBlanked_st (inRun w).1
        refine ⟨⟨fun w => ⟨?_, ?_, ?_, fun _ => ?_⟩, fun _ => run, ?_, armed⟩, fun _ _ => rfl, fun r was => ?_⟩
        · rw [pair_get_map]
          exact sound_toBlanked (det w).1
        · exact fun st => away (run ▸ st)
        · exact fun st => absurd (run.symm.trans st) (by decide)
        · rw [if_pos flag]
          exact ⟨.inr (.inr (blanked w)), fun _ => blanked w⟩
        · exact pause
        · cases r with
          | detector w => exact fun _ _ => blanked w
          | recentre => exact fun _ _ => rfl
          | _ => trivial
      next cur blanking =>
        refine ⟨⟨fun w => ⟨(det w).1, (det w).2.1, (det w).2.2.1, fun _ => ?_⟩, fun _ => run, pause, armed⟩,
          fun _ _ => rfl, fun r was => ?_⟩
        · rw [if_pos flag]
          exact ⟨(inRun w).1, fun _ => (inRun w).2 (by rw [blanking]; rfl)⟩
        · cases r with
          | recentre => exact fun _ _ => rfl
          | detector w => exact was
          | _ => trivial
    next warmup =>
      refine ⟨⟨det, blank, fun _ => warmup, armed⟩, fun _ run => absurd (warmup.symm.trans run) (by decide), fun r was => ?_⟩
      cases r <;> exact was
    next notRun _ => exact ⟨h, fun _ run => absurd run notRun, fun _ was => was⟩
  next plain => exact ⟨h, fun flag => absurd flag plain, fun _ was => was⟩

/-- A recipient before the Chain Controller's last act keeps what holds, is served, and leaves the others served. -/
theorem receive_midway {f : Conditioned} {s : State} {r : Recipient} (before : r ≠ .after) (h : midway f s) :
    midway f (receive f s r) ∧ served f (receive f s r) r ∧ ∀ r', served f s r' → served f (receive f s r) r' := by
  cases r with
  | detector w => exact detectorFrame_midway h
  | recentre => exact readRecentre_midway h
  | after => exact absurd rfl before
  | stack =>
    obtain ⟨_, _, _, _, _, _, shape⟩ := trialTests_shape f.n s
    have same : (trialTests f.n s).det = s.det ∧ (trialTests f.n s).chain = s.chain := by rw [shape]; exact ⟨rfl, rfl⟩
    obtain ⟨kept, others⟩ := midway_of_eq (t := trialTests f.n s) same.1 same.2 h
    exact ⟨kept, trivial, others⟩
  | assoc =>
    obtain ⟨_, _, shape⟩ := entryTests_shape f.n s
    have same : (entryTests f.n s).det = s.det ∧ (entryTests f.n s).chain = s.chain := by rw [shape]; exact ⟨rfl, rfl⟩
    obtain ⟨kept, others⟩ := midway_of_eq (t := freeRenumbered f.n (entryTests f.n s)) same.1 same.2 h
    exact ⟨kept, trivial, others⟩

theorem foldl_midway {f : Conditioned} (ahead : List Recipient) (before : .after ∉ ahead) : ∀ {s : State}, midway f s →
    midway f (ahead.foldl (receive f) s) ∧ (∀ r ∈ ahead, served f (ahead.foldl (receive f) s) r) ∧
      ∀ r, served f s r → served f (ahead.foldl (receive f) s) r := by
  induction ahead with
  | nil => exact fun h => ⟨h, fun _ mem => absurd mem List.not_mem_nil, fun _ was => was⟩
  | cons r rest ih =>
    intro s h
    rw [List.mem_cons, not_or] at before
    obtain ⟨kept, own, others⟩ := receive_midway (Ne.symm before.1) h
    obtain ⟨kept', all, others'⟩ := ih before.2 kept
    refine ⟨kept', fun r' mem => ?_, fun r' was => others' r' (others r' was)⟩
    rcases List.mem_cons.mp mem with rfl | mem
    · exact others' _ own
    · exact all r' mem

/-! ## The Chain Controller's last act (R33, R57, R58) -/

theorem enterRun_follows {p : DetParams} {d : Detector} : (d.enterRun p).follows .run false := by
  refine (follows_iff _ _ _).mpr ⟨sound_of_cleared rfl rfl, fun st => ?_, nofun, fun _ => ?_⟩
  · rcases st with st | st <;> cases st
  · rw [if_neg (by decide)]
    unfold Detector.enterRun
    dsimp only
    split
    · exact .inr rfl
    · exact .inl rfl

/-- The entry tests leave chain and detectors agreeing, from any state without an end sample (R51). -/
theorem enterRun_agreed {s : State} (blank : s.chain.blankEnd = none) (pause : s.chain.pauseEnd = none)
    (armed : s.chain.armed = false) : agreed (enterRun s) := by
  refine ⟨fun w => ?_, fun _ => rfl, fun paused => ?_, armed⟩
  · change ((⟨s.det.z.enterRun s.active.det.z, s.det.h.enterRun s.active.det.h⟩ : Pair Detector).get w).follows .run
      s.chain.blankEnd.isSome
    rw [blank]
    cases w <;> exact enterRun_follows
  · rw [show (enterRun s).chain.pauseEnd = none from pause] at paused
    cases paused

theorem endBlanking_agreed {s : State} (h : agreed s) (run : s.chain.st = .run) (blanking : s.chain.blankEnd.isSome) :
    agreed (endBlanking s) := by
  have blanked (w : Det) : (s.det.get w).st = .blanked := by
    have now := ((follows_iff _ _ _).mp (h.det w)).2.2.2 run
    rwa [if_pos blanking] at now
  refine ⟨fun w => ?_, fun none' => absurd none' Bool.false_ne_true, h.pause, h.armed⟩
  change ((⟨unblank s.active.det.z s.det.z, unblank s.active.det.h s.det.h⟩ : Pair Detector).get w).follows s.chain.st false
  rw [run]
  cases w
  · have tested : unblank s.active.det.z s.det.z = s.det.z.enterRun s.active.det.z := if_pos (blanked .z)
    simp only [Pair.get, tested]
    exact enterRun_follows
  · have tested : unblank s.active.det.h s.det.h = s.det.h.enterRun s.active.det.h := if_pos (blanked .h)
    simp only [Pair.get, tested]
    exact enterRun_follows

theorem agreed_of_eq {s t : State} (h : agreed s) (det : t.det = s.det) (st : t.chain.st = s.chain.st)
    (blank : t.chain.blankEnd = s.chain.blankEnd) (pause : t.chain.pauseEnd = s.chain.pauseEnd)
    (armed : t.chain.armed = s.chain.armed) : agreed t := by
  obtain ⟨d, b, p, a⟩ := h
  exact ⟨by rwa [det, st, blank], by rwa [blank, st], by rwa [pause, st], by rwa [armed]⟩

/-- Learn sums and averages of WARMING detectors rewritten. -/
theorem agreed_warming {s t : State} (warmup : s.chain.st = .warmup) (h : agreed s) {g : Detector → Detector}
    (same : ∀ d, (g d).st = d.st ∧ (g d).owed = d.owed ∧ (g d).forced = d.forced) (det : t.det = s.det.map g)
    (st : t.chain.st = .warmup) (blank : t.chain.blankEnd = s.chain.blankEnd)
    (armed : t.chain.armed = s.chain.armed) : agreed t := by
  refine ⟨fun w => ?_, fun blanking => ?_, fun _ => st, armed.trans h.armed⟩
  · have now := (follows_iff _ _ _).mp (h.det w)
    rw [warmup] at now
    rw [st, det, pair_get_map, blank]
    obtain ⟨state, owed, forced⟩ := same (s.det.get w)
    refine (follows_iff _ _ _).mpr ⟨?_, by simp, fun _ => ?_, nofun⟩
    · have sound := now.1
      unfold Sound at sound ⊢
      rwa [state, owed, forced]
    · rw [state]
      exact now.2.2.1 rfl
  · rw [blank] at blanking
    exact absurd (warmup.symm.trans (h.blank blanking)) (by decide)

theorem completionTest_agreed {s : State} (n : Sample) (h : agreed s) (warmup : s.chain.st = .warmup)
    (noPause : s.chain.pauseEnd = none) : agreed (completionTest n s) := by
  have noBlank : s.chain.blankEnd = none := by
    by_contra some'
    exact absurd (warmup.symm.trans (h.blank (Option.isSome_iff_ne_none.mpr some'))) (by decide)
  unfold completionTest
  split
  · dsimp only
    split
    · obtain ⟨t, a, r, shape⟩ := raise_shape (.warmupDone n) (enterRun { s with due := { s.due with completion := false } })
      have run : agreed (enterRun { s with due := { s.due with completion := false } }) :=
        enterRun_agreed noBlank noPause h.armed
      rw [completeWarmup, shape]
      exact agreed_of_eq run rfl rfl rfl rfl rfl
    · exact agreed_of_eq h rfl rfl rfl rfl rfl
  · exact h

theorem afterDetectors_agreed (f : Conditioned) {s : State} (h : agreed s) : agreed (afterDetectors f s) := by
  unfold afterDetectors
  split
  next warmup =>
    unfold afterWarmupFrame
    split
    next paused =>
      split
      · exact agreed_warming warmup h (g := fun d => { d with learn := 0 }) (fun _ => ⟨rfl, rfl, rfl⟩) rfl warmup rfl rfl
      · exact h
    next noPause =>
      split
      · exact completionTest_agreed f.n (agreed_warming (t := countBlock s) warmup h
          (g := fun d => { d with lta := 256 * d.learn / (s.chain.k + 1) }) (fun _ => ⟨rfl, rfl, rfl⟩) rfl warmup rfl rfl)
          warmup noPause
      · exact h
  next run =>
    have captured : ∃ s', (if isBlockEnd s.active.blk f.n then capture f.n s else s) = s' ∧ agreed s' ∧
        s'.chain.st = .run := by
      refine ⟨_, rfl, ?_⟩
      split
      · unfold capture
        split
        · exact ⟨agreed_of_eq h rfl rfl rfl rfl rfl, run⟩
        · exact ⟨h, run⟩
      · exact ⟨h, run⟩
    obtain ⟨s', same, h', run'⟩ := captured
    unfold afterRunFrame
    dsimp only
    rw [same]
    split
    next atEnd =>
      rw [isAt, beq_iff_eq] at atEnd
      exact endBlanking_agreed h' run' (by rw [atEnd]; rfl)
    next => exact h'
  next => exact h

/-- The Revert Stack and the Association Table touch neither chain nor detectors. -/
theorem foldl_aside {f : Conditioned} (behind : List Recipient) (aside : ∀ r ∈ behind, r = .stack ∨ r = .assoc) :
    ∀ {s : State}, agreed s → agreed (behind.foldl (receive f) s) := by
  induction behind with
  | nil => exact fun h => h
  | cons r rest ih =>
    intro s h
    refine ih (fun r' mem => aside r' (List.mem_cons_of_mem _ mem)) ?_
    rcases aside r List.mem_cons_self with rfl | rfl
    · obtain ⟨_, _, _, _, _, _, shape⟩ := trialTests_shape f.n s
      rw [receive, shape]
      exact agreed_of_eq h rfl rfl rfl rfl rfl
    · obtain ⟨_, _, shape⟩ := entryTests_shape f.n s
      rw [receive, shape]
      exact agreed_of_eq h rfl rfl rfl rfl rfl

/-- A delivery leaves chain and detectors agreeing (3.1, 3.3, 3.4). -/
theorem deliver_agreed (f : Conditioned) {s : State} (h : agreed s) : agreed (deliver f s) := by
  obtain ⟨order, drawn, ⟨perm, ahead, behind, rfl, z, hh, flag⟩, -, shape⟩ := deliver_shape f s
  rw [shape, List.foldl_append, List.foldl_cons]
  have once : (ahead ++ .after :: behind).Nodup := perm.nodup_iff.mpr (by decide)
  rw [List.nodup_append] at once
  obtain ⟨-, once', apart⟩ := once
  have notAhead : Recipient.after ∉ ahead := fun mem => apart _ mem _ List.mem_cons_self rfl
  have notBehind : Recipient.after ∉ behind := (List.nodup_cons.mp once').1
  have start : agreed { s with choices := s.choices + drawn } := agreed_of_eq h rfl rfl rfl rfl rfl
  obtain ⟨kept, all, -⟩ := foldl_midway ahead notAhead (midway_of_agreed f start)
  have agreedNow := afterDetectors_agreed f
    (agreed_of_midway kept (fun w => by cases w; exacts [all _ z, all _ hh]) (all _ flag))
  refine foldl_aside behind (fun r mem => ?_) agreedNow
  cases r with
  | detector w =>
    cases w
    · exact absurd rfl (apart _ z _ (List.mem_cons_of_mem _ mem))
    · exact absurd rfl (apart _ hh _ (List.mem_cons_of_mem _ mem))
  | recentre => exact absurd rfl (apart _ flag _ (List.mem_cons_of_mem _ mem))
  | after => exact absurd mem notBehind
  | stack => exact .inl rfl
  | assoc => exact .inr rfl

end Sys2Proof.Proofs
end

section
/-! PROOFS. What every step keeps of the sample link, the ring, the chain and the detectors (chapters 1 to 3). -/

namespace Sys2Proof.Proofs

open Sys2Proof.Machine Sys2Proof.Laws

/-! ## The ring (1.3) -/

theorem runsOn_iff (ring : List RingEntry) : runsOn ring = true ↔ ring.IsChain fun a b => b.n = a.n + 1 := by
  induction ring with
  | nil => simp [runsOn]
  | cons a rest ih =>
    cases rest with
    | nil => simp [runsOn]
    | cons b rest => rw [List.isChain_cons_cons, ← ih]; simp [runsOn]

/-- The ring holds consecutive samples within its capacity, and a frame of number n may follow. -/
structure takesNext (s : State) (n : Sample) : Prop where
  runs : runsOn s.ring = true
  room : s.ring.length ≤ Config.ringCap
  next : ∀ e ∈ s.ring.getLast?, n = e.n + 1

/-- The ring behind a write, which ends in the entry written (R18). -/
theorem runsOn_written {ring : List RingEntry} {e : RingEntry} (runs : runsOn ring = true)
    (next : ∀ l ∈ ring.getLast?, e.n = l.n + 1) : runsOn (ring ++ [e]) = true := by
  rw [runsOn_iff] at *
  refine List.isChain_append.mpr ⟨runs, List.isChain_singleton _, ?_⟩
  rintro l last b first
  cases first
  exact next l last

theorem runsOn_drop {ring : List RingEntry} (runs : runsOn ring = true) : runsOn (ring.drop 1) = true := by
  rw [runsOn_iff] at *
  exact runs.drop 1

theorem ringWrite_runsOn {f : Conditioned} {s : State} (h : takesNext s f.n) :
    runsOn (ringWrite f s).ring = true ∧ (ringWrite f s).ring.getLast?.map (·.n) = some f.n ∧
      (ringWrite f s).ring.length ≤ Config.ringCap := by
  obtain ⟨runs, room, next⟩ := h
  obtain ⟨t, shape⟩ := ringWrite_shape f s
  rw [shape]
  dsimp only
  refine ⟨?_, by simp, ?_⟩
  · split
    · exact runsOn_written runs next
    · refine runsOn_written (runsOn_drop runs) fun l last => next l ?_
      rw [List.getLast?_drop] at last
      split at last
      · cases last
      · exact last
  · rw [List.length_append, List.length_singleton]
    split
    next more => exact more
    next =>
      rw [List.length_drop]
      unfold Config.ringCap at *
      omega

/-! ## One conditioned frame (R16) -/

/-- What a state is ready for: a frame of number n, chain and detectors agreeing. -/
structure ready (s : State) (n : Sample) : Prop where
  agreed : agreed s
  ring : takesNext s n

theorem completionTest_completion (n : Sample) (s : State) : (completionTest n s).due.completion = false := by
  unfold completionTest
  split
  · dsimp only
    split
    · rw [completeWarmup, raise_due]
      rfl
    · rfl
  next made => simpa using made

theorem capture_due (n : Sample) (s : State) : (capture n s).due = s.due := by
  unfold capture
  split <;> rfl

theorem afterRunFrame_due (f : Conditioned) (s : State) : (afterRunFrame f s).due = s.due := by
  unfold afterRunFrame
  dsimp only
  have ended (s : State) : (if isAt s.chain.blankEnd f.n then endBlanking s else s).due = s.due := by split <;> rfl
  rw [ended]
  split
  · exact capture_due f.n s
  · rfl

theorem afterDetectors_completion {f : Conditioned} {s : State} (made : s.due.completion = false) :
    (afterDetectors f s).due.completion = false := by
  unfold afterDetectors
  split
  · unfold afterWarmupFrame
    split
    · split <;> exact made
    · split
      · exact completionTest_completion _ _
      · exact made
  · rwa [afterRunFrame_due]
  · exact made

/-- No recipient leaves a completion test behind. -/
theorem receive_completion {f : Conditioned} {s : State} (r : Recipient) (made : s.due.completion = false) :
    (receive f s r).due.completion = false := by
  cases r with
  | detector w => rwa [receive, detectorFrame_due]
  | recentre => rwa [receive, readRecentre_due]
  | after => exact afterDetectors_completion made
  | stack => exact ((trialTests_due f.n s).2).trans made
  | assoc =>
    change (entryTests f.n s).due.completion = false
    unfold entryTests
    split <;> exact made

theorem entryTests_due (n : Sample) (s : State) :
    (entryTests n s).due.trials = s.due.trials ∧ (entryTests n s).due.entries = false := by
  unfold entryTests
  split
  · exact ⟨rfl, rfl⟩
  next made => exact ⟨rfl, by simpa using made⟩

/-- The Revert Stack's test is made by the Revert Stack, and stays made. -/
theorem receive_trials {f : Conditioned} {s : State} (r : Recipient) (made : s.due.trials = false ∨ r = .stack) :
    (receive f s r).due.trials = false := by
  cases r with
  | stack =>
    change (trialTests f.n s).due.trials = false
    unfold trialTests expireTrials
    split
    · obtain ⟨_, _, _, _, _, shape⟩ := popExpired_shape f.n s.revert { s with due := { s.due with trials := false } }
      dsimp only
      rw [shape]
    next made => simpa using made
  | detector w =>
    rw [receive, detectorFrame_due]
    exact made.resolve_right Recipient.noConfusion
  | recentre =>
    rw [receive, readRecentre_due]
    exact made.resolve_right Recipient.noConfusion
  | after => exact ((afterDetectors_due f s).1).trans (made.resolve_right Recipient.noConfusion)
  | assoc => exact ((entryTests_due f.n s).1).trans (made.resolve_right Recipient.noConfusion)

/-- The Association Table's test is made by the Association Table, and stays made. -/
theorem receive_entries {f : Conditioned} {s : State} (r : Recipient) (made : s.due.entries = false ∨ r = .assoc) :
    (receive f s r).due.entries = false := by
  cases r with
  | assoc => exact (entryTests_due f.n s).2
  | detector w =>
    rw [receive, detectorFrame_due]
    exact made.resolve_right Recipient.noConfusion
  | recentre =>
    rw [receive, readRecentre_due]
    exact made.resolve_right Recipient.noConfusion
  | after => exact ((afterDetectors_due f s).2).trans (made.resolve_right Recipient.noConfusion)
  | stack => exact ((trialTests_due f.n s).1).trans (made.resolve_right Recipient.noConfusion)

/-- What one recipient brings about and every one keeps holds once that one has been served. -/
theorem foldl_brings {P : State → Prop} {f : Conditioned} {own : Recipient}
    (brings : ∀ s r, P s ∨ r = own → P (receive f s r)) (order : List Recipient) :
    ∀ {s : State}, P s ∨ own ∈ order → P (order.foldl (receive f) s) := by
  induction order with
  | nil => exact fun h => h.resolve_right List.not_mem_nil
  | cons r rest ih =>
    intro s h
    refine ih ?_
    rcases h with now | mem
    · exact .inl (brings s r (.inl now))
    · rcases List.mem_cons.mp mem with rfl | mem
      · exact .inl (brings s own (.inr rfl))
      · exact .inr mem

theorem due_eq {d : Due} (completion : d.completion = false) (entries : d.entries = false) (trials : d.trials = false) :
    d = {} := by
  obtain ⟨c, e, r⟩ := d
  simp_all

/-- A delivery leaves no test of its frame over (R16; log 2). -/
theorem deliver_settled (f : Conditioned) {s : State} (made : s.due.completion = false) : (deliver f s).settled := by
  obtain ⟨order, drawn, ⟨perm, _⟩, -, shape⟩ := deliver_shape f s
  rw [shape]
  have completion : (order.foldl (receive f) { s with choices := s.choices + drawn }).due.completion = false :=
    List.foldlRecOn order (receive f) (b := { s with choices := s.choices + drawn })
      (motive := fun t => t.due.completion = false) made fun _ done r _ =>
      receive_completion r done
  have trials := foldl_brings (P := fun s => s.due.trials = false) (f := f) (fun _ => receive_trials) order
    (s := { s with choices := s.choices + drawn }) (.inr (perm.mem_iff.mpr (by decide)))
  have entries := foldl_brings (P := fun s => s.due.entries = false) (f := f) (fun _ => receive_entries) order
    (s := { s with choices := s.choices + drawn }) (.inr (perm.mem_iff.mpr (by decide)))
  exact due_eq completion entries trials

end Sys2Proof.Proofs
end

section
/-! PROOFS. What every step keeps of the sample link, the ring, the chain and the detectors: the frames of the link (1.1),
the chain's own transitions (3.1), and the step rule (O54). -/

namespace Sys2Proof.Proofs

open Sys2Proof.Machine Sys2Proof.Laws

/-- The agreement of link, ring, chain and frame tests that a step keeps. -/
def sampleRecord (s : State) : Prop := s.linkAgrees ∧ s.ringAgrees ∧ s.chainAgrees ∧ s.settled

theorem sampleRecord_free : FreeOfReports sampleRecord where

/-! ## Chain and detectors with the arming gone -/

theorem chainAgrees_of_agreed {s : State} (h : agreed s) : s.chainAgrees :=
  ⟨h.det .z, h.det .h, h.blank, h.pause, fun armed => absurd (h.armed.symm.trans armed) Bool.false_ne_true⟩

theorem agreed_of_chainAgrees {s : State} (h : s.chainAgrees) (armed : s.chain.armed = false) : agreed s := by
  obtain ⟨z, hh, blank, pause, -⟩ := h
  exact ⟨fun w => by cases w; exacts [z, hh], blank, pause, armed⟩

theorem disarmed_of_newest {s : State} (h : s.chainAgrees) (newest : s.newest.isSome) : s.chain.armed = false := by
  obtain ⟨-, -, -, -, arming⟩ := h
  by_contra armed
  rw [(arming (by simpa using armed)).2] at newest
  cases newest

theorem disarmed_of_left {s : State} (h : s.chainAgrees) (left : s.chain.st ≠ .hold) : s.chain.armed = false := by
  obtain ⟨-, -, -, -, arming⟩ := h
  by_contra armed
  exact left (arming (by simpa using armed)).1

theorem off_follows {d : Detector} {st : ChainState} (away : st = .hold ∨ st = .resync) :
    d.toOff.follows st false := by
  refine (follows_iff _ _ _).mpr ⟨sound_of_cleared rfl rfl, fun _ => ⟨rfl, rfl, rfl⟩, ?_, ?_⟩
  · rintro rfl; rcases away with h | h <;> cases h
  · rintro rfl; rcases away with h | h <;> cases h

theorem leaveFor_agreed {st : ChainState} (away : st = .hold ∨ st = .resync) (f : Flags) {s : State}
    (armed : s.chain.armed = false) : agreed (leaveFor st f s) := by
  obtain ⟨t, u, shape⟩ := closeAll_shape f s
  unfold leaveFor detectorsOff dropEnds
  rw [shape]
  refine ⟨fun w => ?_, fun none' => absurd none' Bool.false_ne_true, fun none' => absurd none' Bool.false_ne_true, armed⟩
  dsimp only
  rw [pair_get_map]
  exact off_follows away

theorem enterWarmup_agreed {s : State} (armed : s.chain.armed = false) : agreed (enterWarmup s) := by
  refine ⟨fun w => ?_, fun none' => absurd none' Bool.false_ne_true, fun none' => absurd none' Bool.false_ne_true, armed⟩
  unfold enterWarmup
  dsimp only
  rw [pair_get_map]
  refine (follows_iff _ _ _).mpr ⟨sound_of_cleared rfl rfl, ?_, fun _ => rfl, nofun⟩
  rintro (h | h) <;> cases h

/-- In HOLD the end of the block in progress leaves chain and detectors agreeing. -/
theorem endBlock_follows {d : Detector} {blanking : Bool} (h : d.follows .hold blanking) :
    d.endBlock.follows .hold blanking := by
  obtain ⟨sound, off, warming, run⟩ := (follows_iff _ _ _).mp h
  exact (follows_iff _ _ _).mpr ⟨sound, fun away => ⟨(off away).1, rfl, rfl⟩, warming, run⟩

/-! ## A frame conditioned and handed on (R16) -/

theorem conditionFrame_records {f : RawFrame} {filled : Bool} {s : State} (h : ready s f.seq) :
    agreed (conditionFrame f filled s) ∧ (conditionFrame f filled s).ringAgrees ∧ (conditionFrame f filled s).settled ∧
      (conditionFrame f filled s).newest = some f.seq ∧ (conditionFrame f filled s).intake = s.intake ∧
      (conditionFrame f filled s).time = s.time := by
  obtain ⟨agreedNow, ring⟩ := h
  unfold conditionFrame
  dsimp only
  generalize started : ({ s with
    dc := (conditioned s f filled).2
    newest := some f.seq
    due := { completion := false, entries := true, trials := true } } : State) = u
  have agreedU : agreed u := by subst started; exact agreed_of_eq agreedNow rfl rfl rfl rfl rfl
  have ringU : takesNext u (conditioned s f filled).1.n := by subst started; exact ⟨ring.runs, ring.room, ring.next⟩
  obtain ⟨runs, last, room⟩ := ringWrite_runsOn ringU
  obtain ⟨t, written⟩ := ringWrite_shape (conditioned s f filled).1 u
  have agreedW : agreed (ringWrite (conditioned s f filled).1 u) := by
    rw [written]
    exact agreed_of_eq agreedU rfl rfl rfl rfl rfl
  have due : (ringWrite (conditioned s f filled).1 u).due.completion = false := by
    rw [written, ← started]
  have same : (ringWrite (conditioned s f filled).1 u).newest = some f.seq ∧
      (ringWrite (conditioned s f filled).1 u).intake = s.intake ∧
      (ringWrite (conditioned s f filled).1 u).time = s.time := by
    rw [written, ← started]
    exact ⟨rfl, rfl, rfl⟩
  have agreedD := deliver_agreed (conditioned s f filled).1 agreedW
  have settled := deliver_settled (conditioned s f filled).1 due
  obtain ⟨_, _, _, _, _, _, _, _, _, _, shape⟩ := deliver_handled (conditioned s f filled).1
    (ringWrite (conditioned s f filled).1 u)
  rw [shape] at agreedD settled ⊢
  exact ⟨agreedD, ⟨runs, last.trans same.1.symm, room⟩, settled, same.1, same.2.1, same.2.2⟩

theorem ready_of_newest {s : State} {n : Sample} (h : agreed s) (ring : s.ringAgrees) (newest : s.newest = some n) :
    ready s (n + 1) := by
  obtain ⟨runs, last, room⟩ := ring
  refine ⟨h, runs, room, fun e mem => ?_⟩
  rw [newest] at last
  rw [Option.mem_def.mp mem] at last
  cases last
  rfl

theorem acceptFrame_records {now : Nat} {f : RawFrame} {s : State} (up : s.intake.link = .up) (h : ready s f.seq) :
    sampleRecord (acceptFrame now f s) := by
  unfold acceptFrame
  generalize accepted : ({ s with
    intake := { s.intake with lastRaw := some f, expected := some (f.seq + 1), silence := some now }
    time := { s.time with lastFrame := some (f.seq, now) } } : State) = u
  have readyU : ready u f.seq := by
    subst accepted
    exact ⟨agreed_of_eq h.agreed rfl rfl rfl rfl rfl, h.ring.runs, h.ring.room, h.ring.next⟩
  obtain ⟨agreedNow, ring, settled, newest, intake, time⟩ := conditionFrame_records (filled := false) readyU
  refine ⟨⟨fun _ => ?_, fun down => ?_⟩, ring, chainAgrees_of_agreed agreedNow, settled⟩
  · rw [intake, time, newest, ← accepted]
    exact ⟨rfl, rfl, rfl, rfl, rfl⟩
  · rw [intake, ← accepted] at down
    exact absurd (up.symm.trans down) (by decide)

theorem fillFrames_ready {raw : RawFrame} (j : Nat) : ∀ {n : Sample} {s : State}, ready s n →
    ready (fillFrames raw j n s) (n + BitVec.ofNat 32 j) ∧ (fillFrames raw j n s).intake = s.intake := by
  induction j with
  | zero =>
    intro n s h
    rw [show n + BitVec.ofNat 32 0 = n by simp]
    exact ⟨h, rfl⟩
  | succ j ih =>
    intro n s h
    obtain ⟨agreedNow, ring, -, newest, intake, -⟩ := conditionFrame_records (f := { raw with seq := n }) (filled := true) h
    obtain ⟨ready', intake'⟩ := ih (ready_of_newest agreedNow ring newest)
    rw [show n + BitVec.ofNat 32 (j + 1) = n + 1 + BitVec.ofNat 32 j by bv_omega]
    exact ⟨ready', intake'.trans intake⟩

/-! ## Frames in link state UP (R2 to R5) -/

/-- With the link UP the machine is ready for the expected number. -/
theorem ready_of_up {s : State} {e : Sample} (h : sampleRecord s) (up : s.intake.link = .up)
    (expected : s.intake.expected = some e) : ready s e := by
  obtain ⟨⟨linkUp, -⟩, ring, chain, -⟩ := h
  obtain ⟨-, -, -, next, newest⟩ := linkUp up
  obtain ⟨n, newest'⟩ := Option.isSome_iff_exists.mp newest
  have ready' := ready_of_newest (agreed_of_chainAgrees chain (disarmed_of_newest chain newest)) ring newest'
  rw [expected, newest'] at next
  cases next
  exact ready'

theorem seq_of_distance {e q : Sample} {j : Int} (j0 : 0 ≤ j) (h : distance e q = j) :
    q = e + BitVec.ofNat 32 j.toNat := by
  have gap : q - e = BitVec.ofNat 32 j.toNat := by
    have read : (q - e).toInt = j := h
    rw [BitVec.toInt_eq_toNat_cond] at read
    refine BitVec.eq_of_toNat_eq ?_
    rw [BitVec.toNat_ofNat]
    have bound := (q - e).isLt
    split at read <;> omega
  rw [← gap]
  bv_omega

theorem acceptFrame_expected {now : Nat} {f : RawFrame} {e : Sample} {s : State} (h : sampleRecord s)
    (up : s.intake.link = .up) (expected : s.intake.expected = some e) (inTurn : distance e f.seq = 0) :
    sampleRecord (acceptFrame now f s) := by
  have same := seq_of_distance (Int.le_refl 0) inTurn
  rw [show e + BitVec.ofNat 32 (Int.toNat 0) = e by simp] at same
  exact acceptFrame_records up (same ▸ ready_of_up h up expected)

theorem shortGap_records {now : Nat} {f : RawFrame} {e : Sample} {s : State} (h : sampleRecord s)
    (up : s.intake.link = .up) (expected : s.intake.expected = some e) (ahead : 0 ≤ distance e f.seq) :
    sampleRecord (shortGap now f e (distance e f.seq).toNat s) := by
  have readyNow := ready_of_up h up expected
  obtain ⟨⟨linkUp, -⟩, -, -, -⟩ := h
  obtain ⟨-, -, raws, -, newest⟩ := linkUp up
  obtain ⟨raw, last⟩ : ∃ raw, s.intake.lastRaw = some raw := by
    rw [← raws] at newest
    simpa [Option.isSome_iff_exists] using newest
  obtain ⟨filled, intake⟩ := fillFrames_ready (raw := raw) (distance e f.seq).toNat readyNow
  unfold shortGap
  rw [last]
  dsimp only
  refine acceptFrame_records (by rw [← up, ← intake]) ?_
  have seq := seq_of_distance ahead rfl
  generalize (distance e f.seq).toNat = j at *
  rw [seq]
  exact ⟨agreed_of_eq filled.agreed rfl rfl rfl rfl rfl, filled.ring.runs, filled.ring.room, filled.ring.next⟩

/-! ## A new record (R8, R48, R49) -/

/-- The resynchronising actions leave the ring empty and the blocks in progress dropped; they touch no chain and no link. -/
theorem completeShort_shape (i : Fin 8) (s : State) : ∃ t a r, completeShort i s =
    { s with table := t, assoc := a, reports := r, time := { s.time with step := false } } := by
  unfold completeShort
  dsimp only
  obtain ⟨t, a, r, shape⟩ := enterDone_shape i _ (s.setSlot i ((s.slot i).raise { historyShort := true }))
  exact ⟨t, a, r, shape⟩

theorem completions_shape (order : List (Fin 8)) : ∀ s : State, ∃ t a r b,
    order.foldl (fun s i => completeShort i s) s =
      { s with table := t, assoc := a, reports := r, time := { s.time with step := b } } := by
  induction order with
  | nil => exact fun s => ⟨s.table, s.assoc, s.reports, s.time.step, rfl⟩
  | cons i rest ih =>
    intro s
    obtain ⟨_, _, _, first⟩ := completeShort_shape i s
    obtain ⟨t, a, r, b, others⟩ := ih (completeShort i s)
    exact ⟨t, a, r, b, by rw [List.foldl_cons, others, first]⟩

theorem resync_shape (s : State) : ∃ t a r b, resync s =
    { s with ring := [], unit := none, table := t, assoc := a, reports := r, time := { s.time with step := b },
             dc := ⟨none, none, none⟩, det := s.det.map Detector.endBlock } := by
  obtain ⟨t, a, r, b, shape⟩ := completions_shape ((s.unit.map (·.slot)).toList ++ s.table.queue)
    { s with ring := [], unit := none, table := { s.table with queue := [] } }
  exact ⟨t, a, r, b, by rw [resync, emptyRing, shape]⟩

theorem chainLongGap_shape (s : State) : ∃ t u b p, chainLongGap s =
    { s with table := t, unit := u, chain := { s.chain with blankEnd := b, pauseEnd := p } } := by
  unfold chainLongGap
  split
  · obtain ⟨t, u, shape⟩ := closeAll_shape { gap := true, truncated := true } s
    exact ⟨t, u, _, _, by rw [dropEnds, shape]⟩
  · exact ⟨s.table, s.unit, _, _, rfl⟩
  · exact ⟨s.table, s.unit, s.chain.blankEnd, s.chain.pauseEnd, rfl⟩

theorem chainLongGap_hold {s : State} (hold : s.chain.st = .hold) : chainLongGap s = s := by
  unfold chainLongGap
  rw [hold]

theorem ready_of_empty {s : State} (h : agreed s) (ring : s.ring = []) (n : Sample) : ready s n :=
  ⟨h, by rw [ring]; rfl, by rw [ring]; exact Nat.zero_le _, by rw [ring]; simp⟩

theorem warmup_ready {s : State} (armed : s.chain.armed = false) (ring : s.ring = []) (n : Sample) :
    ready (enterWarmup s) n :=
  ready_of_empty (enterWarmup_agreed armed) ring n

/-- What ends the record before a new one, the chain's set-up apart. -/
theorem newRecord_shape (s : State) : ∃ t u a r b be pe, resync (chainLongGap s) =
    { s with ring := [], unit := u, table := t, assoc := a, reports := r, time := { s.time with step := b },
             dc := ⟨none, none, none⟩, det := s.det.map Detector.endBlock,
             chain := { s.chain with blankEnd := be, pauseEnd := pe } } := by
  obtain ⟨_, _, be, pe, left⟩ := chainLongGap_shape s
  obtain ⟨t, a, r, b, emptied⟩ := resync_shape (chainLongGap s)
  exact ⟨t, _, a, r, b, be, pe, by rw [emptied, left]⟩

/-- In HOLD a new record drops the block in progress alone. -/
theorem newRecord_hold {s : State} (h : s.chainAgrees) (hold : s.chain.st = .hold) :
    (resync (chainLongGap s)).chainAgrees := by
  rw [chainLongGap_hold hold]
  obtain ⟨t, a, r, b, shape⟩ := resync_shape s
  rw [shape]
  obtain ⟨z, hh, rest⟩ := h
  refine ⟨?_, ?_, rest⟩
  · change (Detector.endBlock s.det.z).follows s.chain.st _
    rw [hold] at z ⊢
    exact endBlock_follows z
  · change (Detector.endBlock s.det.h).follows s.chain.st _
    rw [hold] at hh ⊢
    exact endBlock_follows hh

theorem afterGap_ready {s : State} (h : s.chainAgrees) (armed : s.chain.armed = false) (n : Sample) :
    ready (chainAfterGap (resync (chainLongGap s))) n ∧
      (chainAfterGap (resync (chainLongGap s))).intake = s.intake := by
  have inHold (hold : s.chain.st = .hold) := newRecord_hold h hold
  obtain ⟨t, u, a, r, b, be, pe, shape⟩ := newRecord_shape s
  rw [shape] at inHold ⊢
  unfold chainAfterGap
  split
  next hold => exact ⟨ready_of_empty (agreed_of_chainAgrees (inHold hold) armed) rfl n, rfl⟩
  next =>
    refine ⟨warmup_ready ?_ rfl n, rfl⟩
    exact armed

theorem autostart_ready {s : State} (h : s.chainAgrees) (ring : s.ring = []) (n : Sample) :
    ready (autostart s) n ∧ (autostart s).intake = s.intake := by
  have disarmed (c : Chain) (armed : c.armed = false) : ready (enterWarmup { s with chain := c }) n := by
    refine warmup_ready (s := { s with chain := c }) ?_ ring n
    exact armed
  unfold autostart
  split
  · dsimp only
    split
    · unfold invalidateImport
      split
      · exact ⟨disarmed _ rfl, rfl⟩
      · exact ⟨disarmed _ rfl, rfl⟩
    · obtain ⟨z, hh, blank, pause, -⟩ := h
      exact ⟨ready_of_empty (s := disarm s) ⟨fun w => by cases w; exacts [z, hh], blank, pause, rfl⟩ ring n, rfl⟩
  next armed =>
    exact ⟨ready_of_empty (agreed_of_chainAgrees h (by simpa using armed)) ring n, rfl⟩

theorem restart_ready {s : State} (h : s.chainAgrees) (n : Sample) :
    ready (chainRestart (resync (chainLongGap s))) n ∧ (chainRestart (resync (chainLongGap s))).intake = s.intake := by
  have inHold (hold : s.chain.st = .hold) := newRecord_hold h hold
  obtain ⟨t, u, a, r, b, be, pe, shape⟩ := newRecord_shape s
  rw [shape] at inHold ⊢
  unfold chainRestart
  split
  next hold => exact autostart_ready (inHold hold) rfl n
  next left =>
    have armed := disarmed_of_left h left
    refine ⟨warmup_ready ?_ rfl n, rfl⟩
    exact armed

theorem longGap_records {now : Nat} {f : RawFrame} {e : Sample} {s : State} (h : sampleRecord s)
    (up : s.intake.link = .up) : sampleRecord (longGap now f e s) := by
  obtain ⟨⟨linkUp, -⟩, -, chain, -⟩ := h
  obtain ⟨-, -, -, -, newest⟩ := linkUp up
  have armed := disarmed_of_newest chain newest
  unfold longGap
  dsimp only
  obtain ⟨t, a, r, shape⟩ := raise_shape (.longGap e f.seq)
    { s with intake := { s.intake with gaps := sat16 (s.intake.gaps + 1) } }
  rw [shape]
  generalize raised : ({ s with intake := { s.intake with gaps := sat16 (s.intake.gaps + 1) }, table := t, assoc := a,
                                reports := r } : State) = u
  have chainU : u.chainAgrees ∧ u.chain.armed = false ∧ u.intake.link = .up := by
    subst raised
    exact ⟨chain, armed, up⟩
  obtain ⟨ready', intake⟩ := afterGap_ready chainU.1 chainU.2.1 f.seq
  exact acceptFrame_records (by rw [intake]; exact chainU.2.2) ready'

theorem resume_records {now : Nat} {f : RawFrame} {s : State} (h : s.chainAgrees) : sampleRecord (resume now f s) := by
  have chain : ({ s with intake := { s.intake with link := .up } } : State).chainAgrees := h
  obtain ⟨ready', intake⟩ := restart_ready chain f.seq
  exact acceptFrame_records (by rw [intake]) ready'

theorem goodFrame_records {now : Nat} {f : RawFrame} {s : State} (h : sampleRecord s) :
    sampleRecord (goodFrame now f s) := by
  unfold goodFrame
  split
  next e up expected =>
    unfold classify
    dsimp only
    split
    · exact h
    next ahead =>
      have ahead := Int.not_lt.mp ahead
      split
      next inTurn => exact acceptFrame_expected h up expected inTurn
      next =>
        split
        · exact shortGap_records h up expected ahead
        · exact longGap_records h up
  next => exact resume_records h.2.2.1

/-! ## The chain's own transitions (3.1) -/

/-- A predicate over link, ring and frame tests stands whatever the chain and its slots do. -/
theorem sampleRecord_of_agreed {s t : State} (h : sampleRecord s) (intake : t.intake = s.intake)
    (lastFrame : t.time.lastFrame = s.time.lastFrame) (newest : t.newest = s.newest) (ring : t.ring = s.ring)
    (due : t.due = s.due) (chain : agreed t) : sampleRecord t := by
  obtain ⟨link, rung, -, settled⟩ := h
  unfold sampleRecord State.linkAgrees State.ringAgrees State.settled
  rw [intake, lastFrame, newest, ring, due]
  exact ⟨link, rung, chainAgrees_of_agreed chain, settled⟩

theorem leaveFor_records {st : ChainState} (away : st = .hold ∨ st = .resync) (f : Flags) {s : State}
    (h : sampleRecord s) (left : s.chain.st ≠ .hold) : sampleRecord (leaveFor st f s) := by
  have agreedNow := leaveFor_agreed away f (disarmed_of_left h.2.2.1 left)
  refine sampleRecord_of_agreed h ?_ ?_ ?_ ?_ ?_ agreedNow <;>
  · obtain ⟨t, u, shape⟩ := closeAll_shape f s
    unfold leaveFor detectorsOff dropEnds
    rw [shape]

theorem chainLinkLoss_records {s : State} (h : sampleRecord s) : sampleRecord (chainLinkLoss s) := by
  unfold chainLinkLoss
  split
  next warmup => exact leaveFor_records (.inr rfl) _ h (by rw [warmup]; decide)
  next run => exact leaveFor_records (.inr rfl) _ h (by rw [run]; decide)
  next => exact h

theorem loseLink_records (due : Nat) {s : State} (h : sampleRecord s) : sampleRecord (loseLink due s) := by
  obtain ⟨-, ring, chain, settled⟩ := h
  refine chainLinkLoss_records (sampleRecord_free.raise _ _ ?_)
  exact ⟨⟨fun up => (by cases up), fun _ => ⟨rfl, rfl⟩⟩, ring, chain, settled⟩

theorem holdChain_records {s : State} (h : sampleRecord s) : sampleRecord (holdChain s) := by
  unfold holdChain
  split
  next => exact h
  next left => exact leaveFor_records (.inl rfl) _ h left

theorem runLearn_records {s : State} (h : sampleRecord s) : sampleRecord (runLearn s).1 := by
  unfold runLearn invalidateImport
  split
  · exact sampleRecord_of_agreed h rfl rfl rfl rfl rfl (enterWarmup_agreed rfl)
  · exact sampleRecord_of_agreed h rfl rfl rfl rfl rfl (enterWarmup_agreed rfl)

/-- In HOLD no end sample stands (3.4). -/
theorem hold_noEnds {s : State} (h : s.chainAgrees) (hold : s.chain.st = .hold) :
    s.chain.blankEnd = none ∧ s.chain.pauseEnd = none := by
  obtain ⟨-, -, blank, pause, -⟩ := h
  rw [hold] at blank pause
  constructor
  · by_contra some'
    cases blank (Option.isSome_iff_ne_none.mpr some')
  · by_contra some'
    cases pause (Option.isSome_iff_ne_none.mpr some')

theorem runImmediate_records {s : State} (hold : s.chain.st = .hold) (h : sampleRecord s) :
    sampleRecord (runImmediate s).1 := by
  obtain ⟨blank, pause⟩ := hold_noEnds h.2.2.1 hold
  unfold runImmediate invalidateImport
  dsimp only
  split
  · exact sampleRecord_of_agreed h rfl rfl rfl rfl rfl (enterRun_agreed blank pause rfl)
  · exact sampleRecord_of_agreed h rfl rfl rfl rfl rfl (enterRun_agreed blank pause rfl)

theorem runRestore_records {s : State} (hold : s.chain.st = .hold) (h : sampleRecord s) :
    sampleRecord (runRestore s).1 := by
  obtain ⟨blank, pause⟩ := hold_noEnds h.2.2.1 hold
  unfold runRestore
  split
  · split
    · exact sampleRecord_of_agreed h rfl rfl rfl rfl rfl (enterRun_agreed blank pause rfl)
    · exact h
  · unfold invalidateImport
    split
    · exact h
    · exact h

theorem blankTo_agreed {s : State} {e : Sample} (run : s.chain.st = .run) (h : agreed s) : agreed (blankTo e s) := by
  unfold blankTo
  split
  next clear =>
    obtain ⟨t, u, shape⟩ := beginBlanking_shape { s with chain := { s.chain with blankEnd := some e } }
    rw [shape]
    refine ⟨fun w => ?_, fun _ => run, h.pause, h.armed⟩
    obtain ⟨sound, -, -, inRun⟩ := (follows_iff _ _ _).mp (h.det w)
    have now := inRun run
    rw [clear, if_neg (by decide)] at now
    dsimp only
    rw [pair_get_map, run]
    refine (follows_iff _ _ _).mpr ⟨sound_toBlanked sound, ?_, ?_, fun _ => ?_⟩
    · rintro (away | away) <;> cases away
    · rintro ⟨⟩
    · exact toBlanked_st (now.elim .inl fun triggered => .inr (.inl triggered))
  next cur blanking =>
    refine ⟨fun w => ?_, fun _ => run, h.pause, h.armed⟩
    have now := h.det w
    rw [blanking] at now
    exact now

theorem blankTo_records {s : State} {e : Sample} (run : s.chain.st = .run) (h : sampleRecord s) :
    sampleRecord (blankTo e s) := by
  have kept := blankTo_agreed (e := e) run
    (agreed_of_chainAgrees h.2.2.1 (disarmed_of_left h.2.2.1 (by rw [run]; decide)))
  obtain ⟨t, u, d, shape⟩ := blankTo_shape e s
  rw [shape] at kept ⊢
  exact sampleRecord_of_agreed h rfl rfl rfl rfl rfl kept

theorem afterStructural_records {s : State} (old : Profile) (h : sampleRecord s) : sampleRecord (afterStructural old s) := by
  unfold afterStructural boundAverages
  split
  · exact h
  · exact h

theorem sampleRecord_requests : KeptByRequests sampleRecord where
  collect := sampleRecord_free.collect
  holdChain _ := holdChain_records
  runLearn _ _ := runLearn_records
  runRestore _ := runRestore_records
  runImmediate _ := runImmediate_records
  blankTo _ _ _ run _ := blankTo_records run
  closeSlot s n f i _ h := by
    obtain ⟨t, u, shape⟩ := closeSlot_shape n f i s
    rw [shape]
    exact h
  forceSlot s n newest i _ _ _ h := by
    unfold forceSlot
    dsimp only
    split
    · obtain ⟨t, u, shape⟩ := closeSlot_shape (forcedSlot s n).close {} i (s.setSlot i (forcedSlot s n))
      rw [shape]
      exact h
    · exact h
  writeProfile s e new _ _ h := afterStructural_records (s := s.setProfile e new) s.active h
  selectProfile s e h := afterStructural_records (s := { s with settings := { s.settings with active := e } }) s.active h

theorem sampleRecord_events : KeptByEvents sampleRecord where
  loseLink _ due := loseLink_records due
  missPulse s h := by
    unfold missPulse
    split
    · exact h
    · exact sampleRecord_free.moveTime (fun _ _ h => h) _ _ h
  pulseEdge s now h := by
    unfold pulseEdge
    split
    · exact h
    · exact sampleRecord_free.moveTime (fun _ _ h => h) _ _ h
  goodFrame _ _ _ := goodFrame_records
  completionTest s n _ h := by
    have made : s.due.completion = false := by rw [h.2.2.2]
    rwa [completionTest_made made]
  autoClose s w n _ _ h := by
    obtain ⟨t, u, shape⟩ := autoClose_shape w n s
    rw [shape]
    exact h
  endBlanking s run blanking h :=
    sampleRecord_of_agreed h rfl rfl rfl rfl rfl
      (endBlanking_agreed (agreed_of_chainAgrees h.2.2.1 (disarmed_of_left h.2.2.1 (by rw [run]; decide))) run blanking)
  endPause s warmup h :=
    sampleRecord_of_agreed h rfl rfl rfl rfl rfl
      (agreed_warming warmup (agreed_of_chainAgrees h.2.2.1 (disarmed_of_left h.2.2.1 (by rw [warmup]; decide)))
        (g := fun d => { d with learn := 0 }) (fun _ => ⟨rfl, rfl, rfl⟩) rfl warmup rfl rfl)
  entryTests s n h := by
    have made : s.due.entries = false := by rw [h.2.2.2]
    rwa [entryTests_made made]
  trialTests s n h := by
    have made : s.due.trials = false := by rw [h.2.2.2]
    rwa [trialTests_made made]
  completeRefinement s u o p k _ h := by
    unfold completeRefinement
    obtain ⟨t, v, shape⟩ := takeNext_shape (enterDone u.slot (formRecord s (s.slot u.slot) o p k) { s with unit := none })
    rw [shape]
    exact sampleRecord_free.enterDone (fun _ h => h) { s with unit := none } u.slot _ h
  admitItem s w _ _ := sampleRecord_free.admitItem s w
  blockedAttempt s w h := by
    unfold blockedAttempt
    split <;> exact h

theorem sampleRecord_resets : KeptByResets sampleRecord where
  losePower s h := by
    unfold losePower
    dsimp only
    split <;> exact h
  doReset s k _ h := by
    have fresh : sampleRecord (resetState k s) := by
      refine ⟨⟨fun up => (by cases up), fun _ => ⟨rfl, rfl⟩⟩, ⟨rfl, rfl, Nat.zero_le _⟩, ?_, rfl⟩
      change State.reset.chainAgrees
      decide
    unfold doReset
    dsimp only
    split
    · exact fresh
    · exact sampleRecord_free.raise _ _ fresh

/-- Settles O54: the recipients of a frame keep chain and detectors in agreement in whatever order they take it, the frame's
own event makes its tests, and a frame is written into the ring behind its predecessor or into an empty one. -/
theorem stepsKeepTheSampleRecord : Obligations.StepsKeepTheSampleRecord := fun _ _ link ring chain settled stepped =>
  Kept.step ⟨fun _ _ _ h => h, fun _ _ h => h, sampleRecord_requests, sampleRecord_events⟩ sampleRecord_resets
    (fun _ _ h => h) ⟨link, ring, chain, settled⟩ stepped

end Sys2Proof.Proofs
end

section
/-! PROOFS. What every step keeps of the Slot Table, the refinement queue, the Unit and the pins (chapter 4): the rules of
their operations. -/

namespace Sys2Proof.Proofs

open Sys2Proof.Machine Sys2Proof.Laws

/-! ## The agreement -/

/-- The refinement queue and the Unit hold exactly the slots in CLOSED and REFINING; that an idle Unit leaves nothing
waiting is not asked. -/
def queueHolds (s : State) : Prop :=
  (∀ i : Fin 8, i ∈ s.table.queue ↔ (s.slot i).st = .closed) ∧ s.table.queue.Nodup ∧
  ∀ i : Fin 8, (s.slot i).st = .refining ↔ s.unit.map (·.slot) = some i

/-- A ring without a sample is one before a first frame. -/
abbrev ringed (s : State) : Prop := s.newest.isSome → s.ring ≠ []

/-- The agreement of slots, queue, Unit and pins, but that an idle Unit may leave slots waiting. -/
def slotsHeld (s : State) : Prop := queueHolds s ∧ s.slotsAgree ∧ s.pinsRetained ∧ ringed s

/-- The agreement of slots, queue, Unit and pins that a step keeps. -/
def slotRecord (s : State) : Prop := slotsHeld s ∧ (s.unit = none → s.table.queue = [])

/-! ## Slots that stay what they are, or leave DONE -/

/-- A slot keeps what the agreement reads of it, or is a DONE one freed. -/
def passes (x y : Slot) : Prop :=
  (y.st = x.st ∧ y.cls = x.cls ∧ y.trigger = x.trigger ∧ y.pin = x.pin ∧ y.order = x.order ∧ y.record = x.record) ∨
    (x.st = .done ∧ y = freeSlot)

theorem passes_refl (x : Slot) : passes x x := .inl ⟨rfl, rfl, rfl, rfl, rfl, rfl⟩

/-- A slot that keeps what the agreement reads of it but for where its pin stands, or is a DONE one freed. -/
def keeps (x y : Slot) : Prop :=
  (y.st = x.st ∧ y.cls = x.cls ∧ y.trigger = x.trigger ∧ y.pin.isSome = x.pin.isSome ∧ y.order = x.order ∧
    y.record = x.record) ∨ (x.st = .done ∧ y = freeSlot)

theorem keeps_of_passes {x y : Slot} (h : passes x y) : keeps x y := by
  rcases h with ⟨st, cls, trigger, pin, rest⟩ | freed
  · exact .inl ⟨st, cls, trigger, by rw [pin], rest⟩
  · exact .inr freed

theorem keeps_st {x y : Slot} (h : keeps x y) {st : SlotState} (notDone : st ≠ .done) (notFree : st ≠ .free) :
    y.st = st ↔ x.st = st := by
  rcases h with ⟨same, -⟩ | ⟨done, rfl⟩
  · rw [same]
  · rw [done]
    exact ⟨fun h => absurd h.symm notFree, fun h => absurd h.symm notDone⟩

/-- What the agreement reads of a state, the ring and the places of the pins apart, is as it was, but for DONE slots freed. -/
structure keepsAll (s t : State) : Prop where
  slots : ∀ i : Fin 8, keeps (s.slot i) (t.slot i)
  queue : t.table.queue = s.table.queue
  recent : t.table.recent = s.table.recent
  unit : t.unit = s.unit
  newest : t.newest = s.newest
  st : t.chain.st = s.chain.st

/-- What the agreement reads of a state is as it was, but for DONE slots freed. -/
structure passesAll (s t : State) : Prop where
  slots : ∀ i : Fin 8, passes (s.slot i) (t.slot i)
  queue : t.table.queue = s.table.queue
  recent : t.table.recent = s.table.recent
  unit : t.unit = s.unit
  ring : t.ring = s.ring
  newest : t.newest = s.newest
  st : t.chain.st = s.chain.st

theorem passesAll.keepsAll {s t : State} (h : passesAll s t) : keepsAll s t :=
  ⟨fun i => keeps_of_passes (h.slots i), h.queue, h.recent, h.unit, h.newest, h.st⟩

theorem queueHolds_of_keeps {s t : State} (h : keepsAll s t) (held : queueHolds s) : queueHolds t := by
  obtain ⟨waiting, once, hand⟩ := held
  refine ⟨fun i => ?_, h.queue ▸ once, fun i => ?_⟩
  · rw [h.queue, waiting i, keeps_st (h.slots i) (by decide) (by decide)]
  · rw [h.unit, ← hand i, keeps_st (h.slots i) (by decide) (by decide)]

theorem slotsAgree_of_keeps {s t : State} (h : keepsAll s t) (held : s.slotsAgree) : t.slotsAgree := by
  obtain ⟨opened, done, pins, recent⟩ := held
  refine ⟨fun i isOpen => ?_, fun i isDone => ?_, fun i => ?_, fun w mem => ?_⟩
  · rw [h.st, h.newest]
    exact opened i ((keeps_st (h.slots i) (by decide) (by decide)).mp isOpen)
  · rcases h.slots i with ⟨st, -, -, -, order, record⟩ | ⟨-, free⟩
    · rw [order, record]
      exact done i (st ▸ isDone)
    · rw [free] at isDone
      cases isDone
  · rw [keeps_st (h.slots i) (by decide) (by decide), keeps_st (h.slots i) (by decide) (by decide), pins i]
    rcases h.slots i with ⟨-, -, -, pin, -⟩ | ⟨isDone, free⟩
    · rw [pin]
    · have noPin : ¬ (s.slot i).pin.isSome := by
        rw [← pins i, isDone]
        rintro (h | h) <;> cases h
      rw [free]
      exact iff_of_false noPin Bool.false_ne_true
  · have was := recent w mem
    rw [h.recent]
    cases last : s.table.recent.get w with
    | none => rfl
    | some x =>
      rw [last] at was
      simp only [Option.all_some, Bool.and_eq_true, beq_iff_eq] at was ⊢
      obtain ⟨⟨isOpen, cls⟩, trigger⟩ := was
      rcases h.slots x.1 with ⟨st, cls', trigger', -⟩ | ⟨isDone, -⟩
      · rw [st, cls', trigger']
        exact ⟨⟨isOpen, cls⟩, trigger⟩
      · rw [isOpen] at isDone
        cases isDone

theorem pinsRetained_of_passes {s t : State} (h : passesAll s t) (held : s.pinsRetained) : t.pinsRetained := by
  intro i
  rw [h.ring]
  rcases h.slots i with ⟨-, -, -, pin, -⟩ | ⟨-, free⟩
  · rw [pin]
    exact held i
  · rw [free]
    rfl

theorem slotsHeld_of_passes {s t : State} (h : passesAll s t) (held : slotsHeld s) : slotsHeld t := by
  obtain ⟨queue, slots, pins, ring⟩ := held
  exact ⟨queueHolds_of_keeps h.keepsAll queue, slotsAgree_of_keeps h.keepsAll slots, pinsRetained_of_passes h pins,
    by rw [ringed, h.newest, h.ring]; exact ring⟩

theorem slotRecord_iff (s : State) :
    slotRecord s ↔ s.queueAgrees ∧ s.slotsAgree ∧ s.pinsRetained ∧ ringed s := by
  unfold slotRecord slotsHeld queueHolds State.queueAgrees
  tauto

theorem slotRecord_of_passes {s t : State} (h : passesAll s t) (held : slotRecord s) : slotRecord t :=
  ⟨slotsHeld_of_passes h held.1, by rw [h.unit, h.queue]; exact held.2⟩

/-- Slots rewritten one by one, none of them in what the agreement reads. -/
theorem mapSlots_passes {s : State} {f : Fin 8 → Slot → Slot} (h : ∀ i, passes (s.slot i) (f i (s.slot i))) :
    passesAll s (s.mapSlots f) :=
  ⟨fun i => by rw [mapSlots_slot]; exact h i, rfl, rfl, rfl, rfl, rfl, rfl⟩

theorem setSlot_passes {s : State} {i : Fin 8} {x : Slot} (h : passes (s.slot i) x) : passesAll s (s.setSlot i x) := by
  refine ⟨fun j => ?_, rfl, rfl, rfl, rfl, rfl, rfl⟩
  by_cases same : j = i
  · subst same
    rwa [setSlot_slot_self]
  · rw [setSlot_slot_ne _ _ same]
    exact passes_refl _

/-! ## Admissions (8.2) -/

theorem admitted_refl (s : State) : admitted s s := ⟨rfl, fun _ => .inl rfl⟩

theorem admitted_trans {s t u : State} (h : admitted s t) (h' : admitted t u) : admitted s u := by
  obtain ⟨eq, slots⟩ := h
  obtain ⟨eq', slots'⟩ := h'
  refine ⟨?_, fun i => ?_⟩
  · rw [eq', eq]
  · rcases slots' i with same | ⟨done, free⟩
    · rw [same]
      exact slots i
    · rcases slots i with same | ⟨done', -⟩
      · exact .inr ⟨same ▸ done, free⟩
      · exact .inr ⟨done', free⟩

theorem admitPick_admitted {i : Fin 8} {s : State} (done : (s.slot i).st = .done) : admitted s (admitPick i s) := by
  cases carried : (s.slot i).record with
  | none =>
    rw [show admitPick i s = s by unfold admitPick; dsimp only; rw [carried]]
    exact admitted_refl s
  | some p =>
    rw [admitPick_some carried]
    obtain ⟨role, group, behind, a, g, shape, -⟩ := associate_shape p s.reports.pickSeq (s.slot i).params.smin
      (s.slot i).params.smax { s with reports := { s.reports with pickSeq := s.reports.pickSeq + 1, blocked := false } }
    rw [shape]
    refine ⟨rfl, fun j => ?_⟩
    by_cases same : j = i
    · subst same
      exact .inr ⟨done, setSlot_slot_self _ _ _⟩
    · exact .inl (setSlot_slot_ne _ _ same)

theorem admitItem_admitted {w : Waiting} {s : State} (oldest : s.oldestWaiting = some w) : admitted s (admitItem w s) := by
  cases w with
  | pick i =>
    have waits := oldest_waits oldest
    exact admitPick_admitted waits.1
  | notice k =>
    obtain ⟨r, shape⟩ := admitNotice_shape k s
    rw [admitItem, shape]
    exact ⟨rfl, fun _ => .inl rfl⟩

theorem blockedAttempt_admitted (w : Waiting) (s : State) : admitted s (blockedAttempt w s) := by
  obtain ⟨r, shape⟩ := blockedAttempt_shape w s
  rw [shape]
  exact ⟨rfl, fun _ => .inl rfl⟩

theorem attempts_admitted (n : Nat) : ∀ s : State, admitted s (attempts n s) := by
  induction n with
  | zero => exact admitted_refl
  | succ n ih =>
    intro s
    unfold attempts
    split
    · exact admitted_refl s
    next w oldest =>
      split
      · exact admitted_trans (admitItem_admitted oldest) (ih _)
      · exact blockedAttempt_admitted w s

theorem admitAll_admitted (s : State) : admitted s (admitAll s) := attempts_admitted 16 s

theorem raise_admitted (d : NoticeData) (s : State) : admitted s (raise d s) := by
  have posted : admitted s (post d s) := by
    obtain ⟨r, shape⟩ := post_shape d s
    rw [shape]
    exact ⟨rfl, fun _ => .inl rfl⟩
  unfold raise
  split
  · exact admitted_trans posted (admitAll_admitted _)
  · exact posted

theorem passesAll_of_admitted {s t : State} (h : admitted s t) : passesAll s t := by
  obtain ⟨eq, slots⟩ := h
  refine ⟨fun i => ?_, by rw [eq], by rw [eq], by rw [eq], by rw [eq], by rw [eq], by rw [eq]⟩
  rcases slots i with same | freed
  · rw [same]
    exact passes_refl _
  · exact .inr freed

/-! ## Closings (4.3, 4.4) -/

theorem closedAs_fields {s : State} {x y : Slot} {close : Sample} {f : Flags} (h : closedAs s x y close f) :
    y.cls = x.cls ∧ y.trigger = x.trigger ∧ y.order = x.order ∧ y.record = x.record ∧
      y.pin = some (placePin s.ring (before x.trigger x.params.lb)).1 := by
  rw [h]
  exact ⟨rfl, rfl, rfl, rfl, rfl⟩

theorem distance_self (n : Sample) : distance n n = 0 := by
  simp [distance]

/-- A pin placed in a ring that holds a sample is retained (R19). -/
theorem placePin_retained {ring : List RingEntry} (q : Sample) (held : ring ≠ []) :
    ring.head?.any (fun e => decide (distance (placePin ring q).1 e.n ≤ 0)) = true := by
  cases ring with
  | nil => exact absurd rfl held
  | cons e rest =>
    simp only [placePin, List.head?_cons, Option.any_some]
    split
    · exact decide_eq_true (distance_self e.n).le
    next retained => exact decide_eq_true (Int.not_lt.mp retained)

/-- A closed slot is CLOSED, or REFINING and in hand, and nothing else is taken. -/
theorem closes_states {s t : State} {order : List (Fin 8)} {close : Fin 8 → Sample} {f : Fin 8 → Flags}
    (closed : closes s t order close f) {i : Fin 8} (mem : i ∈ order) :
    (t.slot i).st = .closed ∨ (t.slot i).st = .refining := by
  obtain ⟨-, -, -, -, taken⟩ := closed
  split at taken
  · exact .inl (taken.2.2 i mem)
  · rw [taken.2.2 i mem]
    split
    · exact .inr rfl
    · exact .inl rfl

theorem closes_queueHolds {s t : State} {order : List (Fin 8)} {close : Fin 8 → Sample} {f : Fin 8 → Flags}
    (held : queueHolds s) (idle : s.unit = none → s.table.queue = []) (once : order.Nodup)
    (isOpen : ∀ i ∈ order, (s.slot i).st = .opened) (closed : closes s t order close f) : queueHolds t := by
  obtain ⟨waiting, distinct, hand⟩ := held
  obtain ⟨-, others, -, -, taken⟩ := closed
  split at taken
  next u unit =>
    obtain ⟨unit', queue, closed⟩ := taken
    refine ⟨fun i => ?_, ?_, fun i => ?_⟩
    · rw [queue, List.mem_append]
      by_cases mem : i ∈ order
      · exact iff_of_true (.inr mem) (closed i mem)
      · rw [others i mem, ← waiting i]
        exact ⟨fun h => h.resolve_right mem, .inl⟩
    · rw [queue]
      refine List.nodup_append.mpr ⟨distinct, once, fun i was j mem same => ?_⟩
      subst same
      have st := (waiting i).mp was
      rw [isOpen i mem] at st
      cases st
    · rw [unit', ← hand i]
      by_cases mem : i ∈ order
      · rw [closed i mem, isOpen i mem]
        exact iff_of_false nofun nofun
      · rw [others i mem]
  next unit =>
    obtain ⟨unit', queue, closed⟩ := taken
    have none' (i : Fin 8) : (s.slot i).st ≠ .closed ∧ (s.slot i).st ≠ .refining := by
      rw [ne_eq, ne_eq, ← waiting i, hand i, idle unit, unit]
      exact ⟨List.not_mem_nil, nofun⟩
    cases order with
    | nil =>
      refine ⟨fun i => ?_, by rw [queue]; exact List.nodup_nil, fun i => ?_⟩
      · rw [queue, others i List.not_mem_nil]
        exact iff_of_false List.not_mem_nil (none' i).1
      · rw [unit', others i List.not_mem_nil]
        exact iff_of_false (none' i).2 nofun
    | cons o rest =>
      obtain ⟨apart, once⟩ := List.nodup_cons.mp once
      simp only [List.head?_cons, Option.map_some, List.tail_cons] at unit' queue closed
      have restState {i : Fin 8} (mem : i ∈ rest) : (t.slot i).st = .closed :=
        (closed i (List.mem_cons_of_mem _ mem)).trans
          (if_neg fun first => apart (by cases first; exact mem))
      have headState : (t.slot o).st = .refining := (closed o List.mem_cons_self).trans (if_pos rfl)
      refine ⟨fun i => ?_, by rwa [queue], fun i => ?_⟩
      · rw [queue]
        by_cases mem : i ∈ rest
        · exact iff_of_true mem (restState mem)
        · refine iff_of_false mem ?_
          by_cases first : i = o
          · rw [first, headState]
            nofun
          · rw [others i (List.not_mem_cons_of_ne_of_not_mem first mem)]
            exact (none' i).1
      · rw [unit', Option.map_some, Option.some_inj]
        by_cases first : i = o
        · exact iff_of_true (first ▸ headState) first.symm
        · refine iff_of_false ?_ (Ne.symm first)
          by_cases mem : i ∈ rest
          · rw [restState mem]
            nofun
          · rw [others i (List.not_mem_cons_of_ne_of_not_mem first mem)]
            exact (none' i).2

theorem closes_slotsAgree {s t : State} {order : List (Fin 8)} {close : Fin 8 → Sample} {f : Fin 8 → Flags}
    (held : s.slotsAgree) (closed : closes s t order close f) : t.slotsAgree := by
  have states {i : Fin 8} (mem : i ∈ order) := closes_states closed mem
  obtain ⟨eq, others, fields, last, -⟩ := closed
  obtain ⟨opened, done, pins, recent⟩ := held
  have chain : t.chain = s.chain := by rw [eq]
  have newest : t.newest = s.newest := by rw [eq]
  refine ⟨fun i isOpen => ?_, fun i isDone => ?_, fun i => ?_, fun w mem => ?_⟩
  · rw [chain, newest]
    by_cases mem : i ∈ order
    · rcases states mem with st | st <;> rw [isOpen] at st <;> cases st
    · exact opened i (others i mem ▸ isOpen)
  · by_cases mem : i ∈ order
    · rcases states mem with st | st <;> rw [isDone] at st <;> cases st
    · rw [others i mem] at isDone ⊢
      exact done i isDone
  · by_cases mem : i ∈ order
    · rw [(closedAs_fields (fields i mem)).2.2.2.2]
      exact iff_of_true (states mem) rfl
    · rw [others i mem]
      exact pins i
  · have was := recent w mem
    rw [last w]
    cases last' : s.table.recent.get w with
    | none => rfl
    | some x =>
      rw [last'] at was
      by_cases gone : x.1 ∈ order
      · rw [show (some x).filter (fun x => !order.contains x.1) = none by simp [gone]]
        rfl
      · rw [show (some x).filter (fun x => !order.contains x.1) = some x by simp [Option.filter, gone]]
        simp only [Option.all_some] at was ⊢
        rw [others x.1 gone]
        exact was

theorem closes_pinsRetained {s t : State} {order : List (Fin 8)} {close : Fin 8 → Sample} {f : Fin 8 → Flags}
    (held : s.pinsRetained) (ring : order ≠ [] → s.ring ≠ []) (closed : closes s t order close f) : t.pinsRetained := by
  obtain ⟨eq, others, fields, -, -⟩ := closed
  intro i
  rw [show t.ring = s.ring by rw [eq]]
  by_cases mem : i ∈ order
  · rw [(closedAs_fields (fields i mem)).2.2.2.2, Option.all_some]
    exact placePin_retained _ (ring (List.ne_nil_of_mem mem))
  · rw [others i mem]
    exact held i

/-- OPEN slots that close keep the agreement (R69). -/
theorem closes_slotRecord {s t : State} {order : List (Fin 8)} {close : Fin 8 → Sample} {f : Fin 8 → Flags}
    (held : slotRecord s) (once : order.Nodup) (isOpen : ∀ i ∈ order, (s.slot i).st = .opened)
    (closed : closes s t order close f) : slotRecord t := by
  obtain ⟨⟨queue, slots, pins, ring⟩, idle⟩ := held
  have someRing (some' : order ≠ []) : s.ring ≠ [] := by
    obtain ⟨i, mem⟩ := List.exists_mem_of_ne_nil order some'
    exact ring (slots.1 i (isOpen i mem)).2
  refine ⟨⟨closes_queueHolds queue idle once isOpen closed, closes_slotsAgree slots closed,
    closes_pinsRetained pins someRing closed, ?_⟩, closes_idle closed⟩
  rw [ringed, closed.1]
  exact ring

theorem closeAll_slotRecord {f : Flags} {s : State} (held : slotRecord s) :
    slotRecord (closeAll f s) ∧ ∀ i : Fin 8, ((closeAll f s).slot i).st ≠ .opened := by
  have closed := closeAll_closes s f held.2
  have perm := byTrigger_perm s (s.slotsIn .opened)
  have mem (i : Fin 8) : i ∈ byTrigger s (s.slotsIn .opened) ↔ (s.slot i).st = .opened := by
    rw [perm.mem_iff, mem_slotsIn]
  refine ⟨closes_slotRecord held (perm.nodup_iff.mpr (slotsIn_nodup s _)) (fun i => (mem i).mp) closed, fun i isOpen => ?_⟩
  by_cases was : i ∈ byTrigger s (s.slotsIn .opened)
  · rcases closes_states closed was with st | st <;> rw [isOpen] at st <;> cases st
  · rw [closed.2.1 i was] at isOpen
    exact was ((mem i).mpr isOpen)

theorem closeSlot_slotRecord {close : Sample} {f : Flags} {i : Fin 8} {s : State} (held : slotRecord s)
    (isOpen : (s.slot i).st = .opened) : slotRecord (closeSlot close f i s) :=
  closes_slotRecord held (List.nodup_singleton i) (fun _ mem => List.mem_singleton.mp mem ▸ isOpen)
    (closeSlot_closes s i close f held.2)

/-- The AUTO_CLOSE of a detector closes its OPEN slots due at n, oldest trigger first (R64). -/
theorem autoClose_closes (w : Det) (n : Sample) (s : State) (idle : s.unit = none → s.table.queue = []) :
    closes s (autoClose w n s) (byTrigger s (eight.filter fun i => s.owns w i && (s.slot i).close == n)) (fun _ => n)
      (fun i => { truncated := (s.slot i).shortOf n }) := by
  have once : (eight.filter fun i => s.owns w i && (s.slot i).close == n).Nodup :=
    List.Nodup.filter _ (by decide)
  refine foldl_closes _ _ _ _ s ((byTrigger_perm s _).nodup_iff.mpr once) idle ?_
  rintro t i _ ⟨os, closed, apart⟩
  rw [closed.2.1 i apart]

theorem autoClose_slotRecord {w : Det} {n : Sample} {s : State} (held : slotRecord s) : slotRecord (autoClose w n s) := by
  have perm := byTrigger_perm s (eight.filter fun i => s.owns w i && (s.slot i).close == n)
  refine closes_slotRecord held (perm.nodup_iff.mpr (List.Nodup.filter _ (by decide))) (fun i mem => ?_)
    (autoClose_closes w n s held.2)
  rw [perm.mem_iff, List.mem_filter] at mem
  simp only [State.owns, Bool.and_eq_true, beq_iff_eq] at mem
  exact mem.2.1.1

end Sys2Proof.Proofs
end

section
/-! PROOFS. What every step keeps of the Slot Table, the refinement queue, the Unit and the pins: the detectors' reports, the
frames of the link, the chain, the completions, and the step rule (O55). -/

namespace Sys2Proof.Proofs

open Sys2Proof.Machine Sys2Proof.Laws

theorem raise_slotRecord (d : NoticeData) (s : State) (h : slotRecord s) : slotRecord (raise d s) :=
  slotRecord_of_passes (passesAll_of_admitted (raise_admitted d s)) h

/-! ## Openings and crossings (4.2, 3.5, 4.6) -/

/-- A FREE slot that opens in RUN keeps the agreement; the recent openings of the others stand. -/
theorem open_slotRecord {s t : State} {i : Fin 8} {x : Slot} (h : slotRecord s) (free : (s.slot i).st = .free)
    (isOpen : x.st = .opened) (noPin : x.pin = none) (run : s.chain.st = .run) (newest : s.newest.isSome)
    (slots : t.table.slots = (s.setSlot i x).table.slots) (queue : t.table.queue = s.table.queue)
    (recent : ∀ w, t.table.recent.get w = s.table.recent.get w ∨
      t.table.recent.get w = some (i, x.trigger) ∧ x.cls = classOf w)
    (unit : t.unit = s.unit) (ring : t.ring = s.ring) (newest' : t.newest = s.newest) (st : t.chain.st = s.chain.st) :
    slotRecord t := by
  obtain ⟨⟨⟨waiting, once, hand⟩, ⟨opened, done, pins, last⟩, retained, ringed'⟩, idle⟩ := h
  have own : t.slot i = x := by rw [State.slot, slots]; exact setSlot_slot_self s i x
  have other {j : Fin 8} (ne : j ≠ i) : t.slot j = s.slot j := by rw [State.slot, slots]; exact setSlot_slot_ne s x ne
  refine ⟨⟨⟨fun j => ?_, queue ▸ once, fun j => ?_⟩, ⟨fun j now => ?_, fun j now => ?_, fun j => ?_, fun w mem => ?_⟩,
    fun j => ?_, ?_⟩, by rw [unit, queue]; exact idle⟩
  · rw [queue, waiting j]
    by_cases same : j = i
    · rw [same, own, free, isOpen]
      exact iff_of_false nofun nofun
    · rw [other same]
  · rw [unit, ← hand j]
    by_cases same : j = i
    · rw [same, own, free, isOpen]
      exact iff_of_false nofun nofun
    · rw [other same]
  · rw [st, newest']
    exact ⟨run, newest⟩
  · by_cases same : j = i
    · rw [same, own, isOpen] at now
      cases now
    · rw [other same] at now ⊢
      exact done j now
  · by_cases same : j = i
    · rw [same, own, isOpen, noPin]
      exact iff_of_false (by rintro (h | h) <;> cases h) Bool.false_ne_true
    · rw [other same]
      exact pins j
  · rcases recent w with same | ⟨new, cls⟩
    · rw [same]
      have was := last w mem
      cases recentOf : s.table.recent.get w with
      | none => rfl
      | some y =>
        rw [recentOf] at was
        simp only [Option.all_some, Bool.and_eq_true, beq_iff_eq] at was ⊢
        have apart : y.1 ≠ i := by
          rintro rfl
          rw [free] at was
          cases was.1.1
        rwa [other apart]
    · rw [new]
      simp only [Option.all_some, Bool.and_eq_true, beq_iff_eq]
      rw [own]
      exact ⟨⟨isOpen, cls⟩, rfl⟩
  · rw [ring]
    by_cases same : j = i
    · rw [same, own, noPin]
      rfl
    · rw [other same]
      exact retained j
  · rw [ringed, newest', ring]
    exact ringed'

theorem crossing_slotRecord {w : Det} {t : Sample} {eff ratio : Nat} {s : State} (h : slotRecord s)
    (run : s.chain.st = .run) (newest : s.newest.isSome) : slotRecord (crossing w t eff ratio s) := by
  cases again : s.retriggered w t with
  | some i =>
    rw [crossing_of_retriggered again]
    exact slotRecord_of_passes (setSlot_passes (.inl ⟨rfl, rfl, rfl, rfl, rfl, rfl⟩)) h
  | none =>
    cases free : s.freeSlot? with
    | some i =>
      rw [crossing_of_freeSlot again free]
      refine open_slotRecord (x := openSlot s (classOf w) t eff ratio (s.detector w).pendLost false) h
        ((freeSlot?_eq_some s i).mp free).1 rfl rfl run newest rfl rfl (fun v => ?_) rfl rfl rfl rfl
      by_cases same : v = w
      · subst same
        exact .inr ⟨pair_get_set _ _ _, rfl⟩
      · exact .inl (pair_get_set_ne _ _ same)
    | none =>
      rw [crossing_of_full again free]
      exact h

theorem raisePeaks_slotRecord {w : Det} {ratio : Nat} {s : State} (h : slotRecord s) : slotRecord (raisePeaks w ratio s) := by
  refine slotRecord_of_passes (mapSlots_passes fun i => ?_) h
  split
  · exact .inl ⟨rfl, rfl, rfl, rfl, rfl, rfl⟩
  · exact passes_refl _

theorem flagForced_slotRecord {w : Det} {s : State} (h : slotRecord s) : slotRecord (flagForced w s) := by
  refine slotRecord_of_passes (mapSlots_passes fun i => ?_) h
  split
  · exact .inl ⟨rfl, rfl, rfl, rfl, rfl, rfl⟩
  · exact passes_refl _

theorem reportSteps_slotRecord {w : Det} {n : Sample} {ratio : Nat} {s : State} (h : slotRecord s) :
    slotRecord (reportSteps w n ratio s) :=
  autoClose_slotRecord (raisePeaks_slotRecord h)

theorem crossingReport_slotRecord {w : Det} {n : Sample} {eff ratio : Nat} {s : State} (h : slotRecord s)
    (run : s.chain.st = .run) (newest : s.newest.isSome) : slotRecord (crossingReport w n eff ratio s) := by
  have behind (s : State) (h : slotRecord s) (run : s.chain.st = .run) (newest : s.newest.isSome) :
      slotRecord (crossing w n eff ratio (reportSteps w n ratio s)) := by
    have reported := reportSteps_slotRecord (w := w) (n := n) (ratio := ratio) h
    obtain ⟨t, u, shape⟩ := reportSteps_shape w n ratio s
    rw [shape] at reported ⊢
    exact crossing_slotRecord reported run newest
  rcases crossingReport_outcomes w n eff ratio s with out | ⟨-, out | out⟩
  · rw [out]
    exact behind s h run newest
  · rw [out]
    exact behind s.draw.2 h run newest
  · rw [out]
    exact reportSteps_slotRecord (crossing_slotRecord (s := s.draw.2) h run newest)

/-! ## The recipients of a frame (R16) -/

theorem detectorFrame_slotRecord {w : Det} {f : Conditioned} {s : State} (h : slotRecord s) (newest : s.newest.isSome) :
    slotRecord (detectorFrame w f s) := by
  have announced : slotRecord (if (s.outOf w f).forcedNow then announceForced w f.n (s.setDet w (s.outOf w f).det)
      else s.setDet w (s.outOf w f).det) := by
    split
    · exact raise_slotRecord _ _ (flagForced_slotRecord h)
    · exact h
  unfold detectorFrame
  dsimp only
  generalize was : (if (s.outOf w f).forcedNow then announceForced w f.n (s.setDet w (s.outOf w f).det)
      else s.setDet w (s.outOf w f).det) = u at announced ⊢
  have same : u.newest = s.newest := by
    rw [← was]
    split
    · rw [announceForced, raise_newest]
      rfl
    · rfl
  split
  next run =>
    split
    · exact crossingReport_slotRecord announced run (same ▸ newest)
    · exact reportSteps_slotRecord announced
  next => exact announced

theorem noneOpen_of_away {s : State} (h : slotRecord s) (away : s.chain.st ≠ .run) (i : Fin 8) :
    (s.slot i).st ≠ .opened := fun isOpen => away (h.1.2.1.1 i isOpen).1

/-- The chain moves while no slot is OPEN. -/
theorem slotRecord_of_noneOpen {s t : State} (h : slotRecord s) (none' : ∀ i : Fin 8, (s.slot i).st ≠ .opened)
    (table : t.table = s.table) (unit : t.unit = s.unit) (ring : t.ring = s.ring) (newest : t.newest = s.newest) :
    slotRecord t := by
  obtain ⟨⟨queue, ⟨opened, rest⟩, pins, ringed'⟩, idle⟩ := h
  unfold slotRecord slotsHeld queueHolds State.slotsAgree State.pinsRetained ringed State.slot
  rw [table, unit, ring, newest]
  exact ⟨⟨queue, ⟨fun i isOpen => absurd isOpen (none' i), rest⟩, pins, ringed'⟩, idle⟩

theorem blankTo_slotRecord {e : Sample} {s : State} (h : slotRecord s) : slotRecord (blankTo e s) := by
  unfold blankTo
  split
  · have closed := (closeAll_slotRecord (f := { blanked := true, truncated := true })
      (s := { s with chain := { s.chain with blankEnd := some e } }) h).1
    exact closed
  · exact h

theorem readRecentre_slotRecord {f : Conditioned} {s : State} (h : slotRecord s) : slotRecord (readRecentre f s) := by
  unfold readRecentre
  split
  · split
    · exact blankTo_slotRecord h
    · exact h
    · exact h
  · exact h

theorem completionTest_slotRecord {n : Sample} {s : State} (h : slotRecord s) (warmup : s.chain.st = .warmup) :
    slotRecord (completionTest n s) := by
  unfold completionTest
  split
  · dsimp only
    split
    · exact raise_slotRecord _ _ (slotRecord_of_noneOpen h
        (noneOpen_of_away h (by rw [warmup]; decide)) rfl rfl rfl rfl)
    · exact h
  · exact h

theorem afterDetectors_slotRecord {f : Conditioned} {s : State} (h : slotRecord s) : slotRecord (afterDetectors f s) := by
  unfold afterDetectors
  split
  next warmup =>
    unfold afterWarmupFrame
    split
    · split <;> exact h
    · split
      · exact completionTest_slotRecord (s := countBlock s) h warmup
      · exact h
  next run =>
    have captured : slotRecord (if isBlockEnd s.active.blk f.n then capture f.n s else s) := by
      split
      · unfold capture
        split <;> exact h
      · exact h
    have ended {s : State} (h : slotRecord s) : slotRecord (if isAt s.chain.blankEnd f.n then endBlanking s else s) := by
      split <;> exact h
    exact ended captured
  next => exact h

theorem popExpired_slotRecord (n : Sample) (ts : List Trial) : ∀ {s : State}, slotRecord s →
    slotRecord (popExpired n ts s) := by
  induction ts with
  | nil => exact fun h => h
  | cons t rest ih =>
    intro s h
    unfold popExpired
    split
    · exact ih (raise_slotRecord _ (popTrial t rest s) h)
    · exact h

theorem trialTests_slotRecord {n : Sample} {s : State} (h : slotRecord s) : slotRecord (trialTests n s) := by
  unfold trialTests
  split
  · exact popExpired_slotRecord n _ (s := { s with due := { s.due with trials := false } }) h
  · exact h

theorem entryTests_slotRecord {n : Sample} {s : State} (h : slotRecord s) : slotRecord (entryTests n s) := by
  unfold entryTests
  split <;> exact h

theorem receive_slotRecord {f : Conditioned} {s : State} (r : Recipient) (h : slotRecord s) (newest : s.newest.isSome) :
    slotRecord (receive f s r) := by
  cases r with
  | detector w => exact detectorFrame_slotRecord h newest
  | recentre => exact readRecentre_slotRecord h
  | after => exact afterDetectors_slotRecord h
  | stack => exact trialTests_slotRecord h
  | assoc => exact (entryTests_slotRecord h :)

theorem receive_newest (f : Conditioned) (s : State) (r : Recipient) : (receive f s r).newest = s.newest := by
  obtain ⟨_, _, _, _, _, _, _, _, _, _, shape⟩ := receive_handled f s r
  rw [shape]

theorem foldl_slotRecord {f : Conditioned} (order : List Recipient) : ∀ {s : State}, slotRecord s → s.newest.isSome →
    slotRecord (order.foldl (receive f) s) := by
  induction order with
  | nil => exact fun h _ => h
  | cons r rest ih =>
    intro s h newest
    exact ih (receive_slotRecord r h newest) (by rw [receive_newest]; exact newest)

theorem deliver_slotRecord {f : Conditioned} {s : State} (h : slotRecord s) (newest : s.newest.isSome) :
    slotRecord (deliver f s) := by
  obtain ⟨order, drawn, -, -, shape⟩ := deliver_shape f s
  rw [shape]
  exact foldl_slotRecord order h newest

end Sys2Proof.Proofs
end

section
/-! PROOFS. What every step keeps of the Slot Table, the refinement queue, the Unit and the pins: the ring's write, the
frames of the link, the completions, the chain, and the step rule (O55). -/

namespace Sys2Proof.Proofs

open Sys2Proof.Machine Sys2Proof.Laws

/-! ## The ring's write (R18) -/

theorem advancePins_keeps (oldest : Sample) (s : State) : keepsAll s (advancePins oldest s) := by
  refine ⟨fun i => ?_, rfl, rfl, rfl, rfl, rfl⟩
  rw [advancePins, mapSlots_slot]
  split
  next q pin =>
    split
    · exact .inl ⟨rfl, rfl, rfl, by rw [pin]; rfl, rfl, rfl⟩
    · exact keeps_of_passes (passes_refl _)
  next => exact keeps_of_passes (passes_refl _)

/-- Behind the ring's write no pin is older than the sample it names. -/
theorem advancePins_pin {oldest q : Sample} {s : State} {i : Fin 8} (pin : ((advancePins oldest s).slot i).pin = some q) :
    distance q oldest ≤ 0 := by
  rw [advancePins, mapSlots_slot] at pin
  split at pin
  next p was =>
    split at pin
    · cases pin
      exact (distance_self oldest).le
    next retained =>
      rw [was] at pin
      cases pin
      exact Int.not_lt.mp retained
  next none' =>
    rw [none'] at pin
    cases pin

/-- A ring that appends a sample and keeps its oldest keeps the pins. -/
theorem append_pinsRetained {s : State} {e : RingEntry} (h : s.pinsRetained) :
    ({ s with ring := s.ring ++ [e] } : State).pinsRetained := by
  intro i
  have was := h i
  change ((s.slot i).pin.all fun q => (s.ring ++ [e]).head?.any fun e => decide (distance q e.n ≤ 0)) = true
  cases pin : (s.slot i).pin with
  | none => rfl
  | some q =>
    rw [pin, Option.all_some] at was
    rw [Option.all_some]
    cases ring : s.ring with
    | nil => rw [ring] at was; cases was
    | cons o rest => rwa [ring] at was

theorem ringWrite_slotRecord {f : Conditioned} {s : State} (queue : s.queueAgrees) (slots : s.slotsAgree)
    (pins : s.pinsRetained) : slotRecord (ringWrite f s) := by
  rw [slotRecord_iff]
  unfold ringWrite
  dsimp only
  split
  · exact ⟨queue, slots, append_pinsRetained pins, fun _ => List.append_ne_nil_of_right_ne_nil _ (List.cons_ne_nil _ _)⟩
  · generalize ring : s.ring.drop 1 ++ [(⟨f.n, f.d, f.clip, f.filled⟩ : RingEntry)] = r
    have some' : r ≠ [] := by
      rw [← ring]
      exact List.append_ne_nil_of_right_ne_nil _ (List.cons_ne_nil _ _)
    obtain ⟨o, oldest⟩ := Option.ne_none_iff_exists'.mp (mt List.head?_eq_none_iff.mp some')
    have kept := advancePins_keeps ((r.head?.map (·.n)).getD f.n) { s with ring := r }
    have held := queueHolds_of_keeps kept ⟨queue.1, queue.2.1, queue.2.2.1⟩
    refine ⟨⟨held.1, held.2.1, held.2.2, queue.2.2.2⟩, slotsAgree_of_keeps kept slots, fun i => ?_, fun _ => some'⟩
    cases pin : ((advancePins ((r.head?.map (·.n)).getD f.n) { s with ring := r }).slot i).pin with
    | none => rfl
    | some q =>
      have near := advancePins_pin pin
      rw [oldest] at near
      change ((some q).all fun q => r.head?.any fun e => decide (distance q e.n ≤ 0)) = true
      rw [oldest]
      exact decide_eq_true near

/-! ## Frames (1.1) -/

/-- The agreement of slots, queue, Unit and pins while the ring may be empty. -/
def slotRules (s : State) : Prop := s.queueAgrees ∧ s.slotsAgree ∧ s.pinsRetained

theorem slotRules_of_record {s : State} (h : slotRecord s) : slotRules s :=
  let ⟨queue, slots, pins, _⟩ := (slotRecord_iff s).mp h
  ⟨queue, slots, pins⟩

theorem conditionFrame_slotRecord {f : RawFrame} {filled : Bool} {s : State} (h : slotRules s) :
    slotRecord (conditionFrame f filled s) := by
  obtain ⟨queue, ⟨opened, rest⟩, pins⟩ := h
  unfold conditionFrame
  dsimp only
  generalize started : ({ s with
    dc := (conditioned s f filled).2
    newest := some f.seq
    due := { completion := false, entries := true, trials := true } } : State) = u
  have written : slotRecord (ringWrite (conditioned s f filled).1 u) := by
    subst started
    exact ringWrite_slotRecord queue ⟨fun i isOpen => ⟨(opened i isOpen).1, rfl⟩, rest⟩ pins
  refine deliver_slotRecord written ?_
  obtain ⟨t, shape⟩ := ringWrite_shape (conditioned s f filled).1 u
  rw [shape, ← started]
  rfl

theorem acceptFrame_slotRecord {now : Nat} {f : RawFrame} {s : State} (h : slotRules s) :
    slotRecord (acceptFrame now f s) := conditionFrame_slotRecord h

theorem fillFrames_slotRules {raw : RawFrame} (j : Nat) : ∀ {n : Sample} {s : State}, slotRules s →
    slotRules (fillFrames raw j n s) := by
  induction j with
  | zero => exact fun h => h
  | succ j ih => exact fun h => ih (slotRules_of_record (conditionFrame_slotRecord h))

theorem shortGap_slotRecord {now : Nat} {f : RawFrame} {e : Sample} {j : Nat} {s : State} (h : slotRules s) :
    slotRecord (shortGap now f e j s) := by
  have filled : slotRules (match s.intake.lastRaw with | some raw => fillFrames raw j e s | none => s) := by
    split
    · exact fillFrames_slotRules j h
    · exact h
  exact acceptFrame_slotRecord filled

/-! ## An emptied ring (R20, R74) -/

/-- The slots of a list are exactly those that are CLOSED or REFINING, while the Unit and the queue are emptied. -/
structure leftToComplete (left : List (Fin 8)) (s : State) : Prop where
  left : ∀ i : Fin 8, ((s.slot i).st = .closed ∨ (s.slot i).st = .refining) ↔ i ∈ left
  slots : s.slotsAgree
  unit : s.unit = none
  queue : s.table.queue = []

theorem leftToComplete_of_keeps {left : List (Fin 8)} {s t : State} (h : keepsAll s t) (was : leftToComplete left s) :
    leftToComplete left t := by
  refine ⟨fun i => ?_, slotsAgree_of_keeps h was.slots, h.unit.trans was.unit, h.queue.trans was.queue⟩
  rw [keeps_st (h.slots i) (by decide) (by decide), keeps_st (h.slots i) (by decide) (by decide)]
  exact was.left i

theorem entering_slot_self (i : Fin 8) (rec : PickRecord) (s : State) : (entering i rec s).slot i = { s.slot i with
    st := .done, pin := none, order := some s.reports.waiting, record := some rec, flags := rec.flags } :=
  setSlot_slot_self s i _

theorem entering_slot_ne {i j : Fin 8} (rec : PickRecord) (s : State) (ne : j ≠ i) :
    (entering i rec s).slot j = s.slot j := setSlot_slot_ne s _ ne

/-- A slot in hand or waiting that enters DONE keeps what the slots agree on. -/
theorem entering_slotsAgree {i : Fin 8} {rec : PickRecord} {s : State} (h : s.slotsAgree)
    (notOpen : (s.slot i).st ≠ .opened) : (entering i rec s).slotsAgree := by
  obtain ⟨opened, done, pins, recent⟩ := h
  have own := entering_slot_self i rec s
  have other {j : Fin 8} (ne : j ≠ i) := entering_slot_ne rec s ne
  refine ⟨fun j now => ?_, fun j now => ?_, fun j => ?_, fun w mem => ?_⟩
  · by_cases same : j = i
    · rw [same, own] at now
      cases now
    · rw [other same] at now
      exact opened j now
  · by_cases same : j = i
    · rw [same, own]
      exact ⟨rfl, rfl⟩
    · rw [other same] at now ⊢
      exact done j now
  · by_cases same : j = i
    · rw [same, own]
      exact iff_of_false (by rintro (h | h) <;> cases h) Bool.false_ne_true
    · rw [other same]
      exact pins j
  · have was := recent w mem
    change (s.table.recent.get w).all _ = true
    cases last : s.table.recent.get w with
    | none => rfl
    | some x =>
      rw [last] at was
      simp only [Option.all_some, Bool.and_eq_true, beq_iff_eq] at was ⊢
      have apart : x.1 ≠ i := by
        rintro rfl
        exact notOpen was.1.1
      rwa [other apart]

/-- A slot that enters DONE leaves those to complete. -/
theorem entering_left {i : Fin 8} {rest : List (Fin 8)} {rec : PickRecord} {s : State}
    (h : leftToComplete (i :: rest) s) (once : i ∉ rest) : leftToComplete rest (entering i rec s) := by
  obtain ⟨left, slots, unit, queue⟩ := h
  have notOpen : (s.slot i).st ≠ .opened := by
    intro isOpen
    rcases (left i).mpr List.mem_cons_self with st | st <;> rw [isOpen] at st <;> cases st
  refine ⟨fun j => ?_, entering_slotsAgree slots notOpen, unit, queue⟩
  by_cases same : j = i
  · rw [same, entering_slot_self]
    exact iff_of_false (by rintro (h | h) <;> cases h) once
  · rw [entering_slot_ne rec s same, left j, List.mem_cons]
    exact ⟨fun h => h.resolve_left same, .inr⟩

theorem completeShort_left {i : Fin 8} {rest : List (Fin 8)} {s : State} (h : leftToComplete (i :: rest) s)
    (once : i ∉ rest) : leftToComplete rest (completeShort i s) := by
  unfold completeShort
  dsimp only
  rw [enterDone_eq]
  refine leftToComplete_of_keeps (passesAll_of_admitted (admitAll_admitted _)).keepsAll (entering_left ?_ once)
  have flagged : passes (s.slot i) ((s.slot i).raise { historyShort := true }) := .inl ⟨rfl, rfl, rfl, rfl, rfl, rfl⟩
  exact leftToComplete_of_keeps (setSlot_passes flagged).keepsAll h

theorem completions_left (order : List (Fin 8)) : ∀ {s : State}, leftToComplete order s → order.Nodup →
    leftToComplete [] (order.foldl (fun s i => completeShort i s) s) := by
  induction order with
  | nil => exact fun h _ => h
  | cons i rest ih =>
    intro s h once
    obtain ⟨apart, once⟩ := List.nodup_cons.mp once
    exact ih (completeShort_left h apart) once

/-- The slot in hand and the queue behind it are all that is CLOSED or REFINING, each once. -/
theorem inHand_queue {s : State} (queue : s.queueAgrees) :
    (∀ i : Fin 8, ((s.slot i).st = .closed ∨ (s.slot i).st = .refining) ↔
      i ∈ (s.unit.map (·.slot)).toList ++ s.table.queue) ∧ ((s.unit.map (·.slot)).toList ++ s.table.queue).Nodup := by
  obtain ⟨waiting, once, hand, -⟩ := queue
  refine ⟨fun i => ?_, List.nodup_append.mpr ⟨?_, once, fun i mem j was same => ?_⟩⟩
  · rw [List.mem_append, Option.mem_toList, ← hand i, waiting i, or_comm]
  · cases s.unit.map (·.slot) with
    | none => exact List.nodup_nil
    | some i => exact List.nodup_singleton i
  · subst same
    rw [Option.mem_toList, ← hand i] at mem
    rw [waiting i, mem] at was
    cases was

theorem emptyRing_left {s : State} (h : slotRules s) : leftToComplete [] (emptyRing s) := by
  obtain ⟨queue, slots, -⟩ := h
  obtain ⟨left, once⟩ := inHand_queue queue
  exact completions_left _ (s := { s with ring := [], unit := none, table := { s.table with queue := [] } })
    ⟨left, slots, rfl, rfl⟩ once

theorem slotRules_of_left {s : State} (h : leftToComplete [] s) : slotRules s := by
  obtain ⟨left, slots, unit, queue⟩ := h
  have noPin (i : Fin 8) : (s.slot i).pin = none := by
    rw [← Option.not_isSome_iff_eq_none, ← slots.2.2.1 i, left i]
    exact List.not_mem_nil
  have none' (i : Fin 8) : ¬ ((s.slot i).st = .closed ∨ (s.slot i).st = .refining) := by
    rw [left i]
    exact List.not_mem_nil
  refine ⟨⟨fun i => ?_, by rw [queue]; exact List.nodup_nil, fun i => ?_, fun _ => queue⟩, slots, fun i => ?_⟩
  · rw [queue]
    exact iff_of_false List.not_mem_nil (fun st => none' i (.inl st))
  · rw [unit]
    exact iff_of_false (fun st => none' i (.inr st)) nofun
  · rw [noPin i]
    rfl

/-- No slot is OPEN. -/
def noneOpen (s : State) : Prop := ∀ i : Fin 8, (s.slot i).st ≠ .opened

theorem noneOpen_of_keeps {s t : State} (h : keepsAll s t) (none' : noneOpen s) : noneOpen t := by
  intro i
  rw [ne_eq, keeps_st (h.slots i) (by decide) (by decide)]
  exact none' i

/-- A slot that enters DONE opens none. -/
theorem enterDone_noneOpen {i : Fin 8} {rec : PickRecord} {s : State} (h : noneOpen s) : noneOpen (enterDone i rec s) := by
  rw [enterDone_eq]
  refine noneOpen_of_keeps (passesAll_of_admitted (admitAll_admitted _)).keepsAll fun j => ?_
  by_cases same : j = i
  · rw [same, entering_slot_self]
    exact SlotState.noConfusion
  · rw [entering_slot_ne rec s same]
    exact h j

theorem completions_noneOpen (order : List (Fin 8)) : ∀ {s : State}, noneOpen s →
    noneOpen (order.foldl (fun s i => completeShort i s) s) := by
  induction order with
  | nil => exact fun h => h
  | cons i rest ih =>
    intro s h
    have flagged : passes (s.slot i) ((s.slot i).raise { historyShort := true }) := .inl ⟨rfl, rfl, rfl, rfl, rfl, rfl⟩
    exact ih (enterDone_noneOpen (noneOpen_of_keeps (setSlot_passes flagged).keepsAll h))

/-! ## A new record (R8, R48, R49) -/

theorem chainLongGap_slotRecord {s : State} (h : slotRecord s) : slotRecord (chainLongGap s) ∧ noneOpen (chainLongGap s) := by
  unfold chainLongGap
  split
  · exact closeAll_slotRecord h
  next warmup =>
    have none' := noneOpen_of_away h (by rw [warmup]; decide)
    exact ⟨h, none'⟩
  next left _ => exact ⟨h, noneOpen_of_away h left⟩

theorem resync_slotRules {s : State} (h : slotRecord s) :
    slotRules (resync (chainLongGap s)) ∧ noneOpen (resync (chainLongGap s)) := by
  obtain ⟨left, none'⟩ := chainLongGap_slotRecord h
  have rules := slotRules_of_left (emptyRing_left (slotRules_of_record left))
  exact ⟨rules, completions_noneOpen _ none'⟩

/-- The chain moves while no slot is OPEN. -/
theorem slotRules_of_noneOpen {s : State} (h : slotRules s) (none' : noneOpen s) (d : Pair Detector) (c : Chain) :
    slotRules { s with det := d, chain := c } := by
  obtain ⟨queue, ⟨opened, rest⟩, pins⟩ := h
  exact ⟨queue, ⟨fun i isOpen => absurd isOpen (none' i), rest⟩, pins⟩

theorem chainAfterGap_slotRules {s : State} (h : slotRules s) (none' : noneOpen s) : slotRules (chainAfterGap s) := by
  unfold chainAfterGap
  split
  · exact h
  · exact slotRules_of_noneOpen h none' _ _

theorem autostart_slotRules {s : State} (h : slotRules s) (none' : noneOpen s) : slotRules (autostart s) := by
  unfold autostart
  split
  · dsimp only
    split
    · unfold invalidateImport
      split
      · exact slotRules_of_noneOpen h none' _ _
      · exact slotRules_of_noneOpen h none' _ _
    · exact h
  · exact h

theorem chainRestart_slotRules {s : State} (h : slotRules s) (none' : noneOpen s) : slotRules (chainRestart s) := by
  unfold chainRestart
  split
  · exact autostart_slotRules h none'
  · exact slotRules_of_noneOpen h none' _ _

theorem longGap_slotRecord {now : Nat} {f : RawFrame} {e : Sample} {s : State} (h : slotRecord s) :
    slotRecord (longGap now f e s) := by
  have raised : slotRecord (raise (.longGap e f.seq) { s with
      intake := { s.intake with gaps := sat16 (s.intake.gaps + 1) } }) := raise_slotRecord _ _ h
  obtain ⟨rules, none'⟩ := resync_slotRules raised
  exact acceptFrame_slotRecord (chainAfterGap_slotRules rules none')

theorem resume_slotRecord {now : Nat} {f : RawFrame} {s : State} (h : slotRecord s) : slotRecord (resume now f s) := by
  obtain ⟨rules, none'⟩ := resync_slotRules (s := { s with intake := { s.intake with link := .up } }) h
  exact acceptFrame_slotRecord (chainRestart_slotRules rules none')

theorem goodFrame_slotRecord {now : Nat} {f : RawFrame} {s : State} (h : slotRecord s) :
    slotRecord (goodFrame now f s) := by
  unfold goodFrame
  split
  · unfold classify
    dsimp only
    split
    · exact h
    · split
      · exact acceptFrame_slotRecord (slotRules_of_record h)
      · split
        · exact shortGap_slotRecord (slotRules_of_record h)
        · exact longGap_slotRecord h
  · exact resume_slotRecord h

/-! ## The chain's transitions (3.1) -/

theorem leaveFor_slotRecord {st : ChainState} {f : Flags} {s : State} (h : slotRecord s) : slotRecord (leaveFor st f s) := by
  obtain ⟨closed, none'⟩ := closeAll_slotRecord (f := f) h
  exact slotRecord_of_noneOpen closed none' rfl rfl rfl rfl

theorem chainLinkLoss_slotRecord {s : State} (h : slotRecord s) : slotRecord (chainLinkLoss s) := by
  unfold chainLinkLoss
  split
  · exact leaveFor_slotRecord h
  · exact leaveFor_slotRecord h
  · exact h

theorem loseLink_slotRecord {due : Nat} {s : State} (h : slotRecord s) : slotRecord (loseLink due s) :=
  chainLinkLoss_slotRecord (raise_slotRecord _ { s with
    clock := max s.clock due
    intake := { s.intake with link := .down, expected := none, silence := none } } h)

theorem holdChain_slotRecord {s : State} (h : slotRecord s) : slotRecord (holdChain s) := by
  unfold holdChain
  split
  · exact h
  · exact leaveFor_slotRecord h

/-- CHAIN RUN leaves HOLD with no slot OPEN. -/
theorem runLearn_slotRecord {s : State} (h : slotRecord s) (none' : noneOpen s) : slotRecord (runLearn s).1 := by
  unfold runLearn invalidateImport
  split
  · exact slotRecord_of_noneOpen h none' rfl rfl rfl rfl
  · exact slotRecord_of_noneOpen h none' rfl rfl rfl rfl

theorem runImmediate_slotRecord {s : State} (h : slotRecord s) (none' : noneOpen s) : slotRecord (runImmediate s).1 := by
  unfold runImmediate invalidateImport
  dsimp only
  split
  · exact slotRecord_of_noneOpen h none' rfl rfl rfl rfl
  · exact slotRecord_of_noneOpen h none' rfl rfl rfl rfl

theorem runRestore_slotRecord {s : State} (h : slotRecord s) (none' : noneOpen s) : slotRecord (runRestore s).1 := by
  unfold runRestore
  split
  · split
    · exact slotRecord_of_noneOpen h none' rfl rfl rfl rfl
    · exact h
  · unfold invalidateImport
    split
    · exact h
    · exact h

theorem noneOpen_of_hold {s : State} (h : slotRecord s) (hold : s.chain.st = .hold) : noneOpen s :=
  noneOpen_of_away h (by rw [hold]; decide)

/-! ## Completions (R71, R72) -/

/-- The head of the queue taken by an idle Unit (R71). -/
theorem taken_slotsHeld {s : State} {i : Fin 8} {rest : List (Fin 8)} (h : slotsHeld s) (idle : s.unit = none)
    (queue : s.table.queue = i :: rest) (u : RefineUnit) (own : u.slot = i) :
    slotsHeld { s.setSlot i { s.slot i with st := .refining } with
      table := { (s.setSlot i { s.slot i with st := .refining }).table with queue := rest }
      unit := some u } := by
  obtain ⟨⟨waiting, once, hand⟩, ⟨opened, done, pins, recent⟩, retained, ringed'⟩ := h
  rw [queue] at waiting once
  obtain ⟨apart, once⟩ := List.nodup_cons.mp once
  have isClosed : (s.slot i).st = .closed := (waiting i).mp List.mem_cons_self
  generalize made : ({ s.setSlot i { s.slot i with st := .refining } with
      table := { (s.setSlot i { s.slot i with st := .refining }).table with queue := rest }
      unit := some u } : State) = t
  have self : t.slot i = { s.slot i with st := .refining } := by subst made; exact setSlot_slot_self s i _
  have other {j : Fin 8} (ne : j ≠ i) : t.slot j = s.slot j := by subst made; exact setSlot_slot_ne s _ ne
  have table : t.table.queue = rest ∧ t.table.recent = s.table.recent ∧ t.unit = some u ∧ t.ring = s.ring ∧
      t.newest = s.newest ∧ t.chain = s.chain := by subst made; exact ⟨rfl, rfl, rfl, rfl, rfl, rfl⟩
  obtain ⟨queue', recent', unit', ring', newest', chain'⟩ := table
  refine ⟨⟨fun j => ?_, queue' ▸ once, fun j => ?_⟩, ⟨fun j now => ?_, fun j now => ?_, fun j => ?_, fun w mem => ?_⟩,
    fun j => ?_, ?_⟩
  · rw [queue']
    by_cases same : j = i
    · rw [same, self]
      exact iff_of_false apart SlotState.noConfusion
    · rw [other same, ← waiting j, List.mem_cons]
      exact ⟨.inr, fun h => h.resolve_left same⟩
  · rw [unit', Option.map_some, own, Option.some_inj]
    by_cases same : j = i
    · rw [same, self]
      exact iff_of_true rfl rfl
    · rw [other same, hand j, idle]
      exact iff_of_false nofun (Ne.symm same)
  · rw [chain', newest']
    by_cases same : j = i
    · rw [same, self] at now
      cases now
    · exact opened j (other same ▸ now)
  · by_cases same : j = i
    · rw [same, self] at now
      cases now
    · rw [other same] at now ⊢
      exact done j now
  · by_cases same : j = i
    · rw [same, self]
      exact iff_of_true (.inr rfl) ((pins i).mp (.inl isClosed))
    · rw [other same]
      exact pins j
  · have was := recent w mem
    rw [recent']
    cases last : s.table.recent.get w with
    | none => rfl
    | some x =>
      rw [last] at was
      simp only [Option.all_some, Bool.and_eq_true, beq_iff_eq] at was ⊢
      have notHead : x.1 ≠ i := by
        rintro rfl
        rw [isClosed] at was
        cases was.1.1
      rwa [other notHead]
  · rw [ring']
    by_cases same : j = i
    · rw [same, self]
      exact retained i
    · rw [other same]
      exact retained j
  · rw [ringed, newest', ring']
    exact ringed'

/-- An idle Unit's look at the queue makes it idle only over an empty one. -/
theorem takeNext_slotRecord {s : State} (h : slotsHeld s) : slotRecord (takeNext s) := by
  cases unit : s.unit with
  | some u =>
    rw [takeNext_busy unit]
    exact ⟨h, fun idle => by rw [unit] at idle; cases idle⟩
  | none =>
    cases queue : s.table.queue with
    | nil =>
      rw [takeNext_empty queue]
      exact ⟨h, fun _ => queue⟩
    | cons i rest =>
      rw [takeNext_idle unit queue]
      exact ⟨taken_slotsHeld h unit queue _ rfl, fun idle => by cases idle⟩

theorem completeRefinement_slotRecord {u : RefineUnit} {o : OnsetResult} {p : PolResult} {k : PeakResult} {s : State}
    (h : slotRecord s) (unit : s.unit = some u) : slotRecord (completeRefinement u o p k s) := by
  obtain ⟨⟨⟨waiting, once, hand⟩, slots, pins, ringed'⟩, -⟩ := h
  have inHand : (s.slot u.slot).st = .refining := by rw [hand, unit]; rfl
  unfold completeRefinement
  dsimp only
  rw [enterDone_eq]
  refine takeNext_slotRecord (slotsHeld_of_passes (passesAll_of_admitted (admitAll_admitted _)) ?_)
  generalize formRecord s (s.slot u.slot) o p k = rec
  have own := entering_slot_self u.slot rec { s with unit := none }
  have other {j : Fin 8} (ne : j ≠ u.slot) := entering_slot_ne rec { s with unit := none } ne
  have slots' : (entering u.slot rec { s with unit := none }).slotsAgree :=
    entering_slotsAgree (s := { s with unit := none }) slots (by rw [State.slot] at *; rw [inHand]; decide)
  refine ⟨⟨fun j => ?_, once, fun j => ?_⟩, slots', fun j => ?_, ringed'⟩
  · change j ∈ s.table.queue ↔ _
    rw [waiting j]
    by_cases same : j = u.slot
    · rw [same, own, inHand]
      exact iff_of_false nofun nofun
    · rw [other same]
      rfl
  · change _ ↔ none = some j
    by_cases same : j = u.slot
    · rw [same, own]
      exact iff_of_false nofun nofun
    · rw [other same]
      refine iff_of_false (fun st => same ?_) nofun
      have now := (hand j).mp st
      rw [unit] at now
      cases now
      rfl
  · change ((entering u.slot rec { s with unit := none }).slot j).pin.all
      (fun q => s.ring.head?.any fun e => decide (distance q e.n ≤ 0)) = true
    by_cases same : j = u.slot
    · rw [same, own]
      rfl
    · rw [other same]
      exact pins j

/-! ## The step -/

theorem slotRecord_requests : KeptByRequests slotRecord where
  collect _ _ _ h := slotRecord_of_passes (passesAll_of_admitted (admitAll_admitted _)) h
  holdChain _ := holdChain_slotRecord
  runLearn _ hold h := runLearn_slotRecord h (noneOpen_of_hold h hold)
  runRestore _ hold h := runRestore_slotRecord h (noneOpen_of_hold h hold)
  runImmediate _ hold h := runImmediate_slotRecord h (noneOpen_of_hold h hold)
  blankTo _ _ _ _ _ := blankTo_slotRecord
  closeSlot _ _ _ _ isOpen h := closeSlot_slotRecord h isOpen
  deferClose s i c _ h := by
    have moved : passes (s.slot i) { s.slot i with close := c } := .inl ⟨rfl, rfl, rfl, rfl, rfl, rfl⟩
    exact slotRecord_of_passes (setSlot_passes moved) h
  forceSlot s n newest i run known free h := by
    have opened : slotRecord (s.setSlot i (forcedSlot s n)) :=
      open_slotRecord (x := forcedSlot s n) h ((freeSlot?_eq_some s i).mp free).1 rfl rfl run (by rw [known]; rfl) rfl rfl
        (fun _ => .inl rfl) rfl rfl rfl rfl
    unfold forceSlot
    dsimp only
    split
    · exact closeSlot_slotRecord opened (by rw [setSlot_slot_self]; rfl)
    · exact opened
  writeProfile s e new _ _ h := by
    unfold afterStructural
    split <;> exact h
  selectProfile s e h := by
    unfold afterStructural
    split <;> exact h

theorem moveTime_slotRecord {st : TimeState} {s : State} (h : slotRecord s) : slotRecord (moveTime st s) := by
  unfold moveTime
  split
  · exact h
  · exact raise_slotRecord _ _ h

theorem slotRecord_events : KeptByEvents slotRecord where
  loseLink _ _ := loseLink_slotRecord
  missPulse s h := by
    unfold missPulse
    split
    · exact h
    · exact moveTime_slotRecord h
  pulseEdge s now h := by
    unfold pulseEdge
    split
    · exact h
    · exact moveTime_slotRecord h
  goodFrame _ _ _ := goodFrame_slotRecord
  completionTest _ _ warmup h := completionTest_slotRecord h warmup
  autoClose _ _ _ _ _ := autoClose_slotRecord
  entryTests _ _ := entryTests_slotRecord
  trialTests _ _ := trialTests_slotRecord
  stage s u v unit same h := by
    obtain ⟨⟨⟨waiting, once, hand⟩, rest⟩, -⟩ := h
    refine ⟨⟨⟨waiting, once, fun i => ?_⟩, rest⟩, fun idle => by cases idle⟩
    have now := hand i
    rw [unit] at now
    rwa [Option.map_some, same]
  completeRefinement _ _ _ _ _ unit h := completeRefinement_slotRecord h unit
  admitItem _ _ oldest _ h := slotRecord_of_passes (passesAll_of_admitted (admitItem_admitted oldest)) h
  blockedAttempt s w h := slotRecord_of_passes (passesAll_of_admitted (blockedAttempt_admitted w s)) h

theorem slotRecord_reset : slotRecord State.reset := by
  rw [slotRecord_iff]
  decide

theorem slotRecord_resets : KeptByResets slotRecord where
  losePower s h := by
    unfold losePower
    dsimp only
    split <;> exact h
  doReset s k _ _ := by
    have fresh : slotRecord (resetState k s) := slotRecord_reset
    unfold doReset
    dsimp only
    split
    · exact fresh
    · exact raise_slotRecord _ _ fresh

/-- Settles O55: what closes, opens, completes or frees a slot moves queue, Unit and pin with it. -/
theorem stepsKeepTheSlotTable : Obligations.StepsKeepTheSlotTable := by
  intro s t _ ring _ queue slots pins stepped
  have ringed' : ringed s := by
    intro newest
    obtain ⟨-, last, -⟩ := ring
    rintro empty
    rw [empty] at last
    rw [← last] at newest
    cases newest
  have kept := Kept.step ⟨fun _ _ _ h => h, fun _ _ h => h, slotRecord_requests, slotRecord_events⟩ slotRecord_resets
    (fun _ _ h => h) ((slotRecord_iff s).mpr ⟨queue, slots, pins, ringed'⟩) stepped
  obtain ⟨queue', slots', pins', -⟩ := (slotRecord_iff t).mp kept
  exact ⟨queue', slots', pins'⟩

end Sys2Proof.Proofs
end

section
/-! PROOFS. A request's row, once for all kinds, and the requests whose action is a table of refusals before one write:
the reads, FLOOR, TIME LABEL and PROFILE SELECT. -/

namespace Sys2Proof.Proofs

open Sys2Proof.Machine

/-! ## A request taken -/

/-- A request of any row that a free port takes replies with its action's outcome (R169). -/
theorem exec_replies {c : Instr} {kind : Byte} {r : Req} {body : List Byte} {lens : List Nat} {act : Action} {s t : State}
    {st : Status} {clamped : Bool} {data : List Byte} (row : requestOf c = some (kind, r, body))
    (known : catalogue kind.toNat body = some (lens, act)) (free : s.portFree) (level : r.level.toNat ≤ 3)
    (len : body.length ∈ lens)
    (does : act (max r.level.toNat s.floor) (heard r.protect s) = (heard r.protect t, ⟨st, clamped, data⟩)) :
    exec c s = .next (replied s t r kind st clamped data) :=
  (exec_request row s).trans
    (congrArg Host.Outcome.next (requestRow_replies free level known (List.contains_iff_mem.mpr len) does))

/-- The same behind a fixed required level that is met (R156). -/
theorem exec_replies_level {c : Instr} {kind : Byte} {r : Req} {body : List Byte} {lens : List Nat} {n : Nat} {act : Action}
    {s t : State} {st : Status} {clamped : Bool} {data : List Byte} (taken : s.takes r n)
    (row : requestOf c = some (kind, r, body)) (known : catalogue kind.toNat body = some (lens, needLevel n act))
    (len : body.length ∈ lens)
    (does : act (max r.level.toNat s.floor) (heard r.protect s) = (heard r.protect t, ⟨st, clamped, data⟩)) :
    exec c s = .next (replied s t r kind st clamped data) :=
  exec_replies row known taken.1 taken.2.1 len ((needLevel_met taken.2.2).trans does)

/-- A fixed required level that is not met: LEVEL, and nothing changes (R156). -/
theorem exec_below_level {c : Instr} {kind : Byte} {r : Req} {body : List Byte} {lens : List Nat} {n : Nat} {act : Action}
    {s : State} (row : requestOf c = some (kind, r, body))
    (known : catalogue kind.toNat body = some (lens, needLevel n act)) (free : s.portFree) (level : r.level.toNat ≤ 3)
    (len : body.length ∈ lens) (below : n < max r.level.toNat s.floor) :
    exec c s = .next (answered s s r kind .level) :=
  exec_replies row known free level len (needLevel_unmet below)

/-! ## Numbers of entries and gates -/

theorem toFin8_val (e : Fin 8) : toFin8 e.val = some e := by simp [toFin8]

theorem toFin8_none {x : Nat} (outside : 8 ≤ x) : toFin8 x = none := by simp [toFin8, outside]

theorem toFin16_val (k : Fin 16) : toFin16 k.val = some k := by simp [toFin16]

theorem toFin16_none {x : Nat} (outside : 16 ≤ x) : toFin16 x = none := by simp [toFin16, outside]

/-! ## The reads -/

/-- Settles O2: each read's action leaves the state, and its number names an entry or gate or none. -/
theorem readingRequestsReplyAndChangeNothing : Obligations.ReadingRequestsReplyAndChangeNothing := by
  intro s r taken
  refine ⟨exec_replies_level taken rfl rfl (List.mem_singleton.mpr rfl) rfl,
    exec_replies_level taken rfl rfl (List.mem_singleton.mpr rfl) rfl, fun body len => ?_⟩
  have one : body.length ∈ [1] := List.mem_singleton.mpr len
  refine ⟨fun e named => ?entry, fun outside => ?noEntry, fun k named => ?gate, fun outside => ?noGate⟩
  case entry =>
    refine exec_replies_level (act := actProfileRead body) taken rfl rfl one ?_
    rw [actProfileRead, named, toFin8_val]
    rfl
  case noEntry =>
    refine exec_replies_level (act := actProfileRead body) taken rfl rfl one ?_
    rw [actProfileRead, toFin8_none outside]
    rfl
  case gate =>
    refine exec_replies_level (act := actGateRead body) taken rfl rfl one ?_
    rw [actGateRead, named, toFin16_val]
    rfl
  case noGate =>
    refine exec_replies_level (act := actGateRead body) taken rfl rfl one ?_
    rw [actGateRead, toFin16_none outside]
    rfl

/-! ## FLOOR (10.1) -/

theorem actFloor_range {body : List Byte} (high : 3 < field body 0 1) (eff : Nat) (s : State) :
    actFloor body eff s = (s, refuse .range) := by
  simp only [actFloor, if_pos high]

theorem actFloor_level {body : List Byte} {s : State} (high : field body 0 1 ≤ 3) (low : field body 0 1 < s.floor)
    (eff : Nat) : actFloor body eff s = (s, refuse .level) := by
  simp only [actFloor, if_neg high.not_gt, if_pos low]

theorem actFloor_done {body : List Byte} {s : State} (high : field body 0 1 ≤ 3) (low : s.floor ≤ field body 0 1)
    (eff : Nat) : actFloor body eff s = ({ s with floor := field body 0 1 }, done) := by
  simp only [actFloor, if_neg high.not_gt, if_neg low.not_gt]

/-- Settles O5: FLOOR's two refusals and its write; a floor above 0 lifts every effective level above 0. -/
theorem floorRisesAndShutsLevelZero : Obligations.FloorRisesAndShutsLevelZero := by
  intro s r body free level
  have floorRow {t : State} {st : Status} (len : body.length = 1)
      (act : actFloor body (max r.level.toNat s.floor) (heard r.protect s) = (heard r.protect t, ⟨st, false, []⟩)) :
      exec (.floor r body) s = .next (answered s t r 0x12 st) :=
    exec_replies rfl rfl free level (List.mem_singleton.mpr len) act
  refine ⟨fun len high => floorRow len (actFloor_range high _ _),
    fun len high low => floorRow len (actFloor_level (s := heard r.protect s) high low _),
    fun len high low => floorRow len (actFloor_done (s := heard r.protect s) high low _), fun raised => ?_⟩
  have below : 0 < max r.level.toNat s.floor := by omega
  refine ⟨fun len => ⟨?_, ?_⟩, fun len => ?_, fun len => ⟨?_, ?_⟩, fun len => ?_, fun len => ?_⟩
  · exact exec_below_level rfl rfl free level (List.mem_singleton.mpr len) below
  · exact exec_below_level rfl rfl free level (List.mem_singleton.mpr len) below
  · exact exec_below_level (lens := [5, 64]) rfl rfl free level (by simpa using len) below
  · exact exec_below_level rfl rfl free level (List.mem_singleton.mpr len) below
  · exact exec_below_level rfl rfl free level (List.mem_singleton.mpr len) below
  · exact exec_below_level rfl rfl free level (List.mem_singleton.mpr len) below
  · exact exec_below_level rfl rfl free level (List.mem_singleton.mpr len) below

/-! ## TIME LABEL (7.3) -/

/-- Settles O6: the label's range decides between the refusal and the one write. -/
theorem timeLabelBecomesPending : Obligations.TimeLabelBecomesPending := by
  intro s r body taken len
  have row {t : State} {st : Status}
      (act : actTimeLabel body (max r.level.toNat s.floor) (heard r.protect s) = (heard r.protect t, ⟨st, false, []⟩)) :
      exec (.timeLabel r body) s = .next (answered s t r 0x13 st) :=
    exec_replies_level taken rfl rfl (List.mem_singleton.mpr len) act
  refine ⟨fun high => row ?_, fun low => row ?_⟩
  · exact if_pos high
  · exact if_neg low.not_ge

/-! ## PROFILE SELECT (9.2) -/

/-- Settles O8: the pointer moves alone, or, in HOLD, with the averages brought under the new scale. -/
theorem profileSelectMovesThePointer : Obligations.ProfileSelectMovesThePointer := by
  intro s r body taken len
  have row {t : State} {st : Status}
      (act : actProfileSelect body (max r.level.toNat s.floor) (heard r.protect s) = (heard r.protect t, ⟨st, false, []⟩)) :
      exec (.profileSelect r body) s = .next (answered s t r 0x0A st) :=
    exec_replies_level taken rfl rfl (List.mem_singleton.mpr len) act
  refine ⟨fun outside => row ?_, fun e named => ?_⟩
  · rw [actProfileSelect, toFin8_none outside]
    rfl
  · have reads (differ : Bool) (is : structuralDiffer s.active s.settings.profiles[e] = differ) :
        actProfileSelect body (max r.level.toNat s.floor) (heard r.protect s) =
          if differ = true ∧ s.chain.st ≠ .hold then (heard r.protect s, refuse .needsHold)
          else (if differ then boundAverages (heard r.protect { s with settings := { s.settings with active := e } })
            else heard r.protect { s with settings := { s.settings with active := e } }, done) := by
      rw [actProfileSelect, named, toFin8_val, ← is]
      rfl
    refine ⟨fun differ away => row ?_, fun same => row ?_, fun differ hold => row ?_⟩
    · rw [reads true differ, if_pos ⟨rfl, away⟩]
      rfl
    · rw [reads false same]
      rfl
    · rw [reads true differ, if_neg (by simp [hold])]
      rfl

end Sys2Proof.Proofs
end

section
/-! PROOFS. The requests that write settings (9.2 to 9.4, 10.3, 10.4): each a chain of refusals, then one write. -/

namespace Sys2Proof.Proofs

open Sys2Proof.Machine

/-! ## A check whose failure refuses -/

theorem passes_check {b : Bool} (holds : b = true) : ¬ (!b) = true := by simp [holds]

theorem fails_check {b : Bool} (fails : b = false) : (!b) = true := by simp [fails]

/-! ## PROFILE WRITE (9.2) -/

/-- No entry differs from itself. -/
theorem structuralDiffer_self (p : Profile) : structuralDiffer p p = false := by
  simp [structuralDiffer]

theorem active_setProfile (s : State) (e : Fin 8) (p : Profile) :
    (s.setProfile e p).active = if s.settings.active = e then p else s.active := by
  split
  next same =>
    subst same
    exact setProfile_self s _ p
  next other => exact setProfile_ne s p other

/-- A write of an entry brings the averages under a new scale exactly if it is the active entry's and structural (R27). -/
theorem afterStructural_setProfile (s : State) (e : Fin 8) (new : Profile) :
    afterStructural s.active (s.setProfile e new) = { s.setProfile e new with
      det := if s.settings.active = e ∧ structuralDiffer s.settings.profiles[e] new = true then
        ⟨s.det.z.bound .z new.cf, s.det.h.bound .h new.cf⟩ else s.det } := by
  unfold afterStructural
  rw [active_setProfile]
  by_cases same : s.settings.active = e
  · subst same
    rw [if_pos rfl]
    change (if structuralDiffer s.settings.profiles[s.settings.active] new then _ else _) = _
    by_cases differ : structuralDiffer s.settings.profiles[s.settings.active] new = true
    · simp only [differ, and_self, if_true, boundAverages]
      rw [active_setProfile, if_pos rfl]
      rfl
    · simp only [differ]
      rfl
  · simp only [same, false_and, if_false, structuralDiffer_self, Bool.false_eq_true]
    rfl

section
variable {e : Fin 8} {new : Profile} {cls eff : Nat} {ranged : Bool} {s : State}

theorem writeProfile_level (above : min s.settings.profiles[e].level cls < eff) :
    writeProfile e new cls ranged eff s = (s, refuse .level) := if_pos above

theorem writeProfile_locked (level : eff ≤ min s.settings.profiles[e].level cls)
    (locked : s.mayWrite s.settings.profileLock[e] eff = false) :
    writeProfile e new cls ranged eff s = (s, refuse .locked) :=
  (if_neg level.not_gt).trans (if_pos (fails_check locked))

theorem writeProfile_checked (level : eff ≤ min s.settings.profiles[e].level cls)
    (allowed : s.mayWrite s.settings.profileLock[e] eff = true) :
    writeProfile e new cls ranged eff s =
      if s.settings.active = e ∧ structuralDiffer s.settings.profiles[e] new ∧ s.chain.st ≠ .hold then (s, refuse .needsHold)
      else if !ranged then (s, refuse .range)
      else if !new.consistent then (s, refuse .conflict)
      else (discardTrials e (afterStructural s.active (s.setProfile e new)), done) :=
  (if_neg level.not_gt).trans (if_neg (passes_check allowed))

end

/-- A body that names an entry, and an item or all of them, writes the entry as it would then stand (R140). -/
theorem actProfileWrite_eq {body : List Byte} {e : Fin 8} {new : Profile} {cls : Nat} {ranged : Bool} {s : State}
    (named : field body 0 1 = e.val)
    (carried : (body.length = 6 ∧ ∃ i : Item, itemOf (field body 1 1) = some i ∧
        new = s.settings.profiles[e].put i (field body 2 4) ∧ cls = i.cls ∧ ranged = i.inRange (field body 2 4)) ∨
      (body.length = 133 ∧ new = s.settings.profiles[e].ofValues (fields4 body 1 33) ∧
        cls = wholeClass s.settings.profiles[e] new ∧ ranged = new.inRange)) (eff : Nat) :
    actProfileWrite body eff s = writeProfile e new cls ranged eff s := by
  rw [actProfileWrite, named, toFin8_val]
  rcases carried with ⟨len, i, item, rfl, rfl, rfl⟩ | ⟨len, rfl, rfl, rfl⟩
  · dsimp only
    rw [if_pos len, item]
  · dsimp only
    rw [if_neg (by rw [len]; decide)]

theorem itemOf_none {id : Nat} (outside : 33 ≤ id) : itemOf id = none := List.getElem?_eq_none outside

/-- Settles O16: the naming of entry and item, then the checks of a write in their order. -/
theorem profileWriteChecksThenStores : Obligations.ProfileWriteChecksThenStores := by
  intro s r body free level len eff
  have row {t : State} {st : Status}
      (act : actProfileWrite body (max r.level.toNat s.floor) (heard r.protect s) = (heard r.protect t, ⟨st, false, []⟩)) :
      exec (.profileWrite r body) s = .next (answered s t r 0x09 st) :=
    exec_replies (lens := [6, 133]) rfl rfl free level (by simpa using len) act
  refine ⟨fun outside => row ?_, ?_⟩
  · rcases outside with outside | ⟨len, outside⟩
    · rw [actProfileWrite, toFin8_none outside]
      rfl
    · rw [actProfileWrite]
      split
      · rfl
      · dsimp only
        rw [if_pos len, itemOf_none outside]
        rfl
  intro e new cls ranged named old lock carried structural allowed
  have write := actProfileWrite_eq (s := heard r.protect s) named carried eff
  have checked (within : eff ≤ min old.level cls) (pass : allowed) :=
    write.trans (writeProfile_checked (s := heard r.protect s) within pass)
  have structuralIff : (s.settings.active = e ∧ structuralDiffer old new = true ∧ s.chain.st ≠ .hold) ↔
      (structural ∧ s.chain.st ≠ .hold) := and_assoc.symm
  refine ⟨fun above => row ?level, fun within locked => row ?locked, fun within pass differs away => row ?needsHold,
    fun within pass inPlace outside => row ?range, fun within pass inPlace inside clash => row ?conflict,
    fun within pass inPlace inside agrees => row ?stored⟩
  case level => exact write.trans (writeProfile_level (s := heard r.protect s) above)
  case locked =>
    exact write.trans (writeProfile_locked (s := heard r.protect s) within (Bool.eq_false_iff.mpr locked))
  case needsHold => exact (checked within pass).trans (if_pos (structuralIff.mpr ⟨differs, away⟩))
  case range =>
    exact (checked within pass).trans ((if_neg (mt structuralIff.mp inPlace)).trans (if_pos (fails_check outside)))
  case conflict =>
    exact (checked within pass).trans ((if_neg (mt structuralIff.mp inPlace)).trans
      ((if_neg (passes_check inside)).trans (if_pos (fails_check clash))))
  case stored =>
    refine (checked within pass).trans ((if_neg (mt structuralIff.mp inPlace)).trans
      ((if_neg (passes_check inside)).trans ((if_neg (passes_check agrees)).trans ?_)))
    rw [afterStructural_setProfile]
    rfl

/-! ## PROFILE LOCK (9.3) -/

theorem lockOutcome_some {present l : Lock} {ask : LockAsk} {eff : Nat} {s : State} {put : Lock → State}
    (moves : lockMove present ask (s.mayWrite (.base .line) eff) = some l) :
    lockOutcome present ask eff s put = (put l, done) := by
  rw [lockOutcome, moves]

theorem lockOutcome_none {present : Lock} {ask : LockAsk} {eff : Nat} {s : State} {put : Lock → State}
    (stays : lockMove present ask (s.mayWrite (.base .line) eff) = none) :
    lockOutcome present ask eff s put = (s, refuse .locked) := by
  rw [lockOutcome, stays]

/-- The lock that a code asks for, made from a lock in state b (R144, 11.3). -/
def askedFrom (code : Nat) (b : BaseLock) : Lock :=
  if code = 0 then .base .opened else if code = 1 then .base .line else if code = 2 then .power b else .base .fixed

theorem lockAsk_of_le {code : Nat} (known : code ≤ 3) :
    ∃ ask, lockAsk code = some ask ∧ (ask = .base .line ↔ code = 1) ∧ ∀ b, lockTo b ask = askedFrom code b := by
  interval_cases code
  · exact ⟨.base .opened, rfl, by decide, fun _ => rfl⟩
  · exact ⟨.base .line, rfl, by decide, fun _ => rfl⟩
  · exact ⟨.power, rfl, by decide, fun _ => rfl⟩
  · exact ⟨.base .fixed, rfl, by decide, fun _ => rfl⟩

theorem lockAsk_none {code : Nat} (unknown : 3 < code) : lockAsk code = none := by
  unfold lockAsk
  split <;> first | omega | rfl

/-- The tables with the lock of one target replaced. -/
def putLock (table : Settings) (target : Nat) (l : Lock) : Settings :=
  if h : target < 8 then { table with profileLock := table.profileLock.set target l h }
  else if target = 8 then { table with stationLock := l } else { table with gateLock := l }

/-- A lock request of a named target and state is that target's transition. -/
theorem actProfileLock_eq {body : List Byte} {present : Lock} {ask : LockAsk} {s : State}
    (asked : lockAsk (field body 1 1) = some ask)
    (entry : ∀ e : Fin 8, field body 0 1 = e.val → present = s.settings.profileLock[e])
    (station : field body 0 1 = 8 → present = s.settings.stationLock)
    (gates : field body 0 1 = 9 → present = s.settings.gateLock) (target : field body 0 1 ≤ 9) (eff : Nat) :
    actProfileLock body eff s = lockOutcome present ask eff s fun l =>
      { s with settings := putLock s.settings (field body 0 1) l } := by
  unfold actProfileLock
  dsimp only
  rw [asked]
  unfold putLock
  by_cases low : field body 0 1 < 8
  · have named : toFin8 (field body 0 1) = some ⟨field body 0 1, low⟩ := by simp [toFin8, low]
    rw [named, entry ⟨_, low⟩ rfl]
    simp only [low, dif_pos]
  · rw [toFin8_none (Nat.le_of_not_lt low)]
    simp only [low, dif_neg, not_false_eq_true]
    by_cases eighth : field body 0 1 = 8
    · rw [station eighth]
      simp only [eighth, if_pos]
    · have ninth : field body 0 1 = 9 := by omega
      rw [gates ninth, if_neg eighth, if_pos ninth]
      simp only [if_neg eighth]

/-- Settles O17: the transition table, read off the present lock and whether a LINE lock may be left. -/
theorem profileLockFollowsTheTransitionTable : Obligations.ProfileLockFollowsTheTransitionTable := by
  intro s r body taken len target code table
  have row {t : State} {st : Status}
      (act : actProfileLock body (max r.level.toNat s.floor) (heard r.protect s) = (heard r.protect t, ⟨st, false, []⟩)) :
      exec (.profileLock r body) s = .next (answered s t r 0x0B st) :=
    exec_replies_level taken rfl rfl (List.mem_singleton.mpr len) act
  refine ⟨fun outside => row ?_, ?_⟩
  · unfold actProfileLock
    dsimp only
    split
    · rfl
    next ask known =>
      rcases outside with high | unknown
      · have noEntry : toFin8 (field body 0 1) = none := toFin8_none (by omega)
        rw [noEntry]
        dsimp only
        rw [if_neg (by omega), if_neg (by omega)]
        rfl
      · rw [lockAsk_none unknown] at known
        cases known
  intro present known entry station gates named asked pass put
  obtain ⟨ask, asks, line, makes⟩ := lockAsk_of_le known
  have outcome := actProfileLock_eq (s := heard r.protect s) asks entry station gates named (max r.level.toNat s.floor)
  have zero : max r.level.toNat s.floor = 0 := Nat.le_zero.mp taken.2.2
  have mayLeave : (heard r.protect s).mayWrite (.base .line) (max r.level.toNat s.floor) = decide pass := by
    rw [zero]
    change (r.protect || ((0 : Nat) == 0 && !s.settings.station.strict)) = decide pass
    simp [pass, table]
  refine ⟨fun b is moves => row ?_, fun is other stays => row ?_, fun b is => row ?_, fun is => row ?_⟩
  · subst is
    refine outcome.trans (lockOutcome_some (l := asked b) ?_)
    rw [mayLeave]
    rcases moves with rfl | ⟨rfl, moves⟩
    · exact congrArg some (makes .opened)
    · by_cases stays : ask = .base .line
      · refine (if_pos stays).trans ?_
        rw [stays] at makes
        exact congrArg some (makes .line)
      · have leaves : pass := moves.resolve_left (mt line.mpr stays)
        exact (if_neg stays).trans ((if_pos (decide_eq_true leaves)).trans (congrArg some (makes .line)))
  · subst is
    refine outcome.trans (lockOutcome_none ?_)
    rw [mayLeave, decide_eq_false stays]
    exact if_neg (mt line.mp other)
  · subst is
    exact outcome.trans (lockOutcome_none rfl)
  · subst is
    exact outcome.trans (lockOutcome_none rfl)

/-! ## STATION WRITE (9.4) -/

section
variable {body : List Byte} {eff : Nat} {s : State}

theorem actStationWrite_locked (locked : s.mayWrite s.settings.stationLock eff = false) :
    actStationWrite body eff s = (s, refuse .locked) := if_pos (fails_check locked)

theorem actStationWrite_needsHold (allowed : s.mayWrite s.settings.stationLock eff = true) (away : s.chain.st ≠ .hold) :
    actStationWrite body eff s = (s, refuse .needsHold) := (if_neg (passes_check allowed)).trans (if_pos away)

theorem actStationWrite_inHold (allowed : s.mayWrite s.settings.stationLock eff = true) (hold : s.chain.st = .hold) :
    actStationWrite body eff s =
      if !(stationItems body).all fun iv => stationInRange iv.1 iv.2 then (s, refuse .range)
      else if !mapOneToOne (s.settings.station.putAll (stationItems body)).map then (s, refuse .conflict)
      else ({ s with
        settings := { s.settings with station := s.settings.station.putAll (stationItems body) }
        dc := meansAfter s.settings.station (s.settings.station.putAll (stationItems body)) s.dc }, done) :=
  (if_neg (passes_check allowed)).trans (if_neg (not_not.mpr hold))

end

/-- What a station write makes of the means: each unset by a changed map or its own changed polarity or trim (R11). -/
theorem meansAfter_eq (old new : Station) (m : Trio (Option Int)) : meansAfter old new m =
    ⟨if old.map ≠ new.map ∨ old.inverted.z ≠ new.inverted.z ∨ old.trim.z ≠ new.trim.z then none else m.z,
      if old.map ≠ new.map ∨ old.inverted.n ≠ new.inverted.n ∨ old.trim.n ≠ new.trim.n then none else m.n,
      if old.map ≠ new.map ∨ old.inverted.e ≠ new.inverted.e ∨ old.trim.e ≠ new.trim.e then none else m.e⟩ := by
  simp only [meansAfter, meanAfter, Bool.or_eq_true, bne_iff_ne, or_assoc]

/-- Settles O18: four refusals in their order, then the record and the means it touches. -/
theorem stationWriteChecksThenStores : Obligations.StationWriteChecksThenStores := by
  intro s r body taken len old items new allowed ranged
  have row {t : State} {st : Status}
      (act : actStationWrite body (max r.level.toNat s.floor) (heard r.protect s) = (heard r.protect t, ⟨st, false, []⟩)) :
      exec (.stationWrite r body) s = .next (answered s t r 0x0D st) :=
    exec_replies_level (lens := [5, 64]) taken rfl rfl (by simpa using len) act
  have inHold (pass : allowed) (hold : s.chain.st = .hold) :=
    actStationWrite_inHold (body := body) (s := heard r.protect s) pass hold
  have inside : (items.all fun iv => stationInRange iv.1 iv.2) = true ↔ ranged := List.all_eq_true
  refine ⟨fun locked => row ?_, fun pass away => row ?_, fun pass hold outside => row ?_,
    fun pass hold within clash => row ?_, fun pass hold within oneToOne => row ?_⟩
  · exact actStationWrite_locked (s := heard r.protect s) (Bool.eq_false_iff.mpr locked)
  · exact actStationWrite_needsHold (s := heard r.protect s) pass away
  · exact (inHold pass hold).trans (if_pos (fails_check (Bool.eq_false_iff.mpr (mt inside.mp outside))))
  · exact (inHold pass hold).trans ((if_neg (passes_check (inside.mpr within))).trans (if_pos (fails_check clash)))
  · refine (inHold pass hold).trans ((if_neg (passes_check (inside.mpr within))).trans
      ((if_neg (passes_check oneToOne)).trans ?_))
    rw [meansAfter_eq]
    rfl

/-! ## GATE WRITE (10.3) -/

theorem actGateWrite_range {body : List Byte} (outside : 16 ≤ field body 0 1 ∨ 2 ≤ field body 1 1) (eff : Nat) (s : State) :
    actGateWrite body eff s = (s, refuse .range) := by
  unfold actGateWrite
  split
  · rfl
  next k named =>
    rcases outside with outside | outside
    · rw [toFin16_none outside] at named
      cases named
    · exact if_pos outside

theorem actGateWrite_eq {body : List Byte} {k : Fin 16} (named : field body 0 1 = k.val) (valid : field body 1 1 ≤ 1)
    (eff : Nat) (s : State) : actGateWrite body eff s =
      if !s.mayWrite s.settings.gateLock eff then (s, refuse .locked)
      else if (gateOf body).valid && !(gateOf body).inRange then (s, refuse .range)
      else if (gateOf body).valid && !(gateOf body).consistent then (s, refuse .conflict)
      else (s.setGate k (gateOf body), done) := by
  rw [actGateWrite, named, toFin16_val]
  exact if_neg valid.not_gt

/-- Settles O19: the naming, the lock, and the two checks of a gate written valid. -/
theorem gateWriteChecksThenStores : Obligations.GateWriteChecksThenStores := by
  intro s r body taken len g allowed
  have row {t : State} {st : Status}
      (act : actGateWrite body (max r.level.toNat s.floor) (heard r.protect s) = (heard r.protect t, ⟨st, false, []⟩)) :
      exec (.gateWrite r body) s = .next (answered s t r 0x0F st) :=
    exec_replies_level taken rfl rfl (List.mem_singleton.mpr len) act
  refine ⟨fun outside => row (actGateWrite_range outside _ _), fun k named valid => ?_⟩
  have write := actGateWrite_eq named valid (max r.level.toNat s.floor) (heard r.protect s)
  have passed (pass : allowed) := write.trans (if_neg (passes_check pass))
  refine ⟨fun locked => row (write.trans (if_pos ?_)), fun pass written outside => row ((passed pass).trans (if_pos ?_)),
    fun pass written within clash => row ((passed pass).trans ((if_neg ?_).trans (if_pos ?_))),
    fun pass legal => row ((passed pass).trans ((if_neg ?_).trans (if_neg ?_)))⟩
  · exact fails_check (Bool.eq_false_iff.mpr locked)
  · rw [show (gateOf body).valid = true from written, show (gateOf body).inRange = false from outside]
    rfl
  · rw [show (gateOf body).inRange = true from within]
    simp
  · rw [show (gateOf body).valid = true from written, show (gateOf body).consistent = false from clash]
    rfl
  · rcases legal with written | ⟨within, -⟩
    · rw [show (gateOf body).valid = false from written]
      exact Bool.false_ne_true
    · rw [show (gateOf body).inRange = true from within]
      simp
  · rcases legal with written | ⟨-, agrees⟩
    · rw [show (gateOf body).valid = false from written]
      exact Bool.false_ne_true
    · rw [show (gateOf body).consistent = true from agrees]
      simp

/-! ## ADJUST (10.4) -/

theorem actAdjust_range {body : List Byte} (outside : 16 ≤ field body 0 1 ∨ 2 ≤ field body 1 1) (eff : Nat) (s : State) :
    actAdjust body eff s = (s, refuse .range) := by
  unfold actAdjust
  dsimp only
  split
  · rfl
  next k named =>
    rcases outside with outside | outside
    · rw [toFin16_none outside] at named
      cases named
    · exact if_pos outside

section
variable {body : List Byte} {k : Fin 16} {eff : Nat} {s : State}

theorem actAdjust_notFound (named : field body 0 1 = k.val) (mode : field body 1 1 ≤ 1)
    (invalid : s.settings.gates[k].valid = false) : actAdjust body eff s = (s, refuse .notFound) := by
  rw [actAdjust, named, toFin16_val]
  exact (if_neg mode.not_gt).trans (if_pos (fails_check invalid))

/-- Behind a valid gate the levels are checked (R159 checks 3 and 4). -/
theorem actAdjust_valid (named : field body 0 1 = k.val) (mode : field body 1 1 ≤ 1)
    (valid : s.settings.gates[k].valid = true) : actAdjust body eff s =
      if s.settings.gates[k].level < eff then (s, refuse .level)
      else if field body 1 1 = 0 ∧ s.settings.gates[k].setLevel < eff then (s, refuse .level)
      else if !s.mayWrite s.settings.profileLock[s.settings.gates[k].resolve s.settings.active] eff then
        (s, refuse .locked)
      else if field body 1 1 = 0 then adjustSet s.settings.gates[k] (fieldInt body 2 4) s
      else if Config.stackCap ≤ s.revert.length then (s, refuse .full)
      else
        match s.newest with
        | none => (s, refuse .state)
        | some n => adjustTry s.settings.gates[k] (fieldInt body 2 4) (field body 6 3) eff n s := by
  rw [actAdjust, named, toFin16_val]
  exact (if_neg mode.not_gt).trans (if_neg (passes_check valid))

theorem actAdjust_level (named : field body 0 1 = k.val) (mode : field body 1 1 ≤ 1)
    (valid : s.settings.gates[k].valid = true)
    (above : s.settings.gates[k].level < eff ∨ field body 1 1 = 0 ∧ s.settings.gates[k].setLevel < eff) :
    actAdjust body eff s = (s, refuse .level) := by
  rw [actAdjust_valid named mode valid]
  split
  · rfl
  next within => exact if_pos (above.resolve_left within)

/-- An ADJUST within its levels: the lock, then SET or TRY. -/
theorem actAdjust_within (named : field body 0 1 = k.val) (mode : field body 1 1 ≤ 1)
    (valid : s.settings.gates[k].valid = true) (level : eff ≤ s.settings.gates[k].level)
    (setLevel : field body 1 1 = 1 ∨ eff ≤ s.settings.gates[k].setLevel) : actAdjust body eff s =
      if !s.mayWrite s.settings.profileLock[s.settings.gates[k].resolve s.settings.active] eff then
        (s, refuse .locked)
      else if field body 1 1 = 0 then adjustSet s.settings.gates[k] (fieldInt body 2 4) s
      else if Config.stackCap ≤ s.revert.length then (s, refuse .full)
      else
        match s.newest with
        | none => (s, refuse .state)
        | some n => adjustTry s.settings.gates[k] (fieldInt body 2 4) (field body 6 3) eff n s := by
  rw [actAdjust_valid named mode valid]
  refine (if_neg level.not_gt).trans (if_neg ?_)
  rintro ⟨isSet, above⟩
  omega

theorem actAdjust_try (named : field body 0 1 = k.val) (mode : field body 1 1 = 1)
    (valid : s.settings.gates[k].valid = true) (level : eff ≤ s.settings.gates[k].level)
    (allowed : s.mayWrite s.settings.profileLock[s.settings.gates[k].resolve s.settings.active] eff = true) :
    actAdjust body eff s =
      if Config.stackCap ≤ s.revert.length then (s, refuse .full)
      else
        match s.newest with
        | none => (s, refuse .state)
        | some n => adjustTry s.settings.gates[k] (fieldInt body 2 4) (field body 6 3) eff n s := by
  rw [actAdjust_within named mode.le valid level (.inl mode)]
  exact (if_neg (passes_check allowed)).trans (if_neg (by omega))

end

/-- A gate's duration clamp is a bound from both sides (R161). -/
theorem duration_eq {g : Gate} (some' : 1 ≤ g.dur) (asked : Nat) : g.duration asked = max 1 (min asked g.dur) := by
  unfold Gate.duration
  split
  · omega
  · split <;> omega

/-- Settles O20: the refusals of both rows, in their order. -/
theorem adjustChecksInOrder : Obligations.AdjustChecksInOrder := by
  intro s r body free level len c rows eff mode
  have row {st : Status} (act : actAdjust body eff (heard r.protect s) = (heard r.protect s, ⟨st, false, []⟩)) :
      exec c s = .next (answered s s r 0x10 st) := by
    simp only [List.mem_cons, List.not_mem_nil, or_false] at rows
    rcases rows with rfl | rfl
    · exact exec_replies rfl rfl free level (List.mem_singleton.mpr len) act
    · exact exec_replies rfl rfl free level (List.mem_singleton.mpr len) act
  refine ⟨fun outside => row (actAdjust_range outside _ _), ?_⟩
  intro k named modes g e allowed
  refine ⟨fun invalid => row ?_, fun valid above => row ?_, fun valid within set' locked => row ?_,
    fun valid within trial pass full => row ?_, fun valid within trial pass room never => row ?_⟩
  · exact actAdjust_notFound (s := heard r.protect s) named modes invalid
  · exact actAdjust_level (s := heard r.protect s) named modes valid above
  · exact (actAdjust_within (s := heard r.protect s) named modes valid within set').trans
      (if_pos (fails_check (Bool.eq_false_iff.mpr locked)))
  · exact (actAdjust_try (s := heard r.protect s) named trial valid within pass).trans (if_pos full)
  · refine (actAdjust_try (s := heard r.protect s) named trial valid within pass).trans
      ((if_neg (Nat.not_le_of_lt room)).trans ?_)
    rw [show (heard r.protect s).newest = none from never]
    rfl

/-- Settles O21: the SET branch behind the checks. -/
theorem adjustSetStoresAndDiscards : Obligations.AdjustSetStoresAndDiscards := by
  intro s r body k free level len named mode eff g e p valid within setWithin allowed carried v kept
  refine exec_replies (act := actAdjust body) rfl rfl free level (List.mem_singleton.mpr len) ?_
  refine (actAdjust_within (s := heard r.protect s) named (by omega) valid within (.inr setWithin)).trans
    ((if_neg ?_).trans (if_pos mode))
  exact passes_check allowed

/-- Settles O22: the TRY branch behind the checks. -/
theorem adjustTryPushesATrial : Obligations.AdjustTryPushesATrial := by
  intro s r body k n free level len named mode eff g e p valid within allowed room newest some' carried v asked d expiry
  refine exec_replies (act := actAdjust body) rfl rfl free level (List.mem_singleton.mpr len) ?_
  refine (actAdjust_try (s := heard r.protect s) named mode valid within allowed).trans
    ((if_neg (Nat.not_le_of_lt room)).trans ?_)
  rw [show (heard r.protect s).newest = some n from newest]
  have clamped : s.settings.gates[k].duration (field body 6 3) = d := duration_eq some' _
  unfold adjustTry
  dsimp only
  rw [show (heard r.protect s).settings.gates[k].duration (field body 6 3) = d from clamped]
  rfl

end Sys2Proof.Proofs
end

section
/-! PROOFS. The store and the RESET request (9.5, 11.4), and the order of a refinement's stages (5.1). -/

namespace Sys2Proof.Proofs

open Sys2Proof.Machine Sys2Proof.Laws

/-! ## RESET and the end of a reply -/

theorem replyComplete_none {s : State} (free : s.port.busy = none) : exec .replyComplete s = .next s := by
  change execReplyComplete s = _
  rw [execReplyComplete, free]
  cases s.power <;> rfl

theorem replyComplete_some {s : State} {rep : Reply} (on : s.power = true) (busy : s.port.busy = some rep) :
    exec .replyComplete s = .next (completeReply rep s) := by
  change execReplyComplete s = _
  rw [execReplyComplete, on, busy]

/-- A reply that releases no reset only frees the port (R168). -/
theorem completeReply_other {rep : Reply} {s : State}
    (other : rep.isReset = false ∨ ∀ b, s.resetPending ≠ some ⟨.request, b⟩) :
    completeReply rep s = { s with port := { s.port with busy := none } } := by
  unfold completeReply
  dsimp only
  split
  next b pending is =>
    rcases other with isNot | none'
    · exact absurd is (by simp [isNot])
    · exact absurd pending (none' b)
  next => rfl

theorem completeReply_reset {rep : Reply} {s : State} {b : Bool} (is : rep.isReset = true)
    (pending : s.resetPending = some ⟨.request, b⟩) : completeReply rep s = tryReset
      { s with port := { s.port with busy := none }, resetPending := some ⟨.request, true⟩ } := by
  simp only [completeReply, pending, is]

theorem tryReset_now {s : State} {k : ResetKind} (pending : s.resetPending = some ⟨k, true⟩)
    (idle : s.store.writing = none) : tryReset s = doReset k s := by
  simp only [tryReset, pending, idle]

theorem tryReset_waits {s : State} (saving : s.store.writing.isSome) : tryReset s = s := by
  obtain ⟨im, writing⟩ := Option.isSome_iff_exists.mp saving
  unfold tryReset
  split
  next none' => exact absurd none' (by simp [writing])
  next => rfl

theorem tryReset_unreleased {s : State} (none' : ∀ k, s.resetPending ≠ some ⟨k, true⟩) : tryReset s = s := by
  unfold tryReset
  split
  next k pending _ => exact absurd pending (none' k)
  next => rfl

theorem resetTakesEffect_request {s : State} {b : Bool} (on : s.power = true)
    (pending : s.resetPending = some ⟨.request, b⟩) (idle : s.store.writing = none) :
    exec .resetTakesEffect s = .next (doReset .request s) := by
  change execResetTakesEffect s = _
  rw [execResetTakesEffect, on, pending, idle]

theorem resetTakesEffect_line {s : State} (on : s.power = true)
    (pending : s.resetPending = some ⟨.line, true⟩) (idle : s.store.writing = none) :
    exec .resetTakesEffect s = .next (doReset .line s) := by
  change execResetTakesEffect s = _
  rw [execResetTakesEffect, on, pending, idle]

/-- Settles O25: the request joins or starts a pending reset, and its own reply's end releases it. -/
theorem resetRequestActsAfterItsReply : Obligations.ResetRequestActsAfterItsReply := by
  intro s
  refine ⟨fun r p taken pending => ?joins, fun r taken none' => ?starts, replyComplete_none, ?ends⟩
  case joins =>
    refine exec_replies_level (act := actReset) taken rfl rfl (List.mem_singleton.mpr rfl) ?_
    rw [actReset, show (heard r.protect s).resetPending = some p from pending]
    rfl
  case starts =>
    refine exec_replies_level (act := actReset) taken rfl rfl (List.mem_singleton.mpr rfl) ?_
    rw [actReset, show (heard r.protect s).resetPending = none from none']
    rfl
  case ends =>
    intro rep on busy idle
    refine ⟨fun other => ?_, fun b line => ?_, fun b kind done pending => ⟨fun free => ?_, fun saving => ?_⟩⟩
    · refine (replyComplete_some on busy).trans (congrArg _ (completeReply_other ?_))
      rcases other with kind | status | none'
      · exact .inl (by rw [Reply.isReset, beq_eq_false_iff_ne.mpr kind]; rfl)
      · exact .inl (by simp [Reply.isReset, status])
      · exact .inr (by simp [none'])
    · exact (replyComplete_some on busy).trans (congrArg _ (completeReply_other (.inr (by simp [line]))))
    · have is : rep.isReset = true := by simp [Reply.isReset, kind, done]
      rw [replyComplete_some on busy, completeReply_reset is pending,
        resetTakesEffect_request (s := idle) on pending free]
      exact congrArg _ (tryReset_now rfl free)
    · have is : rep.isReset = true := by simp [Reply.isReset, kind, done]
      rw [replyComplete_some on busy, completeReply_reset is pending]
      exact congrArg _ (tryReset_waits saving)

/-! ## A save's end -/

theorem storeSaveCompletion_some {s : State} {im : Image} (on : s.power = true) (saving : s.store.writing = some im) :
    exec .storeSaveCompletion s = .next (completeSave im s) := by
  change execStoreSaveCompletion s = _
  rw [execStoreSaveCompletion, on, saving]

/-- Settles O49: the completion stores the image and lets a released reset act; a loss of power drops both. -/
theorem saveCompletesOrIsLost : Obligations.SaveCompletesOrIsLost := by
  intro s on
  refine ⟨fun idle => ⟨?_, ?_⟩, fun im saving => ?_⟩
  · change execStoreSaveCompletion s = _
    rw [execStoreSaveCompletion, on, idle]
  · exact congrArg Host.Outcome.next (by simp only [losePower, idle])
  intro saved
  refine ⟨fun unreleased => ?_, fun released => ?_, ?_⟩
  · exact (storeSaveCompletion_some on saving).trans (congrArg _ (tryReset_unreleased unreleased))
  · rw [storeSaveCompletion_some on saving]
    rcases released with request | line
    · rw [resetTakesEffect_request (s := saved) on request rfl]
      exact congrArg _ (tryReset_now (s := saved) request rfl)
    · rw [resetTakesEffect_line (s := saved) on line rfl]
      exact congrArg _ (tryReset_now (s := saved) line rfl)
  · have lost : losePower s = { s with
        power := false, resetPending := none, choices := s.choices + 1
        store := { s.store with
          image := Config.tornImage s.store.image im s.choices, mark := false, writing := none } } := by
      simp only [losePower, saving]
    exact ⟨losePower s, rfl, by rw [lost], by rw [lost], by rw [lost], by rw [lost]⟩

/-! ## The order of the stages -/

/-- Settles O38: each row's match on what the Unit holds. -/
theorem refinementStagesRunOnceInOrder : Obligations.RefinementStagesRunOnceInOrder := by
  intro s on
  have search : exec .onsetSearch s = execOnsetSearch s := rfl
  have polar : exec .polarization s = execPolarization s := rfl
  have peaks : exec .peaksAndCounts s = execPeaksAndCounts s := rfl
  have complete : exec .refinementCompletion s = execRefinementCompletion s := rfl
  refine ⟨fun idle c row => ?idle, fun u inHand => ?busy⟩
  case idle =>
    simp only [List.mem_cons, List.not_mem_nil, or_false] at row
    rcases row with rfl | rfl | rfl | rfl
    · rw [search, execOnsetSearch, on, idle]
    · rw [polar, execPolarization, on, idle]
    · rw [peaks, execPeaksAndCounts, on, idle]
    · rw [complete, execRefinementCompletion, on, idle]
  case busy =>
    intro x
    refine ⟨fun first => ?_, fun o second third => ?_, fun o p second third fourth => ?_, fun past => ?_,
      fun turn => ?_, fun turn => ?_, fun turn => ?_⟩
    · rw [search, execOnsetSearch, on, inHand]
      simp only [first, x]
    · rw [polar, execPolarization, on, inHand]
      simp only [second, third, x]
    · rw [peaks, execPeaksAndCounts, on, inHand]
      simp only [second, third, fourth, x]
    · obtain ⟨o, found⟩ := Option.isSome_iff_exists.mp past
      rw [search, execOnsetSearch, on, inHand]
      simp only [found]
    · rw [polar, execPolarization, on, inHand]
      dsimp only
      split
      next o found none' => exact absurd turn (by simp [found, none'])
      next => rfl
    · rw [peaks, execPeaksAndCounts, on, inHand]
      dsimp only
      split
      next o p found pol none' => exact absurd turn (by simp [found, pol, none'])
      next => rfl
    · rw [complete, execRefinementCompletion, on, inHand]
      dsimp only
      split
      next o p k found pol peak => exact absurd turn (by simp [found, pol, peak])
      next => rfl

end Sys2Proof.Proofs
end

section
/-! PROOFS. The checks of the port before a request's own (11.2), the state after reset, and the snapshot requests
(2.6). -/

namespace Sys2Proof.Proofs

open Sys2Proof.Machine Sys2Proof.Laws

/-! ## The catalogue as a table -/

theorem catalogue_known {kind : Nat} (low : 1 ≤ kind) (high : kind ≤ 0x18) (body : List Byte) :
    ∃ act, catalogue kind body = some (allowedLengths kind, act) := by
  interval_cases kind <;> exact ⟨_, rfl⟩

theorem catalogue_unknown {kind : Nat} (outside : kind = 0 ∨ 0x18 < kind) (body : List Byte) :
    catalogue kind body = none := by
  unfold catalogue
  split
  case h_25 => rfl
  all_goals omega

theorem catalogue_needs {kind n : Nat} (fixed : requiredLevel kind = some n) (body : List Byte) :
    ∃ act, catalogue kind body = some (allowedLengths kind, needLevel n act) := by
  unfold requiredLevel at fixed
  split at fixed
  case h_21 => cases fixed
  all_goals
    cases fixed
    exact ⟨_, rfl⟩

/-- A frame of any kind is a request with some lengths and some action. -/
theorem takeFrame_request (kind : Byte) (r : Req) (body : List Byte) (s : State) :
    ∃ lens act, takeFrame kind r body s = request kind r lens body act s := by
  unfold takeFrame
  split
  · exact ⟨_, _, rfl⟩
  · exact ⟨_, _, rfl⟩

/-! ## The checks -/

/-- A request of any row at a searching receiver is its frame taken. -/
theorem exec_takeFrame {c : Instr} {kind : Byte} {r : Req} {body : List Byte} {s : State}
    (row : requestOf c = some (kind, r, body)) (on : s.power = true) (searching : s.port.searching = true) :
    exec c s = .next (takeFrame kind r body (listen s)) :=
  (exec_request row s).trans (congrArg _ (requestRow_searching on searching))

/-- A check of R169 that fails is answered, and nothing else happens. -/
theorem request_refused {kind : Byte} {r : Req} {lens : List Nat} {body : List Byte} {act : Action} {s : State}
    {st : Status} (on : s.power = true) (free : s.port.busy = none)
    (fails : dispatch r lens body act (heard r.protect s) = (heard r.protect s, refuse st)) :
    request kind r lens body act (listen s) = answered s s r kind st :=
  request_taken (s := listen s) on free fails

/-- Settles O3: the checks in the order in which the port makes them. -/
theorem portChecksComeFirst : Obligations.PortChecksComeFirst := by
  intro s r body on searching
  refine ⟨fun c k row busy => ?busy, fun c k row free high => ?level, fun kind free level outside => ?unknown,
    fun c k row free level low high badLength => ?length, fun c k n row free level len fixed above => ?required⟩
  case busy =>
    obtain ⟨lens, act, is⟩ := takeFrame_request k r body (listen s)
    rw [exec_takeFrame row on searching, is, request_busy (s := listen s) on busy]
    rfl
  case level =>
    obtain ⟨lens, act, is⟩ := takeFrame_request k r body (listen s)
    rw [exec_takeFrame row on searching, is]
    exact congrArg _ (request_refused on free (dispatch_level high))
  case unknown =>
    rw [exec_takeFrame (c := .unknownKind r kind body) rfl on searching]
    refine congrArg _ ?_
    unfold takeFrame
    rw [catalogue_unknown outside]
    exact request_refused on free (dispatch_act level (by simp))
  case length =>
    obtain ⟨act, known⟩ := catalogue_known low high body
    rw [exec_takeFrame row on searching, takeFrame_known known]
    exact congrArg _ (request_refused on free (dispatch_length level (by simpa using badLength)))
  case required =>
    obtain ⟨act, known⟩ := catalogue_needs fixed body
    exact exec_below_level row known ⟨on, free, searching⟩ level len above

/-! ## The state after reset -/

theorem withinCapacity_reset : State.reset.withinCapacity := by decide

/-- Tables loaded from the legal image that the store holds, with no trial and no save in flight. -/
theorem settingsLegal_of_loaded {s : State} {im : Image} (legal : im.legal) (settings : s.settings = loadImage im)
    (stack : s.revert = []) (image : s.store.image = im) (idle : s.store.writing = none) : s.settingsLegal := by
  obtain ⟨profiles, station, gates⟩ := legal
  refine ⟨settings ▸ profiles, settings ▸ station, settings ▸ gates, ?_, ?_, fun _ => image ▸ ⟨profiles, station, gates⟩, ?_⟩
  · simp [State.trialsLive, stack]
  · rw [stack]
    trivial
  · simp [idle]

/-- Settles O59: the tables are the factory image's; every other block is empty. -/
theorem resetMeetsEveryInvariant : Obligations.ResetMeetsEveryInvariant := by
  have settings : State.reset.settingsLegal := settingsLegal_of_loaded factoryImage_legal rfl rfl rfl rfl
  refine ⟨withinCapacity_reset, ?link, ?ring, ?chain, rfl, ?queue, ?slots, ?pins, ?time, ?waits, ?numbered, settings, nofun⟩
  case link => decide
  case ring => decide
  case chain => decide
  case queue => decide
  case slots => decide
  case pins => decide
  case time => decide
  case waits => decide
  case numbered => decide

/-! ## SNAPSHOT TAKE and SNAPSHOT READ -/

theorem isBlockEnd_iff (b : Nat) (n : Sample) : isBlockEnd b n = true ↔ n.toNat % 2 ^ b = 2 ^ b - 1 := by
  simp [isBlockEnd]

/-- The entry test in the statement's words. -/
theorem enterRun_eq (p : DetParams) (d : Detector) : d.enterRun p = entryTested p d := by
  have test : onMet p d = true ↔ p.on * max d.lta (max (256 * p.floor) 1) ≤ 16 * d.sta := decide_eq_true_iff
  simp only [Detector.enterRun, test, entryTested, Detector.clearOwed]

theorem capture_eq (n : Sample) (s : State) : capture n s = { s with chain :=
    if s.chain.expSt = .pending then { s.chain with
      expSt := .ready
      expBuf := ⟨currentHeader s, s.dc.map (·.getD 0), s.det.map fun d => ⟨d.sta, d.lta⟩, 7, n⟩ }
    else s.chain } := by
  unfold capture
  split
  next pending => rw [if_pos pending]
  next other => rw [if_neg other]

/-- In RUN, behind the detectors: the capture of a block end, then the end of blanking. -/
theorem afterDetectors_run {s : State} (run : s.chain.st = .run) (f : Conditioned) :
    afterDetectors f s = afterRunFrame f s := by
  simp only [afterDetectors, run]

/-- The chain after a RUN frame's capture test. -/
theorem afterRunFrame_eq (f : Conditioned) (s : State) :
    let due := f.n.toNat % 2 ^ s.active.blk = 2 ^ s.active.blk - 1 ∧ s.chain.expSt = .pending
    let chain : Chain := if due then { s.chain with
      expSt := .ready
      expBuf := ⟨currentHeader s, s.dc.map (·.getD 0), s.det.map fun d => ⟨d.sta, d.lta⟩, 7, f.n⟩ } else s.chain
    afterRunFrame f s = if s.chain.blankEnd = some f.n then endBlanking { s with chain := chain }
      else { s with chain := chain } := by
  intro due chain
  have captured : (if isBlockEnd s.active.blk f.n then capture f.n s else s) = { s with chain := chain } := by
    by_cases ends : isBlockEnd s.active.blk f.n = true
    · have ends' := (isBlockEnd_iff _ _).mp ends
      rw [if_pos ends, capture_eq]
      simp only [chain, due, ends', true_and]
    · have ends' := mt (isBlockEnd_iff _ _).mpr ends
      rw [if_neg ends, show chain = s.chain from if_neg (fun both => ends' both.1)]
  have kept : chain.blankEnd = s.chain.blankEnd := by
    simp only [chain]
    split <;> rfl
  simp only [afterRunFrame, captured, isAt, kept, beq_iff_eq]

theorem completionTest_snapshot (n : Sample) (s : State) :
    (completionTest n s).chain.expSt = s.chain.expSt ∧ (completionTest n s).chain.expBuf = s.chain.expBuf := by
  unfold completionTest
  split
  · dsimp only
    split
    · rw [completeWarmup, raise_chain]
      exact ⟨rfl, rfl⟩
    · exact ⟨rfl, rfl⟩
  · exact ⟨rfl, rfl⟩

/-- In WARMUP neither the counted block nor the pause end touches the snapshot being taken. -/
theorem afterWarmupFrame_snapshot (f : Conditioned) (s : State) :
    (afterWarmupFrame f s).chain.expSt = s.chain.expSt ∧ (afterWarmupFrame f s).chain.expBuf = s.chain.expBuf := by
  unfold afterWarmupFrame
  split
  · split <;> exact ⟨rfl, rfl⟩
  · split
    · exact completionTest_snapshot f.n (countBlock s)
    · exact ⟨rfl, rfl⟩

/-- Settles O9: TAKE's write, the capture behind the detectors, and READ's table. -/
theorem snapshotIsTakenAtABlockEndAndRead : Obligations.SnapshotIsTakenAtABlockEndAndRead := by
  refine ⟨fun s r taken => ?take, fun s f => ?capture, fun s r body taken len => ?read⟩
  case take => exact exec_replies_level taken rfl rfl (List.mem_singleton.mpr rfl) rfl
  case capture =>
    intro due taken chain unblank
    refine ⟨fun run notEnd => ?_, fun run atEnd => ?_, fun off => ?_, fun warm => ?_⟩
    · rw [afterDetectors_run run, afterRunFrame_eq, if_neg notEnd]
      rfl
    · rw [afterDetectors_run run, afterRunFrame_eq, if_pos atEnd]
      have tests (q : DetParams) (d : Detector) : Machine.unblank q d = unblank q d := by
        simp only [Machine.unblank, unblank, enterRun_eq]
      simp only [endBlanking, tests]
      rfl
    · rcases off with hold | resync
      · simp only [afterDetectors, hold]
      · simp only [afterDetectors, resync]
    · rw [show afterDetectors f s = afterWarmupFrame f s by simp only [afterDetectors, warm]]
      exact afterWarmupFrame_snapshot f s
  case read =>
    intro k
    have row {st : Status} {data : List Byte}
        (act : actSnapshotRead body (max r.level.toNat s.floor) (heard r.protect s) =
          (heard r.protect s, ⟨st, false, data⟩)) :
        exec (.snapshotRead r body) s = .next (replied s s r 0x15 st false data) :=
      exec_replies_level taken rfl rfl (List.mem_singleton.mpr len) act
    have inside (low : 1 ≤ k) (high : k ≤ 7) : ¬ (field body 0 1 = 0 ∨ 7 < field body 0 1) := by omega
    refine ⟨fun outside => row (if_pos outside), fun low high notReady => row ?_, fun low high ready' => row ?_⟩
    · refine (if_neg (inside low high)).trans ?_
      split
      next is => exact absurd is notReady
      next => rfl
    · refine (if_neg (inside low high)).trans ?_
      rw [show (heard r.protect s).chain.expSt = .ready from ready']
      rfl

/-! ## SNAPSHOT WRITE -/

/-- The link position that a code up to 2 names (11.3). -/
def placeOf (x : Nat) : LinkPos := if x = 0 then .a else if x = 1 then .b else .c

theorem posOf_eq (x : Nat) : posOf x = if x ≤ 2 then some (placeOf x) else none := by
  match x with
  | 0 | 1 | 2 => rfl
  | x + 3 => rfl

theorem placeOf_inj {x y : Nat} (hx : x ≤ 2) (hy : y ≤ 2) : placeOf x = placeOf y ↔ x = y := by
  interval_cases x <;> interval_cases y <;> decide

/-- A map's code is three positions (11.3). -/
theorem mapOf_eq (v : Nat) : mapOf v =
    if v % 4 ≤ 2 ∧ v / 4 % 4 ≤ 2 ∧ v / 16 ≤ 2 then some ⟨placeOf (v % 4), placeOf (v / 4 % 4), placeOf (v / 16)⟩
    else none := by
  by_cases codes : v % 4 ≤ 2 ∧ v / 4 % 4 ≤ 2 ∧ v / 16 ≤ 2
  · obtain ⟨z, n, e⟩ := codes
    simp only [mapOf, posOf_eq, z, n, e, if_true, and_self, if_pos (show v < 64 by omega)]
  · rw [if_neg codes, mapOf]
    split
    · split
      next z n e =>
        rw [posOf_eq] at z n e
        simp only [Option.ite_none_right_eq_some] at z n e
        exact absurd ⟨z.1, n.1, e.1⟩ codes
      next => rfl
    · rfl

/-- Record 1 passes as R40 says. -/
theorem importHeader_eq (r : List Byte) (sn : Snapshot) :
    let code := field r 2 1
    let pz := code % 4
    let pn := code / 4 % 4
    let pe := code / 16
    let within (i lo hi : Nat) : Prop := lo ≤ field r i 1 ∧ field r i 1 ≤ hi
    let passes := field r 0 2 ∈ [50, 100, 200, 250, 500] ∧ (pz ≤ 2 ∧ pn ≤ 2 ∧ pe ≤ 2) ∧
      (pz ≠ pn ∧ pz ≠ pe ∧ pn ≠ pe) ∧ within 3 4 16 ∧ within 4 0 8 ∧ within 5 2 8 ∧ within 6 1 8 ∧ within 7 1 8 ∧
      within 8 1 10 ∧ within 9 1 10
    importHeader r sn = if passes then
      some { sn with header := ⟨field r 0 2, ⟨placeOf pz, placeOf pn, placeOf pe⟩, field r 3 1, field r 4 1,
        field r 5 1, ⟨field r 6 1, field r 7 1⟩, ⟨field r 8 1, field r 9 1⟩⟩ }
      else none := by
  intro code pz pn pe within passes
  unfold importHeader
  rw [mapOf_eq]
  by_cases codes : pz ≤ 2 ∧ pn ≤ 2 ∧ pe ≤ 2
  · rw [if_pos codes]
    obtain ⟨z, n, e⟩ := codes
    have legal : (headerOf r ⟨placeOf pz, placeOf pn, placeOf pe⟩).legal = true ↔ passes := by
      simp only [Header.legal, headerOf, mapOneToOne, inRange_bounds, Item.lo, Item.hi, Bool.and_eq_true, bne_iff_ne, ne_eq,
        List.contains_iff_mem, rates, placeOf_inj z n, placeOf_inj z e, placeOf_inj n e, passes, within, z, n, e, and_self,
        true_and, and_assoc]
    exact if_congr legal rfl rfl
  · rw [if_neg codes, if_neg (fun all => codes all.2.1)]

theorem importMean_eq (m : Int) (put : Int → Trio Int) (sn : Snapshot) :
    importMean m put sn = if -8388608 ≤ m ∧ m ≤ 8388607 then some { sn with mean := put m } else none := by
  simp only [importMean, meanLegal, Bool.and_eq_true, decide_eq_true_eq]

theorem outcome_of_ite {α : Type} {p q : Prop} [Decidable q] {o : Option α} {x : α} (iff : p ↔ q)
    (is : o = if q then some x else none) : (p → o = some x) ∧ (¬ p → o = none) :=
  ⟨fun h => is.trans (if_pos (iff.mp h)), fun h => is.trans (if_neg (mt iff.mpr h))⟩

/-- Settles O10: the checks of the record number, then the record's own by its number. -/
theorem snapshotWriteTakesRecordsInOrder : Obligations.SnapshotWriteTakesRecordsInOrder := by
  intro s r body free len
  have row {t : State} {st : Status}
      (act : actSnapshotWrite body (max r.level.toNat s.floor) (heard r.protect s) = (heard r.protect t, ⟨st, false, []⟩)) :
      exec (.snapshotWrite r body) s = .next (answered s t r 0x16 st) :=
    exec_replies_level free rfl rfl (List.mem_singleton.mpr len) act
  have whole : slice body 1 16 = body.drop 1 := List.take_of_length_le (by simp [len])
  generalize number : field body 0 1 = k at *
  intro k' next held invalid rec1 code place pz pn pe mean sta lta within passes taken
  have outcome (low : 1 ≤ k) (high : k ≤ 7) :
      (passes → importRecord k rec1 held = some taken) ∧ (¬ passes → importRecord k rec1 held = none) := by
    have each : k = 1 ∨ k = 2 ∨ k = 3 ∨ k = 4 ∨ k = 5 ∨ k = 6 ∨ k = 7 := by omega
    rcases each with rfl | rfl | rfl | rfl | rfl | rfl | rfl
    · exact outcome_of_ite ⟨fun all => all.1 rfl, fun first => ⟨fun _ => first, by simp [k']⟩⟩ (importHeader_eq rec1 held)
    · exact outcome_of_ite (by simp [passes, k']) (importMean_eq mean (fun m => { held.mean with z := m }) held)
    · exact outcome_of_ite (by simp [passes, k']) (importMean_eq mean (fun m => { held.mean with n := m }) held)
    · exact outcome_of_ite (by simp [passes, k']) (importMean_eq mean (fun m => { held.mean with e := m }) held)
    · exact outcome_of_ite (q := sta ≤ avgBound .z held.header.cf ∧ lta ≤ avgBound .z held.header.cf)
        (by simp [passes, k', avgBound]) rfl
    · exact outcome_of_ite (q := sta ≤ avgBound .h held.header.cf ∧ lta ≤ avgBound .h held.header.cf)
        (by simp [passes, k', avgBound]) rfl
    · exact outcome_of_ite (by simp [passes, k']) rfl
  have opened (hold : s.chain.st = .hold) (low : 1 ≤ k) (high : k ≤ 7) (turn : k = 1 ∨ k = next) :
      actSnapshotWrite body (max r.level.toNat s.floor) (heard r.protect s) =
        match importRecord k rec1 held with
        | some sn => (heard r.protect { s with chain := { s.chain with impSt := importedTo k, impBuf := sn } }, done)
        | none => (heard r.protect { s with chain := { s.chain with impSt := .invalid, impBuf := held } }, refuse .range) := by
    have inside : ¬ (k = 0 ∨ 7 < k) := by omega
    have inTurn' : ¬ (k ≠ 1 ∧ k ≠ s.chain.impSt.next) := fun out => turn.elim out.1 out.2
    unfold actSnapshotWrite
    dsimp only
    rw [number, whole]
    refine (if_neg (not_not_intro hold)).trans ((if_neg inside).trans ((if_neg inTurn').trans ?_))
    rfl
  refine ⟨fun away => row (if_pos away), fun hold outside => row ?_, fun hold low high turn => row ?_,
    fun hold low high turn fails => row ?_, fun hold low high turn passed => row ?_⟩
  · unfold actSnapshotWrite
    dsimp only
    rw [number]
    exact (if_neg (not_not_intro hold)).trans (if_pos outside)
  · unfold actSnapshotWrite
    dsimp only
    rw [number]
    exact (if_neg (not_not_intro hold)).trans ((if_neg (by omega)).trans (if_pos ⟨by omega, turn⟩))
  · rw [opened hold low high turn, (outcome low high).2 fails]
    rfl
  · rw [opened hold low high turn, (outcome low high).1 passed]
    rfl

end Sys2Proof.Proofs
end

section
/-! PROOFS. The two local-clock timers (R6, R115): their own rows, and the expiries that a later tick finds due. -/

namespace Sys2Proof.Proofs

open Sys2Proof.Machine Sys2Proof.Laws

/-! ## One expiry -/

/-- A change of state, with the state written in either case (R120). -/
theorem moveTime_eq (st : TimeState) (s : State) : moveTime st s =
    if st = s.time.st then { s with time := { s.time with st := st } }
    else raise (.timeState st s.time.missed) { s with time := { s.time with st := st } } := by
  unfold moveTime
  by_cases same : s.time.st = st
  · rw [if_pos same, if_pos same.symm, ← same]
  · rw [if_neg same, if_neg (Ne.symm same)]

theorem moveTime_intake (st : TimeState) (s : State) : (moveTime st s).intake = s.intake := by
  rw [moveTime_eq]
  split
  · rfl
  · rw [raise_intake]

theorem moveTime_power (st : TimeState) (s : State) : (moveTime st s).power = s.power := by
  rw [moveTime_eq]
  split
  · rfl
  · obtain ⟨_, _, _, shape⟩ := raise_shape (.timeState st s.time.missed) { s with time := { s.time with st := st } }
    rw [shape]

/-- What a missed pulse writes (R115). -/
theorem missPulse_eq {s : State} {due : Nat} (timer : s.time.timer = some due) :
    let missed := if s.time.st = .locked then 1 else min (s.time.missed + 1) 65535
    let st : TimeState :=
      if s.time.st = .locked then .holdover
      else if s.time.st = .holdover ∧ 600 ≤ missed then .unlocked
      else s.time.st
    missPulse s = moveTime st { s with
      clock := max s.clock due
      time := { s.time with missed := missed, timer := some (due + 10000000) } } := by
  intro missed st
  have state : (match s.time.st with
      | .locked => TimeState.holdover
      | .holdover => if Config.unlockCount ≤ missed then .unlocked else .holdover
      | st => st) = st := by
    by_cases many : 600 ≤ missed <;> cases was : s.time.st <;> simp [st, was, many, Config.unlockCount]
  unfold missPulse
  rw [timer, ← state]
  rfl

theorem missPulse_intake (s : State) : (missPulse s).intake = s.intake := by
  unfold missPulse
  split
  · rfl
  · rw [moveTime_intake]

theorem missPulse_power (s : State) : (missPulse s).power = s.power := by
  unfold missPulse
  split
  · rfl
  · rw [moveTime_power]

theorem missPulse_silenceDue (s : State) : (missPulse s).silenceDue = s.silenceDue := by
  rw [State.silenceDue, missPulse_intake]
  rfl

theorem missPulse_timer {s : State} {due : Nat} (timer : s.time.timer = some due) :
    (missPulse s).time.timer = some (due + 10000000) := by
  rw [missPulse_eq timer, moveTime_time]

/-- The Chain Controller at a link loss touches slots, Unit, detectors and chain. -/
theorem chainLinkLoss_shape (s : State) :
    ∃ t u d c, chainLinkLoss s = { s with table := t, unit := u, det := d, chain := c } := by
  have left (f : Flags) : ∃ t u d c, leaveFor .resync f s = { s with table := t, unit := u, det := d, chain := c } := by
    obtain ⟨t, u, shape⟩ := closeAll_shape f s
    exact ⟨t, u, _, _, by rw [leaveFor, detectorsOff, dropEnds, shape]⟩
  unfold chainLinkLoss
  split
  · exact left _
  · exact left _
  · exact ⟨s.table, s.unit, s.det, s.chain, rfl⟩

theorem loseLink_shape (due : Nat) (s : State) :
    ∃ t u d c a r, loseLink due s = { s with
      clock := max s.clock due, intake := { s.intake with link := .down, expected := none, silence := none }
      table := t, unit := u, det := d, chain := c, assoc := a, reports := r } := by
  unfold loseLink
  dsimp only
  obtain ⟨t, u, d, c, shape⟩ := chainLinkLoss_shape (raise
    (.linkDown (State.lastSeq { s with
      clock := max s.clock due, intake := { s.intake with link := .down, expected := none, silence := none } }))
    { s with clock := max s.clock due, intake := { s.intake with link := .down, expected := none, silence := none } })
  obtain ⟨_, a, r, raised⟩ := raise_shape
    (.linkDown (State.lastSeq { s with
      clock := max s.clock due, intake := { s.intake with link := .down, expected := none, silence := none } }))
    { s with clock := max s.clock due, intake := { s.intake with link := .down, expected := none, silence := none } }
  rw [raised] at shape
  rw [raised, shape]
  exact ⟨t, u, d, c, a, r, rfl⟩

theorem loseLink_silenceDue (due : Nat) (s : State) : (loseLink due s).silenceDue = none := by
  obtain ⟨_, _, _, _, _, _, shape⟩ := loseLink_shape due s
  rw [shape]
  rfl

theorem loseLink_time (due : Nat) (s : State) : (loseLink due s).time = s.time := by
  obtain ⟨_, _, _, _, _, _, shape⟩ := loseLink_shape due s
  rw [shape]

theorem loseLink_power (due : Nat) (s : State) : (loseLink due s).power = s.power := by
  obtain ⟨_, _, _, _, _, _, shape⟩ := loseLink_shape due s
  rw [shape]

/-! ## The expiries due before a tick -/

theorem dueBefore_some {t d : Nat} (before' : d < t) : dueBefore t (some d) = some d := if_pos before'

theorem dueBefore_late {t d : Nat} (late : ¬ d < t) : dueBefore t (some d) = none := if_neg late

theorem dueBefore_none (t : Nat) : dueBefore t none = none := rfl

theorem dueBefore_eq_none {t : Nat} {o : Option Nat} (late : ∀ d, o = some d → t ≤ d) : dueBefore t o = none := by
  cases o with
  | none => rfl
  | some d => exact if_neg (Nat.not_lt.mpr (late d rfl))

/-- With no timer due nothing expires. -/
theorem runTimers_quiet {t : Nat} {s : State} (silence : ∀ d, s.silenceDue = some d → t ≤ d)
    (timer : ∀ d, s.time.timer = some d → t ≤ d) (n : Nat) : runTimers t n s = s := by
  cases n with
  | zero => rfl
  | succ n => simp only [runTimers, dueBefore_eq_none silence, dueBefore_eq_none timer]

/-- The silence timer alone is due, or due first. -/
theorem runTimers_loseLink {t a : Nat} {s : State} (silence : s.silenceDue = some a) (due : a < t)
    (first : ∀ b, s.time.timer = some b → a < b) (n : Nat) : runTimers t (n + 1) s = runTimers t n (loseLink a s) := by
  cases timer : s.time.timer with
  | none => simp only [runTimers, silence, timer, dueBefore_some due, dueBefore_none]
  | some b =>
    by_cases late : b < t
    · simp only [runTimers, silence, timer, dueBefore_some due, dueBefore_some late, if_pos (first b timer)]
    · simp only [runTimers, silence, timer, dueBefore_some due, dueBefore_late late]

/-- The missing-pulse timer alone is due, or due first. -/
theorem runTimers_missPulse {t b : Nat} {s : State} (timer : s.time.timer = some b) (due : b < t)
    (first : ∀ a, s.silenceDue = some a → b < a) (n : Nat) : runTimers t (n + 1) s = runTimers t n (missPulse s) := by
  cases silence : s.silenceDue with
  | none => simp only [runTimers, silence, timer, dueBefore_some due, dueBefore_none]
  | some a =>
    have notFirst : ¬ a < b := by have := first a silence; omega
    by_cases late : a < t
    · simp only [runTimers, silence, timer, dueBefore_some due, dueBefore_some late, if_neg notFirst,
        if_pos (first a silence)]
    · simp only [runTimers, silence, timer, dueBefore_some due, dueBefore_late late]

/-- Both are due at one tick: a free value says which expires first (log 3). -/
theorem runTimers_both {t a : Nat} {s : State} (silence : s.silenceDue = some a) (timer : s.time.timer = some a)
    (due : a < t) (n : Nat) : runTimers t (n + 1) s = runTimers t n
      (if Config.race s.choices % 2 = 0 then loseLink a { s with choices := s.choices + 1 }
        else missPulse { s with choices := s.choices + 1 }) := by
  simp only [runTimers, silence, timer, dueBefore_some due, lt_irrefl, if_false]
  rfl

/-- The expiries of the missing-pulse timer before tick t, one a second from its due tick on. -/
def pulsesLeft (t : Nat) : Option Nat → Nat
  | some b => (t - b + 9999999) / 10000000
  | none => 0

/-- How many expiries fall before tick t: those of the missing-pulse timer and the silence timer's one. -/
def expiriesLeft (t : Nat) (s : State) : Nat :=
  pulsesLeft t s.time.timer + (dueBefore t s.silenceDue).isSome.toNat

theorem expiriesLeft_loseLink {t a : Nat} {s : State} (silence : s.silenceDue = some a) (due : a < t) :
    expiriesLeft t (loseLink a s) < expiriesLeft t s := by
  simp only [expiriesLeft, loseLink_time, loseLink_silenceDue, silence, dueBefore_some due]
  exact Nat.lt_succ_self _

theorem expiriesLeft_missPulse {t b : Nat} {s : State} (timer : s.time.timer = some b) (due : b < t) :
    expiriesLeft t (missPulse s) < expiriesLeft t s := by
  simp only [expiriesLeft, missPulse_timer timer, missPulse_silenceDue, timer, pulsesLeft]
  omega

theorem expiriesLeft_le_fuel (t : Nat) (s : State) : expiriesLeft t s ≤ timerFuel t s := by
  have one := Bool.toNat_le (dueBefore t s.silenceDue).isSome
  unfold expiriesLeft timerFuel Config.secondTicks
  cases s.time.timer with
  | none => simp only [pulsesLeft]; omega
  | some b => simp only [pulsesLeft, Option.getD_some]; omega

/-- The next expiry before tick t, if any: what it leaves, with one expiry fewer to come. -/
theorem runTimers_next (t : Nat) (s : State) : (∀ n, runTimers t n s = s) ∨
    ∃ v, expiriesLeft t v < expiriesLeft t s ∧ ∀ n, runTimers t (n + 1) s = runTimers t n v := by
  by_cases silence : ∃ a, s.silenceDue = some a ∧ a < t
  · obtain ⟨a, silence, dueA⟩ := silence
    by_cases timer : ∃ b, s.time.timer = some b ∧ b ≤ a
    · obtain ⟨b, timer, le⟩ := timer
      rcases Nat.lt_or_eq_of_le le with lt | rfl
      · refine .inr ⟨_, expiriesLeft_missPulse timer (by omega), runTimers_missPulse timer (by omega) fun a' is => ?_⟩
        cases silence.symm.trans is
        exact lt
      · refine .inr ⟨_, ?_, runTimers_both silence timer dueA⟩
        have drawn : expiriesLeft t { s with choices := s.choices + 1 } = expiriesLeft t s := rfl
        rw [← drawn]
        split
        · exact expiriesLeft_loseLink silence dueA
        · exact expiriesLeft_missPulse timer dueA
    · refine .inr ⟨_, expiriesLeft_loseLink silence dueA, runTimers_loseLink silence dueA fun b is => ?_⟩
      exact Nat.lt_of_not_le fun le => timer ⟨b, is, le⟩
  · have quiet (a : Nat) (is : s.silenceDue = some a) : t ≤ a := Nat.le_of_not_lt fun lt => silence ⟨a, is, lt⟩
    by_cases timer : ∃ b, s.time.timer = some b ∧ b < t
    · obtain ⟨b, timer, dueB⟩ := timer
      exact .inr ⟨_, expiriesLeft_missPulse timer dueB,
        runTimers_missPulse timer dueB fun a is => Nat.lt_of_lt_of_le dueB (quiet a is)⟩
    · exact .inl (runTimers_quiet quiet fun b is => Nat.le_of_not_lt fun lt => timer ⟨b, is, lt⟩)

/-- Fuel beyond the expiries that are due does not matter. -/
theorem runTimers_fuel {t : Nat} (n : Nat) : ∀ {m : Nat} {s : State}, expiriesLeft t s ≤ n → expiriesLeft t s ≤ m →
    runTimers t n s = runTimers t m s := by
  induction n with
  | zero =>
    intro m s none' _
    rcases runTimers_next t s with quiet | ⟨v, fewer, -⟩
    · rw [quiet, quiet]
    · omega
  | succ n ih =>
    intro m s left left'
    rcases runTimers_next t s with quiet | ⟨v, fewer, next⟩
    · rw [quiet, quiet]
    · obtain ⟨m, rfl⟩ : ∃ k, m = k + 1 := ⟨m - 1, by omega⟩
      rw [next, next]
      exact ih (by omega) (by omega)

/-- The expiries before tick t, with the fuel that the model gives them. -/
def expired (t : Nat) (s : State) : State := runTimers t (timerFuel t s) s

theorem expired_of_next {t : Nat} {s v : State} (fewer : expiriesLeft t v < expiriesLeft t s)
    (next : ∀ n, runTimers t (n + 1) s = runTimers t n v) : expired t s = expired t v := by
  have left := expiriesLeft_le_fuel t s
  have enough : timerFuel t s = (timerFuel t s - 1) + 1 := by omega
  rw [expired, enough, next]
  exact runTimers_fuel _ (by omega) (expiriesLeft_le_fuel t v)

theorem expired_quiet {t : Nat} {s : State} (silence : ∀ d, s.silenceDue = some d → t ≤ d)
    (timer : ∀ d, s.time.timer = some d → t ≤ d) : expired t s = s := runTimers_quiet silence timer _

theorem expired_loseLink {t a : Nat} {s : State} (silence : s.silenceDue = some a) (due : a < t)
    (first : ∀ b, s.time.timer = some b → a < b) : expired t s = expired t (loseLink a s) :=
  expired_of_next (expiriesLeft_loseLink silence due) (runTimers_loseLink silence due first)

theorem expired_missPulse {t b : Nat} {s : State} (timer : s.time.timer = some b) (due : b < t)
    (first : ∀ a, s.silenceDue = some a → b < a) : expired t s = expired t (missPulse s) :=
  expired_of_next (expiriesLeft_missPulse timer due) (runTimers_missPulse timer due first)

theorem expired_both {t a : Nat} {s : State} (silence : s.silenceDue = some a) (timer : s.time.timer = some a)
    (due : a < t) : expired t s = expired t (loseLink a { s with choices := s.choices + 1 }) ∨
      expired t s = expired t (missPulse { s with choices := s.choices + 1 }) := by
  have both := runTimers_both silence timer due
  have drawn : expiriesLeft t { s with choices := s.choices + 1 } = expiriesLeft t s := rfl
  by_cases even : Config.race s.choices % 2 = 0
  · simp only [if_pos even] at both
    refine .inl (expired_of_next ?_ both)
    rw [← drawn]
    exact expiriesLeft_loseLink silence due
  · simp only [if_neg even] at both
    refine .inr (expired_of_next ?_ both)
    rw [← drawn]
    exact expiriesLeft_missPulse timer due

/-! ## The timers' own rows -/

theorem linkLoss_due {s : State} {a : Nat} (on : s.power = true) (silence : s.silenceDue = some a) :
    exec .linkLoss s = .next (loseLink a (expired a s)) := by
  change execLinkLoss s = _
  rw [execLinkLoss, on, silence]
  rfl

theorem missingPulse_due {s : State} {b : Nat} (on : s.power = true) (timer : s.time.timer = some b) :
    exec .missingPulse s = .next (missPulse (expired b s)) := by
  change execMissingPulse s = _
  rw [execMissingPulse, on, timer]
  rfl

/-- The silence timer's row where no missing pulse is due before it. -/
theorem linkLoss_first {s : State} {a : Nat} (on : s.power = true) (silence : s.silenceDue = some a)
    (first : ∀ b, s.time.timer = some b → a ≤ b) : exec .linkLoss s = .next (loseLink a s) := by
  rw [linkLoss_due on silence, expired_quiet (fun d is => ?_) first]
  cases silence.symm.trans is
  exact le_rfl

/-- The missing-pulse timer's row where no silence is due before it. -/
theorem missingPulse_first {s : State} {b : Nat} (on : s.power = true) (timer : s.time.timer = some b)
    (first : ∀ a, s.silenceDue = some a → b ≤ a) : exec .missingPulse s = .next (missPulse s) := by
  rw [missingPulse_due on timer, expired_quiet first (fun d is => ?_)]
  cases timer.symm.trans is
  exact le_rfl

/-- A command that finds the clock advanced to its tick finds the timers' rows taken. -/
theorem timersFirst_of_advances {c : Instr} {t : Nat} {s : State} {f : State → State} (on : s.power = true)
    (does : ∀ s : State, s.power = true → exec c s = .next (f (expired t s))) : timersFirst c t s := by
  unfold timersFirst
  intro drawn
  refine ⟨fun b timer due first => ⟨missPulse s, ?_, ?_⟩, fun a silence due first => ⟨loseLink a s, ?_, ?_⟩,
    fun a silence timer due => ?_⟩
  · exact missingPulse_first on timer fun a is => (first a is).le
  · rw [does s on, does _ ((missPulse_power s).trans on), expired_missPulse timer due first]
  · exact linkLoss_first on silence fun b is => (first b is).le
  · rw [does s on, does _ ((loseLink_power a s).trans on), expired_loseLink silence due first]
  · rcases expired_both silence timer due with link | pulse
    · refine .inr ⟨loseLink a drawn, linkLoss_first (s := drawn) on silence fun b is => ?_, ?_⟩
      · exact (Option.some.inj (timer.symm.trans is)).le
      · rw [does s on, does _ ((loseLink_power a drawn).trans on), link]
    · refine .inl ⟨missPulse drawn, missingPulse_first (s := drawn) on timer fun b is => ?_, ?_⟩
      · exact (Option.some.inj (silence.symm.trans is)).le
      · rw [does s on, does _ ((missPulse_power drawn).trans on), pulse]

end Sys2Proof.Proofs
end

section
/-! PROOFS. The events of the Time Base and the loss of the link (chapters 7 and 1.1). -/

namespace Sys2Proof.Proofs

open Sys2Proof.Machine Sys2Proof.Laws

/-! ## Closings at one cause -/

/-- The order of closing depends on the trigger samples of the closing slots alone. -/
theorem byTrigger_congr_on {s t : State} {is : List (Fin 8)} (same : ∀ i ∈ is, (t.slot i).trigger = (s.slot i).trigger) :
    byTrigger t is = byTrigger s is := by
  have ins {i : Fin 8} {l : List (Fin 8)} (i' : (t.slot i).trigger = (s.slot i).trigger)
      (l' : ∀ j ∈ l, (t.slot j).trigger = (s.slot j).trigger) : insertByTrigger t i l = insertByTrigger s i l := by
    induction l with
    | nil => simp only [insertByTrigger]
    | cons j rest ih =>
      simp only [insertByTrigger, i', l' j List.mem_cons_self, ih fun k mem => l' k (List.mem_cons_of_mem j mem)]
  have cons (s : State) (i : Fin 8) (rest : List (Fin 8)) :
      byTrigger s (i :: rest) = insertByTrigger s i (byTrigger s rest) := by
    simp only [byTrigger, List.foldr_cons]
  induction is with
  | nil => simp only [byTrigger, List.foldr_nil]
  | cons i rest ih =>
    have rest' (j : Fin 8) (mem : j ∈ rest) := same j (List.mem_cons_of_mem i mem)
    rw [cons, cons, ih rest']
    exact ins (same i List.mem_cons_self) fun j mem => rest' j ((byTrigger_perm s rest).mem_iff.mp mem)

/-- A closing depends on the close samples and flags of the closing slots alone. -/
theorem closes_congr {s t : State} {order : List (Fin 8)} {close close' : Fin 8 → Sample} {f f' : Fin 8 → Flags}
    (h : closes s t order close f) (sameClose : ∀ i ∈ order, close i = close' i) (sameFlags : ∀ i ∈ order, f i = f' i) :
    closes s t order close' f' := by
  obtain ⟨eq, others, closed, recent, taken⟩ := h
  exact ⟨eq, others, fun i mem => sameClose i mem ▸ sameFlags i mem ▸ closed i mem, recent, taken⟩

/-- Where the OPEN slots are the same ones, so are they in the order of closing. -/
theorem opened_of_same {s t : State} (isOpen : ∀ i, (t.slot i).st = .opened ↔ (s.slot i).st = .opened)
    (same : ∀ i, (s.slot i).st = .opened → t.slot i = s.slot i) :
    byTrigger t (t.slotsIn .opened) = byTrigger s (s.slotsIn .opened) := by
  have listed : t.slotsIn .opened = s.slotsIn .opened := by
    refine List.filter_congr fun i _ => ?_
    rw [Bool.eq_iff_iff, beq_iff_eq, beq_iff_eq]
    exact isOpen i
  rw [listed]
  exact byTrigger_congr_on fun i mem => by rw [same i ((mem_slotsIn s .opened i).mp mem)]

/-- Every OPEN slot closes, read at a state that admissions lead from (R69, R127). -/
theorem closeAll_admitted {s t : State} (was : admitted s t) (f : Flags) (idle : s.unit = none → s.table.queue = []) :
    closes t (closeAll f t) (byTrigger s (s.slotsIn .opened)) (fun i => s.newest.getD (s.slot i).close) (fun _ => f) := by
  obtain ⟨eq, slots⟩ := was
  have same (i : Fin 8) (isOpen : (s.slot i).st = .opened) : t.slot i = s.slot i :=
    (slots i).resolve_right fun freed => by rw [isOpen] at freed; cases freed.1
  have iff (i : Fin 8) : (t.slot i).st = .opened ↔ (s.slot i).st = .opened := by
    refine ⟨fun now => ?_, fun was => (congrArg Slot.st (same i was)).trans was⟩
    rcases slots i with eq | ⟨-, freed⟩
    · exact eq ▸ now
    · rw [freed] at now
      cases now
  have newest : t.newest = s.newest := by rw [eq]
  have idle' : t.unit = none → t.table.queue = [] := by
    rw [eq]
    exact idle
  rw [← opened_of_same iff same, ← newest]
  refine closes_congr (closeAll_closes t f idle') (fun i mem => ?_) fun _ _ => rfl
  have isOpen := (iff i).mp ((mem_slotsIn t .opened i).mp ((byTrigger_perm t _).mem_iff.mp mem))
  rw [same i isOpen]

/-! ## LINK_LOSS (1.1, 3.2) -/

theorem silenceDue_up {s : State} {t0 : Nat} (up : s.intake.link = .up) (silence : s.intake.silence = some t0) :
    s.silenceDue = some (t0 + 2500000) := by
  simp only [State.silenceDue, up, silence, Config.silenceTicks]

theorem silenceDue_down {s : State} (down : s.intake.link = .down) : s.silenceDue = none := by
  simp only [State.silenceDue, down]

/-- Leaving for RESYNC, in the statement's words. -/
theorem leaveFor_resync (f : Flags) (s : State) : leaveFor .resync f s = { closeAll f s with
    det := ⟨offDetector s.det.z, offDetector s.det.h⟩
    chain := { s.chain with st := .resync, blankEnd := none, pauseEnd := none } } := by
  obtain ⟨t, u, shape⟩ := closeAll_shape f s
  rw [leaveFor, detectorsOff, dropEnds, shape]
  rfl

/-- Settles O31: the silence timer's expiry at its due tick, behind a missing pulse due before it. -/
theorem linkLossResynchronises : Obligations.LinkLossResynchronises := by
  intro s on
  refine ⟨fun down => ?untimely, fun t0 up silence => ⟨fun due timer early => ?pulseFirst, fun first => ?expires⟩⟩
  case untimely =>
    change execLinkLoss s = _
    rw [execLinkLoss, on, silenceDue_down down]
  case pulseFirst =>
    have silence' := silenceDue_up up silence
    have first (a : Nat) (is : s.silenceDue = some a) : due < a := (Option.some.inj (silence'.symm.trans is)) ▸ early
    refine ⟨missPulse s, missingPulse_first on timer fun a is => (first a is).le, ?_⟩
    rw [linkLoss_due on silence', expired_missPulse timer early first,
      linkLoss_due ((missPulse_power s).trans on) ((missPulse_silenceDue s).trans silence')]
  case expires =>
    intro down
    have lost : exec .linkLoss s = .next (chainLinkLoss down) := linkLoss_first on (silenceDue_up up silence) first
    have was : admitted { s with
        clock := max s.clock (t0 + 2500000)
        intake := { s.intake with link := .down, expected := none, silence := none } } down := raise_admitted _ _
    have chain : down.chain = s.chain := raise_chain _ _
    have det : down.det = s.det := raise_det _ _
    refine ⟨fun away => ?_, fun inRecord queue => ⟨closeAll { gap := true, truncated := true } down, ?_, ?_⟩⟩
    · rw [lost]
      rcases away with hold | resync
      · simp only [chainLinkLoss, chain, hold]
      · simp only [chainLinkLoss, chain, resync]
    · have closed := closeAll_admitted was { gap := true, truncated := true } queue.2.2.2
      rw [byTrigger_congr (s := s) (t := { s with
        clock := max s.clock (t0 + 2500000)
        intake := { s.intake with link := .down, expected := none, silence := none } }) fun _ => rfl] at closed
      exact closed
    · rw [lost, ← chain, ← det, ← leaveFor_resync]
      rcases inRecord with warm | run
      · simp only [chainLinkLoss, chain, warm]
      · simp only [chainLinkLoss, chain, run]

/-! ## MISSING_PULSE and PULSE_EDGE (7.2, 7.5) -/

/-- Settles O37: the missing-pulse timer's expiry at its due tick, behind a silence due before it. -/
theorem missingPulseCountsAndUnlocks : Obligations.MissingPulseCountsAndUnlocks := by
  intro s on
  refine ⟨fun stopped => ?untimely, fun due timer => ⟨fun t0 up silence early => ?silenceFirst, fun first => ?expires⟩⟩
  case untimely =>
    change execMissingPulse s = _
    rw [execMissingPulse, on, stopped]
  case silenceFirst =>
    have silence' := silenceDue_up up silence
    have first (b : Nat) (is : s.time.timer = some b) : t0 + 2500000 < b := (Option.some.inj (timer.symm.trans is)) ▸ early
    refine ⟨loseLink (t0 + 2500000) s, linkLoss_first on silence' fun b is => (first b is).le, ?_⟩
    have timer' : (loseLink (t0 + 2500000) s).time.timer = some due := (congrArg TimeBase.timer (loseLink_time _ s)).trans timer
    rw [missingPulse_due on timer, expired_loseLink silence' early first,
      missingPulse_due ((loseLink_power _ s).trans on) timer']
  case expires =>
    intro missed st moved
    have first' (a : Nat) (is : s.silenceDue = some a) : due ≤ a := by
      cases up : s.intake.link with
      | down => rw [silenceDue_down up] at is; cases is
      | up =>
        cases silence : s.intake.silence with
        | none => simp only [State.silenceDue, up, silence] at is; cases is
        | some t0 =>
          rw [silenceDue_up up silence] at is
          exact Option.some.inj is ▸ first t0 up silence
    have missing : exec .missingPulse s = .next (moveTime st { s with
        clock := max s.clock due, time := { s.time with missed := missed, timer := some (due + 10000000) } }) :=
      (missingPulse_first on timer first').trans (congrArg _ (missPulse_eq timer))
    rw [missing, moveTime_eq]
    exact ⟨fun same => congrArg _ (if_pos same), fun other => congrArg _ (if_neg other)⟩

theorem pulseEdge_exec {s : State} (tick : Nat) (on : s.power = true) : exec (.pulseEdge tick) s =
    .next (pulseEdge (max (expired tick s).clock tick) { expired tick s with clock := max (expired tick s).clock tick }) := by
  change execPulseEdge tick s = _
  rw [execPulseEdge, if_pos on]
  rfl

/-- With no timer due an edge finds the clock at its tick. -/
theorem pulseEdge_quiet {s : State} {tick : Nat} (on : s.power = true) (quiet : s.quietUntil tick) :
    exec (.pulseEdge tick) s = .next (pulseEdge tick { s with clock := tick }) := by
  obtain ⟨clock, silence, timer⟩ := quiet
  have still : expired tick s = s := expired_quiet (fun d is => by simpa [is] using silence) (fun d is => by simpa [is] using timer)
  rw [pulseEdge_exec tick on, still, Nat.max_eq_right clock]

/-- The label of an edge by what is known before it (R117). -/
theorem labelAt_eq {t : TimeBase} {tick : Nat} {label : Option Nat}
    (given : ∀ l, t.pendLabel = some l → label = some l)
    (inferred : ∀ l e, t.pendLabel = none → t.lastLabel = some l → t.lastEdge = some e →
      label = some ((l + (2 * (tick - e) + 10000000) / 20000000) % 2 ^ 40))
    (none' : t.pendLabel = none → t.lastLabel = none ∨ t.lastEdge = none → label = none) : t.labelAt tick = label := by
  unfold TimeBase.labelAt
  cases pend : t.pendLabel with
  | some l => exact (given l pend).symm
  | none =>
    cases last : t.lastLabel with
    | none => exact (none' pend (.inl last)).symm
    | some l =>
      cases edge : t.lastEdge with
      | none => exact (none' pend (.inr edge)).symm
      | some e => exact (inferred l e pend last edge).symm

/-- The capture of an edge by what the sample link has taken (R119). -/
theorem captureAt_eq {s : State} {tick : Nat} {label : Option Nat} {cap : Option Capture}
    (referred : ∀ f a, s.intake.link = .up → s.time.lastFrame = some (f, a) →
      let p := 10 * (1000000 / s.settings.station.rate)
      cap = some ⟨f + BitVec.ofNat 32 ((tick - a) / p), (tick - a) % p, label⟩)
    (away : s.intake.link = .down ∨ s.time.lastFrame = none → cap = none) : captureAt s tick label = cap := by
  unfold captureAt
  cases link : s.intake.link with
  | down => exact (away (.inl link)).symm
  | up =>
    cases frame : s.time.lastFrame with
    | none => exact (away (.inr frame)).symm
    | some x => exact (referred x.1 x.2 link frame).symm

theorem stepsAt_iff (t : TimeBase) : t.stepsAt = true ↔
    t.st = .locked ∧ ∃ g l, t.pendLabel = some g ∧ t.lastLabel = some l ∧ g ≠ (l + 1) % 2 ^ 40 := by
  unfold TimeBase.stepsAt
  cases t.st <;> cases t.pendLabel <;> cases t.lastLabel <;> simp [Config.labelMod]

theorem stateAfterEdge_eq (t : TimeBase) (labelled captured : Bool) : t.stateAfterEdge labelled captured =
    if labelled = true ∧ (t.st ≠ .neverSet ∨ captured = true) then .locked else t.st := by
  unfold TimeBase.stateAfterEdge
  cases was : t.st <;> cases labelled <;> cases captured <;> simp

theorem orElse_eq_ite {α : Type} (o p : Option α) : (o.orElse fun _ => p) = if o.isSome then o else p := by
  cases o <;> rfl

/-- Settles O36: an edge behind the timers due before it, spurious or accepted. -/
theorem pulseEdgeSetsTheTimeBase : Obligations.PulseEdgeSetsTheTimeBase := by
  refine ⟨fun s tick on => timersFirst_of_advances
    (f := fun s => pulseEdge (max s.clock tick) { s with clock := max s.clock tick }) on fun s on => pulseEdge_exec tick on, fun s tick on quiet => ?_⟩
  rw [pulseEdge_quiet on quiet]
  refine ⟨fun e edge near => ?spurious, fun label cap mark far given inferred none' referred away step => ?accepted⟩
  case spurious =>
    have is : s.time.spurious tick = true := by simp [TimeBase.spurious, edge, Config.spuriousTicks, near]
    exact congrArg _ (if_pos is)
  case accepted =>
    intro st moved
    have notSpurious : s.time.spurious tick = false := by
      cases edge : s.time.lastEdge with
      | none => simp [TimeBase.spurious, edge]
      | some e =>
        simp only [TimeBase.spurious, edge]
        exact decide_eq_false (Nat.not_lt.mpr (far e edge))
    have label' : s.time.labelAt tick = label := labelAt_eq given inferred none'
    have cap' : captureAt { s with clock := tick } tick label = cap := captureAt_eq referred away
    have mark' : (s.time.step || s.time.stepsAt) = mark := by
      rw [Bool.eq_iff_iff, Bool.or_eq_true, stepsAt_iff, step]
    have st' : s.time.stateAfterEdge label.isSome cap.isSome = st := stateAfterEdge_eq _ _ _
    have edge : pulseEdge tick { s with clock := tick } = moveTime st { moved with time := { moved.time with st := s.time.st } } := by
      refine (if_neg (Bool.eq_false_iff.mp notSpurious)).trans ?_
      simp only [acceptEdge, label', cap', st', mark', orElse_eq_ite]
      rfl
    rw [edge, moveTime_eq]
    exact ⟨fun same => congrArg _ (if_pos same), fun other => congrArg _ (if_neg other)⟩

end Sys2Proof.Proofs
end

section
/-! PROOFS. The Chain Controller's acts behind the detectors (2.5, 3.4), and the expiry of association entries (6.4). -/

namespace Sys2Proof.Proofs

open Sys2Proof.Machine Sys2Proof.Laws

/-! ## The events of the chain -/

theorem warmupCompletion_due {s : State} {n : Sample} (on : s.power = true) (newest : s.newest = some n)
    (warm : s.chain.st = .warmup) : exec .warmupCompletion s = .next (completionTest n s) := by
  change execWarmupCompletion s = _
  rw [execWarmupCompletion, on, newest, warm]

theorem warmupCompletion_away {s : State} (away : s.chain.st ≠ .warmup) : exec .warmupCompletion s = .next s := by
  change execWarmupCompletion s = _
  unfold execWarmupCompletion
  split
  next warm _ => exact absurd warm away
  next => rfl

theorem completionTest_due {s : State} (n : Sample) (due : s.due.completion = true) :
    let tested := { s with due := { s.due with completion := false } }
    completionTest n s = if s.active.warm ≤ s.chain.k then
      raise (.warmupDone n) { tested with
        det := ⟨entryTested s.active.det.z s.det.z, entryTested s.active.det.h s.det.h⟩
        chain := { s.chain with st := .run } }
      else tested := by
  intro tested
  rw [completionTest, if_pos due, ← enterRun_eq, ← enterRun_eq]
  rfl

theorem blankingEnd_run {s : State} {n : Sample} (on : s.power = true) (newest : s.newest = some n)
    (run : s.chain.st = .run) :
    exec .blankingEnd s = .next (if s.chain.blankEnd = some n then endBlanking s else s) := by
  change execBlankingEnd s = _
  rw [execBlankingEnd, on, newest, run]
  simp only [isAt, beq_iff_eq]

theorem blankingEnd_away {s : State} (away : s.chain.st ≠ .run) : exec .blankingEnd s = .next s := by
  change execBlankingEnd s = _
  unfold execBlankingEnd
  split
  next run _ => exact absurd run away
  next => rfl

theorem warmupPauseEnd_warm {s : State} {n : Sample} (on : s.power = true) (newest : s.newest = some n)
    (warm : s.chain.st = .warmup) :
    exec .warmupPauseEnd s = .next (if s.chain.pauseEnd = some n then endPause s else s) := by
  change execWarmupPauseEnd s = _
  rw [execWarmupPauseEnd, on, newest, warm]
  simp only [isAt, beq_iff_eq]

theorem warmupPauseEnd_away {s : State} (away : s.chain.st ≠ .warmup) : exec .warmupPauseEnd s = .next s := by
  change execWarmupPauseEnd s = _
  unfold execWarmupPauseEnd
  split
  next warm _ => exact absurd warm away
  next => rfl

theorem endBlanking_eq (s : State) :
    let unblank (q : DetParams) (d : Detector) : Detector := if d.st = .blanked then entryTested q d else d
    endBlanking s = { s with
      det := ⟨unblank s.active.det.z s.det.z, unblank s.active.det.h s.det.h⟩
      chain := { s.chain with blankEnd := none } } := by
  intro unblank
  have tests (q : DetParams) (d : Detector) : Machine.unblank q d = unblank q d := by
    simp only [Machine.unblank, unblank, enterRun_eq]
  simp only [endBlanking, tests]

/-- Behind the detectors, in WARMUP. -/
theorem receive_after_warm {s : State} (warm : s.chain.st = .warmup) (f : Conditioned) :
    receive f s .after = afterWarmupFrame f s := by
  simp only [receive, afterDetectors, warm]

theorem afterWarmupFrame_counts {s : State} (noPause : s.chain.pauseEnd = none) (f : Conditioned) :
    afterWarmupFrame f s = if f.n.toNat % 2 ^ s.active.blk = 2 ^ s.active.blk - 1 then warmupBlock f.n s else s := by
  simp only [afterWarmupFrame, noPause, isBlockEnd_iff]

theorem afterWarmupFrame_paused {s : State} (paused : s.chain.pauseEnd.isSome) (f : Conditioned) :
    afterWarmupFrame f s = if s.chain.pauseEnd = some f.n then endPause s else s := by
  obtain ⟨e, pause⟩ := Option.isSome_iff_exists.mp paused
  simp only [afterWarmupFrame, pause, Option.some.injEq]

/-- Behind the detectors, in RUN: what the capture leaves, then the row of the blanking end. -/
theorem receive_after_run {s : State} {f : Conditioned} (on : s.power = true) (newest : s.newest = some f.n)
    (run : s.chain.st = .run) : ∃ v,
    v = { s with chain := { s.chain with expSt := v.chain.expSt, expBuf := v.chain.expBuf } } ∧
    (f.n.toNat % 2 ^ s.active.blk ≠ 2 ^ s.active.blk - 1 ∨ s.chain.expSt ≠ .pending → v = s) ∧
    (f.n.toNat % 2 ^ s.active.blk = 2 ^ s.active.blk - 1 → s.chain.expSt = .pending → v.chain.expSt = .ready) ∧
    .next (receive f s .after) = exec .blankingEnd v := by
  have after' : receive f s .after = afterRunFrame f s := afterDetectors_run run f
  have row (v : State) (on : v.power = true) (newest : v.newest = some f.n) (run : v.chain.st = .run) :=
    blankingEnd_run on newest run
  rw [after', afterRunFrame_eq]
  by_cases due : f.n.toNat % 2 ^ s.active.blk = 2 ^ s.active.blk - 1 ∧ s.chain.expSt = .pending
  · simp only [if_pos due]
    refine ⟨{ s with chain := { s.chain with
      expSt := .ready, expBuf := ⟨currentHeader s, s.dc.map (·.getD 0), s.det.map fun d => ⟨d.sta, d.lta⟩, 7, f.n⟩ } },
      rfl, fun other => absurd due (not_and_or.mpr other), fun _ _ => rfl, ?_⟩
    exact Eq.symm (row _ (by exact on) (by exact newest) (by exact run))
  · simp only [if_neg due]
    exact ⟨s, rfl, fun _ => rfl, fun ends pending => absurd ⟨ends, pending⟩ due, (blankingEnd_run on newest run).symm⟩

/-- Settles O32: each row's own test, and the frame's way to it. -/
theorem chainEventsActAtTheirSample : Obligations.ChainEventsActAtTheirSample := by
  intro s n on newest p unblank tested
  refine ⟨fun warm due enough => ?_, fun warm due few => ?_, fun untimely => ?_, fun f at' warm noPause => ⟨?_, ?_⟩,
    fun f at' => ⟨fun warm paused => ?_, fun run => ?_, fun off => ?_⟩, fun run atEnd => ?_, fun untimely => ?_,
    fun warm atEnd => ?_, fun untimely => ?_⟩
  · rw [warmupCompletion_due on newest warm, completionTest_due n due]
    exact congrArg _ (if_pos enough)
  · rw [warmupCompletion_due on newest warm, completionTest_due n due]
    exact congrArg _ (if_neg (Nat.not_le.mpr few))
  · by_cases warm : s.chain.st = .warmup
    · rw [warmupCompletion_due on newest warm, completionTest_made (untimely.resolve_left (not_not_intro warm))]
    · exact warmupCompletion_away warm
  · intro notEnd
    rw [receive_after_warm warm, afterWarmupFrame_counts noPause, at']
    exact if_neg notEnd
  · intro ends
    subst at'
    rw [receive_after_warm warm, afterWarmupFrame_counts noPause, if_pos ends]
    exact (warmupCompletion_due (s := countBlock s) on newest warm).symm
  · subst at'
    rw [receive_after_warm warm, afterWarmupFrame_paused paused, warmupPauseEnd_warm on newest warm]
  · subst at'
    exact receive_after_run on newest run
  · rcases off with hold | resync
    · simp only [receive, afterDetectors, hold]
    · simp only [receive, afterDetectors, resync]
  · rw [blankingEnd_run on newest run, if_pos atEnd, endBlanking_eq]
  · by_cases run : s.chain.st = .run
    · rw [blankingEnd_run on newest run, if_neg (untimely.resolve_left (not_not_intro run))]
    · exact blankingEnd_away run
  · rw [warmupPauseEnd_warm on newest warm, if_pos atEnd]
    rfl
  · by_cases warm : s.chain.st = .warmup
    · rw [warmupPauseEnd_warm on newest warm, if_neg (untimely.resolve_left (not_not_intro warm))]
    · exact warmupPauseEnd_away warm

/-! ## ENTRY_EXPIRY (6.4) -/

theorem holdsLimit_iff (s : State) (x : Sample) :
    s.holdsLimit x = true ↔ ∃ j : Fin 8, (s.slot j).st ≠ .free ∧ distance x (s.slot j).trigger ≤ 0 := by
  simp only [State.holdsLimit, eight_eq_finRange, List.any_eq_true, List.mem_finRange, true_and, Bool.and_eq_true,
    bne_iff_ne, ne_eq, decide_eq_true_eq]

theorem expires_iff (s : State) (n : Sample) (e : Entry) : s.expires n e = true ↔ e.opened = true ∧
    0 < distance e.limit n ∧ ¬ ∃ j : Fin 8, (s.slot j).st ≠ .free ∧ distance e.limit (s.slot j).trigger ≤ 0 := by
  rw [← holdsLimit_iff]
  simp only [State.expires, Bool.and_eq_true, decide_eq_true_eq, Bool.not_eq_true', Bool.not_eq_true, and_assoc]

/-- The expiry test of a frame, made once (R109). -/
theorem entryTests_due_entry {s : State} (n : Sample) (due : s.due.entries = true) (i : Fin 8) :
    (entryTests n s).assoc.entries[i] = if s.expires n s.assoc.entries[i] then freeEntry else s.assoc.entries[i] := by
  rw [entryTests, if_pos due]
  exact mapEight_getElem _ _ i

theorem entryTests_due_eq {s : State} (n : Sample) (due : s.due.entries = true) :
    entryTests n s = { s with
      assoc := { s.assoc with entries := (entryTests n s).assoc.entries }, due := { s.due with entries := false } } := by
  rw [entryTests, if_pos due]
  rfl

/-- The Association Table's frame, entry by entry: the limit's test and R110's. -/
theorem receive_assoc_entry {s : State} (f : Conditioned) (due : s.due.entries = true) (i : Fin 8) :
    (receive f s .assoc).assoc.entries[i] =
      if s.expires f.n s.assoc.entries[i] ∨
        (s.assoc.entries[i].opened = true ∧ 0 < distance f.n s.assoc.entries[i].pOnset) then freeEntry
      else s.assoc.entries[i] := by
  have renumbered : (receive f s .assoc).assoc.entries[i] =
      if (entryTests f.n s).assoc.entries[i].opened && decide (0 < distance f.n (entryTests f.n s).assoc.entries[i].pOnset)
      then freeEntry else (entryTests f.n s).assoc.entries[i] := mapEight_getElem _ _ i
  rw [renumbered, entryTests_due_entry f.n due]
  by_cases gone : s.expires f.n s.assoc.entries[i] = true
  · rw [if_pos gone, ite_self]
    exact (if_pos (.inl gone)).symm
  · rw [if_neg gone]
    simp only [gone, Bool.false_eq_true, false_or, Bool.and_eq_true, decide_eq_true_eq]

/-- Who does not make the entries' test leaves it due. -/
theorem receive_due_entries {f : Conditioned} {s : State} {r : Recipient} (other : r ≠ .assoc) :
    (receive f s r).due.entries = s.due.entries := by
  cases r with
  | assoc => exact absurd rfl other
  | detector w => rw [receive, detectorFrame_due]
  | recentre => rw [receive, readRecentre_due]
  | after => exact (afterDetectors_due f s).2
  | stack => exact (trialTests_due f.n s).1

/-- Settles O34: the test of each entry, and its mark. -/
theorem entryExpiryFreesPassedEntries : Obligations.EntryExpiryFreesPassedEntries := by
  intro s n on limit held passed newer
  have expires (e : Entry) : s.expires n e = true ↔ e.opened = true ∧ passed e := expires_iff s n e
  refine ⟨fun made => ?_, fun newest due => ⟨entryTests n s, ?_, entryTests_due_eq n due, fun i => ?_⟩,
    fun f r other => receive_due_entries other, fun f at' due => ?_⟩
  · change execEntryExpiry s = _
    unfold execEntryExpiry
    split
    · rw [entryTests_made made]
    · rfl
  · change execEntryExpiry s = _
    rw [execEntryExpiry, on, newest]
  · intro e
    rw [entryTests_due_entry n due]
    exact ⟨fun gone => if_pos ((expires e).mpr gone), fun stays => if_neg (mt (expires e).mp stays)⟩
  · subst at'
    intro t
    refine ⟨?_, fun i => ?_⟩
    · change freeRenumbered f.n (entryTests f.n s) = _
      rw [show t = freeRenumbered f.n (entryTests f.n s) from rfl, entryTests_due_eq f.n due]
      rfl
    · intro e
      have gone : (s.expires f.n e ∨ (e.opened = true ∧ 0 < distance f.n e.pOnset)) ↔
          e.opened = true ∧ (passed e ∨ newer e) := by
        rw [expires e, ← and_or_left]
      rw [show t.assoc.entries[i] = _ from receive_assoc_entry f due i]
      exact ⟨fun h => if_pos (gone.mpr h), fun h => if_neg (mt gone.mp h)⟩

end Sys2Proof.Proofs
end

section
/-! PROOFS. What a raised notice reads (8.2, 8.3), and the expiry of trials (10.5). -/

namespace Sys2Proof.Proofs

open Sys2Proof.Machine Sys2Proof.Laws

/-! ## The arbiter reads slots, association entries, reports and the newest sample alone -/

/-- State o with what the arbiter and the Notice Set read of state s. -/
abbrev reading (o s : State) : State :=
  { o with table := s.table, assoc := s.assoc, reports := s.reports, newest := s.newest }

theorem associate_reading (o s : State) (p : PickRecord) (seq : BitVec 32) (smin smax : Nat) :
    associate p seq smin smax (reading o s) = reading o (associate p seq smin smax s) := by
  have completes_eq (q : PickRecord) : (reading o s).completes q = s.completes q := rfl
  simp only [associate, completes_eq]
  split
  · rfl
  · split <;> rfl

theorem admitItem_reading (o s : State) (w : Waiting) : admitItem w (reading o s) = reading o (admitItem w s) := by
  cases w with
  | pick i =>
    have same : ((reading o s).slot i).record = (s.slot i).record := rfl
    cases held : (s.slot i).record with
    | none => simp only [admitItem, admitPick, held, same.trans held]
    | some p =>
      simp only [admitItem, admitPick_some held, admitPick_some (same.trans held)]
      exact congrArg (·.setSlot i freeSlot) (associate_reading o
        { s with reports := { s.reports with pickSeq := s.reports.pickSeq + 1, blocked := false } } p s.reports.pickSeq
        (s.slot i).params.smin (s.slot i).params.smax)
  | notice k =>
    cases held : s.reports.notices[k] with
    | none => simp only [admitItem, admitNotice, held]
    | some p =>
      simp only [admitItem, admitNotice, held]
      rfl

theorem attempts_reading (o : State) (n : Nat) : ∀ s : State, attempts n (reading o s) = reading o (attempts n s) := by
  induction n with
  | zero => exact fun _ => rfl
  | succ n ih =>
    intro s
    have oldest : (reading o s).oldestWaiting = s.oldestWaiting := rfl
    have needs (w : Waiting) : (reading o s).placesFor w = s.placesFor w := rfl
    have free : (reading o s).places = s.places := rfl
    cases held : s.oldestWaiting with
    | none => simp only [attempts, held, oldest.trans held]
    | some w =>
      simp only [attempts, held, oldest.trans held, needs, free]
      split
      · rw [admitItem_reading, ih]
      · simp only [blockedAttempt, needs, free]
        split <;> rfl

theorem raise_reading (o s : State) (d : NoticeData) : raise d (reading o s) = reading o (raise d s) := by
  have same : (reading o s).reports.notices[d.key] = s.reports.notices[d.key] := rfl
  cases held : s.reports.notices[d.key] with
  | none =>
    rw [raise_new held, raise_new (same.trans held)]
    exact attempts_reading o 16 (s.setNotice d.key (some ⟨s.reports.waiting, s.newest, 1, d⟩)).takeDate
  | some p =>
    rw [raise_pending held, raise_pending (same.trans held)]
    rfl

/-! ## Several notices of one key -/

/-- Notices that find one of their key pending fold into it (R131). -/
theorem foldl_raise_pending {k : Fin 8} (ds : List NoticeData) : ∀ {d : NoticeData} {s : State} {p : PendingNotice},
    ds.getLast? = some d → (∀ d ∈ ds, d.key = k) → s.reports.notices[k] = some p →
    ds.foldl (fun x d => raise d x) s = { s with reports := { s.reports with
      notices := s.reports.notices.set k (some ⟨p.date, p.first, min (p.count + ds.length) 255, d⟩) } } := by
  induction ds with
  | nil => exact fun last => nomatch last
  | cons e rest ih =>
    intro d s p last keys pending
    obtain rfl : e.key = k := keys e List.mem_cons_self
    rw [List.foldl_cons, raise_pending pending]
    cases rest with
    | nil =>
      obtain rfl : e = d := Option.some.inj last
      rfl
    | cons e' rest =>
      rw [ih (p := { p with count := sat8 (p.count + 1), data := e }) ((List.getLast?_cons_cons).symm.trans last)
        (fun d mem => keys d (List.mem_cons_of_mem e mem)) (setNotice_self s e.key _)]
      have counted : min (sat8 (p.count + 1) + (e' :: rest).length) 255 = min (p.count + (e :: e' :: rest).length) 255 := by
        simp only [sat8, List.length_cons]
        omega
      simp only [State.setNotice, Vector.set_set, counted]

/-- With the queue full the first of several becomes pending and the others fold into it (R128, R131). -/
theorem foldl_raise_full {k : Fin 8} {ds : List NoticeData} {d : NoticeData} {s : State} (last : ds.getLast? = some d)
    (keys : ∀ d ∈ ds, d.key = k) (clear : s.reports.notices[k] = none) (full : s.reports.queue.length = 32) :
    ds.foldl (fun x d => raise d x) s = { s with reports := { s.reports with
      notices := s.reports.notices.set k (some ⟨s.reports.waiting, s.newest, min ds.length 255, d⟩)
      waiting := s.reports.waiting + 1 } } := by
  cases ds with
  | nil => cases last
  | cons e rest =>
    obtain rfl : e.key = k := keys e List.mem_cons_self
    have noPlace : State.places (s.setNotice e.key (some ⟨s.reports.waiting, s.newest, 1, e⟩)).takeDate = 0 :=
      Nat.sub_eq_zero_of_le full.ge
    rw [List.foldl_cons, raise_new clear, admitAll_of_full noPlace]
    cases rest with
    | nil =>
      obtain rfl : e = d := Option.some.inj last
      rfl
    | cons e' rest =>
      rw [foldl_raise_pending (k := e.key) (p := ⟨s.reports.waiting, s.newest, 1, e⟩)
        (s := (s.setNotice e.key (some ⟨s.reports.waiting, s.newest, 1, e⟩)).takeDate) (e' :: rest)
        ((List.getLast?_cons_cons).symm.trans last) (fun d mem => keys d (List.mem_cons_of_mem e mem))
        (setNotice_self s e.key _)]
      have counted : min (1 + (e' :: rest).length) 255 = min (e :: e' :: rest).length 255 := by
        simp only [List.length_cons]
        omega
      simp only [State.setNotice, State.takeDate, Vector.set_set, counted]

/-- With nothing waiting and their places free each of several becomes a record at once (R128, R130). -/
theorem foldl_raise_room (ds : List NoticeData) : ∀ {s : State}, ds ≠ [] → s.nothingWaits →
    s.reports.queue.length + ds.length ≤ 32 →
    ds.foldl (fun x d => raise d x) s = { s with reports := { s.reports with
      queue := s.reports.queue ++ ds.map fun d => .notice ⟨1, s.newest, d⟩
      waiting := s.reports.waiting + BitVec.ofNat 32 ds.length
      blocked := false } } := by
  induction ds with
  | nil => exact fun ne => absurd rfl ne
  | cons e rest ih =>
    intro s _ idle room
    rw [List.length_cons] at room
    rw [List.foldl_cons, raise_of_nothingWaits idle (by unfold Config.queueCap; omega)]
    cases rest with
    | nil => rfl
    | cons e' rest =>
      have longer : (reported e s).reports.queue.length = s.reports.queue.length + 1 := List.length_append
      rw [ih (List.cons_ne_nil e' rest) (nothingWaits_reported idle e) (by rw [longer]; omega)]
      have dates : s.reports.waiting + 1 + BitVec.ofNat 32 (e' :: rest).length =
          s.reports.waiting + BitVec.ofNat 32 (e :: e' :: rest).length := by
        rw [List.length_cons (a := e), BitVec.ofNat_add, BitVec.add_assoc, BitVec.add_comm 1]
        rfl
      simp only [reported, dates, List.map_cons, List.append_assoc, List.cons_append, List.nil_append]

/-! ## TRIAL_EXPIRY (10.5) -/

/-- The notice that a trial's expiry raises (R165). -/
abbrev trialNotice (t : Trial) : NoticeData := .trialExpired t.entry t.item t.old

/-- A trial's old value stored again, whatever the lock (R165). -/
abbrev restored (ps : Vector Profile 8) (t : Trial) : Vector Profile 8 := ps.set t.entry (ps[t.entry].put t.item t.old)

/-- State s with its expired trials popped from the top and their old values restored. -/
abbrev unwound (n : Sample) (s : State) : State :=
  { s with
    revert := s.revert.dropWhile (·.expired n)
    settings := { s.settings with profiles := (s.revert.takeWhile (·.expired n)).foldl restored s.settings.profiles } }

/-- Popping and raising in turn is popping all and then raising all: a notice reads no setting. -/
theorem popExpired_eq (n : Sample) (ts : List Trial) : ∀ s : State, s.revert = ts → popExpired n ts s =
    ((ts.takeWhile (·.expired n)).map trialNotice).foldl (fun x d => raise d x) (unwound n s) := by
  induction ts with
  | nil =>
    rintro s stack
    simp only [unwound, stack]
    exact congrArg (fun rv => { s with revert := rv }) stack
  | cons t rest ih =>
    intro s stack
    by_cases gone : t.expired n = true
    · rw [popExpired, if_pos gone, List.takeWhile_cons_of_pos (p := fun t : Trial => t.expired n) gone, List.map_cons, List.foldl_cons]
      obtain ⟨tb, a, r, shape⟩ := raise_shape (trialNotice t) (popTrial t rest s)
      rw [ih _ (by rw [shape]; rfl)]
      refine congrArg (List.foldl (fun x d => raise d x) · _) ?_
      have before' : unwound n s = unwound n (popTrial t rest s) := by
        simp only [unwound, stack, List.takeWhile_cons_of_pos (p := fun t : Trial => t.expired n) gone, List.dropWhile_cons_of_pos (p := fun t : Trial => t.expired n) gone, List.foldl_cons]
        rfl
      rw [before']
      have read := raise_reading (unwound n (popTrial t rest s)) (popTrial t rest s) (trialNotice t)
      rw [shape] at read
      rw [shape]
      exact read.symm
    · rw [popExpired, if_neg gone, List.takeWhile_cons_of_neg (p := fun t : Trial => t.expired n) gone]
      simp only [unwound, stack, List.takeWhile_cons_of_neg (p := fun t : Trial => t.expired n) gone, List.dropWhile_cons_of_neg (p := fun t : Trial => t.expired n) gone]
      exact congrArg (fun rv => { s with revert := rv }) stack

/-- Who does not make the trials' test leaves it due. -/
theorem receive_due_trials {f : Conditioned} {s : State} {r : Recipient} (other : r ≠ .stack) :
    (receive f s r).due.trials = s.due.trials := by
  cases r with
  | stack => exact absurd rfl other
  | detector w => rw [receive, detectorFrame_due]
  | recentre => rw [receive, readRecentre_due]
  | after => exact (afterDetectors_due f s).1
  | assoc => exact (entryTests_due f.n s).1

/-- Settles O35: the unwinding as one write, then its notices by what the queue holds. -/
theorem trialExpiryUnwindsFromTheTop : Obligations.TrialExpiryUnwindsFromTheTop := by
  intro s n on passed restore data gone back
  have row (newest : s.newest = some n) : exec .trialExpiry s = .next (trialTests n s) := by
    change execTrialExpiry s = _
    rw [execTrialExpiry, on, newest]
  refine ⟨fun made => ?made, fun newest due => ?due, fun f at' newest => ?received, fun f r other => receive_due_trials other⟩
  case made =>
    change execTrialExpiry s = _
    unfold execTrialExpiry
    split
    · rw [trialTests_made made]
    · rfl
  case due =>
    have expires : exec .trialExpiry s = .next ((gone.map data).foldl (fun x d => raise d x) back) := by
      rw [row newest, trialTests, if_pos due, expireTrials]
      exact congrArg _ (popExpired_eq n s.revert { s with due := { s.due with trials := false } } rfl)
    have keys (d : NoticeData) (mem : d ∈ gone.map data) : d.key = 7 := by
      obtain ⟨t, -, rfl⟩ := List.mem_map.mp mem
      rfl
    have last {t : Trial} (is : gone.getLast? = some t) : (gone.map data).getLast? = some (data t) := by
      rw [List.getLast?_map, is]
      rfl
    refine ⟨expires, fun t p is pending => ?_, fun t is clear full => ?_, fun some' idle room => ?_⟩
    · rw [expires, foldl_raise_pending (s := back) (gone.map data) (last is) keys pending, List.length_map]
      rfl
    · rw [expires, foldl_raise_full (s := back) (last is) keys clear full, List.length_map]
      rfl
    · rw [expires, foldl_raise_room (s := back) (gone.map data) (by simpa using some') idle (by simpa using room),
        List.length_map, List.map_map]
      rfl
  case received =>
    subst at'
    exact (row newest).symm

end Sys2Proof.Proofs
end

section
/-! PROOFS. What a detector's report does to the Slot Table (2.4, 3.5, 4.2, 4.4). -/

namespace Sys2Proof.Proofs

open Sys2Proof.Machine Sys2Proof.Laws

/-! ## A detector's frame, up to its report -/

/-- State s once detector w has processed frame f, a forced baseline announced (R22, R30). -/
def processed (w : Det) (f : Conditioned) (s : State) : State :=
  if (s.outOf w f).forcedNow then announceForced w f.n (s.setDet w (s.outOf w f).det) else s.setDet w (s.outOf w f).det

theorem processed_shape (w : Det) (f : Conditioned) (s : State) : ∃ t a r, processed w f s =
    { s with table := t, assoc := a, reports := r, det := s.det.set w (s.outOf w f).det } := by
  unfold processed
  split
  · obtain ⟨t, a, r, shape⟩ := announceForced_shape w f.n (s.setDet w (s.outOf w f).det)
    exact ⟨t, a, r, shape⟩
  · exact ⟨s.table, s.assoc, s.reports, rfl⟩

theorem processed_chain (w : Det) (f : Conditioned) (s : State) : (processed w f s).chain = s.chain := by
  obtain ⟨_, _, _, shape⟩ := processed_shape w f s
  rw [shape]

theorem detectorFrame_run {s : State} (run : s.chain.st = .run) (w : Det) (f : Conditioned) : detectorFrame w f s =
    if (s.outOf w f).crossed then crossingReport w f.n (s.outOf w f).eff (s.outOf w f).ratio (processed w f s)
    else reportSteps w f.n (s.outOf w f).ratio (processed w f s) := by
  have run' : (processed w f s).chain.st = .run := (congrArg Chain.st (processed_chain w f s)).trans run
  unfold processed at run' ⊢
  simp only [detectorFrame, run']

theorem detectorFrame_away {s : State} (away : s.chain.st ≠ .run) (w : Det) (f : Conditioned) :
    detectorFrame w f s = processed w f s := by
  have away' : (processed w f s).chain.st ≠ .run := fun run =>
    away ((congrArg Chain.st (processed_chain w f s)).symm.trans run)
  unfold processed at away' ⊢
  unfold detectorFrame
  dsimp only
  split
  next run => exact absurd run away'
  next => rfl

/-- What the processing leaves of an OPEN slot: everything but the flag of a forced baseline. -/
theorem processed_opened {s : State} (w : Det) (f : Conditioned) {i : Fin 8} (isOpen : (s.slot i).st = .opened) :
    ∃ fl, (processed w f s).slot i = { s.slot i with flags := fl } := by
  unfold processed
  split
  · obtain ⟨-, slots⟩ := raise_admitted (.baselineForced w f.n) (flagForced w (s.setDet w (s.outOf w f).det))
    have flagged : ∃ fl, (flagForced w (s.setDet w (s.outOf w f).det)).slot i = { s.slot i with flags := fl } := by
      rw [flagForced, mapSlots_slot]
      split
      · exact ⟨_, rfl⟩
      · exact ⟨_, rfl⟩
    obtain ⟨fl, flagged⟩ := flagged
    rcases slots i with same | freed
    · exact ⟨fl, same.trans flagged⟩
    · rw [flagged] at freed
      cases isOpen.symm.trans freed.1
  · exact ⟨_, rfl⟩

/-- The processing opens no slot. -/
theorem processed_opened_iff (s : State) (w : Det) (f : Conditioned) (i : Fin 8) :
    ((processed w f s).slot i).st = .opened ↔ (s.slot i).st = .opened := by
  refine ⟨fun now => ?_, fun was => by obtain ⟨fl, eq⟩ := processed_opened w f was; rw [eq]; exact was⟩
  unfold processed at now
  split at now
  · obtain ⟨-, slots⟩ := raise_admitted (.baselineForced w f.n) (flagForced w (s.setDet w (s.outOf w f).det))
    rcases slots i with same | ⟨-, freed⟩
    · rw [announceForced, same, flagForced, mapSlots_slot] at now
      split at now
      · exact now
      · exact now
    · rw [announceForced, freed] at now
      cases now
  · exact now

theorem processed_recent (s : State) (w : Det) (f : Conditioned) : (processed w f s).table.recent = s.table.recent := by
  unfold processed
  split
  · obtain ⟨eq, -⟩ := raise_admitted (.baselineForced w f.n) (flagForced w (s.setDet w (s.outOf w f).det))
    rw [announceForced, eq]
    rfl
  · rfl

/-! ## Peaks (R63) -/

/-- Of the slots in use at s none is freed at t, and none has another peak. -/
def peaksKept (s t : State) : Prop :=
  ∀ i, (s.slot i).st ≠ .free → (t.slot i).peak = (s.slot i).peak ∧ (t.slot i).st ≠ .free

theorem peaksKept_refl (s : State) : peaksKept s s := fun _ used => ⟨rfl, used⟩

theorem peaksKept_trans {s t u : State} (h : peaksKept s t) (h' : peaksKept t u) : peaksKept s u := fun i used =>
  ⟨(h' i (h i used).2).1.trans (h i used).1, (h' i (h i used).2).2⟩

theorem setSlot_peaksKept {s : State} {i : Fin 8} {x : Slot} (peak : x.peak = (s.slot i).peak) (used : x.st ≠ .free) :
    peaksKept s (s.setSlot i x) := by
  intro j was
  by_cases same : j = i
  · subst same
    rw [setSlot_slot_self]
    exact ⟨peak, used⟩
  · rw [setSlot_slot_ne s x same]
    exact ⟨rfl, was⟩

theorem takeNext_peaksKept (s : State) : peaksKept s (takeNext s) := by
  unfold takeNext
  split
  · exact setSlot_peaksKept (s := s) rfl nofun
  · exact peaksKept_refl s

theorem closeSlot_peaksKept (close : Sample) (f : Flags) (i : Fin 8) (s : State) : peaksKept s (closeSlot close f i s) := by
  rw [closeSlot_eq]
  refine peaksKept_trans (t := closing close f i s) (fun j used => ?_) (takeNext_peaksKept _)
  by_cases same : j = i
  · subst same
    rw [closing_slot_self]
    exact ⟨rfl, nofun⟩
  · rw [closing_slot_ne _ _ _ same]
    exact ⟨rfl, used⟩

theorem autoClose_peaksKept (w : Det) (n : Sample) (s : State) : peaksKept s (autoClose w n s) := by
  unfold autoClose
  generalize byTrigger s _ = order
  induction order generalizing s with
  | nil => exact peaksKept_refl s
  | cons i rest ih => exact peaksKept_trans (closeSlot_peaksKept _ _ i s) (ih _)

/-- A slot that takes a crossing is OPEN and its detector's most recent opening (R59). -/
theorem retriggered_opened {s : State} {w : Det} {t : Sample} {i : Fin 8} (again : s.retriggered w t = some i) :
    (s.slot i).st = .opened := by
  unfold State.retriggered at again
  split at again
  · split at again
    next both =>
      cases again
      exact both.1
    next => cases again
  · cases again

theorem crossing_peaksKept (w : Det) (t : Sample) (eff ratio : Nat) (s : State) : peaksKept s (crossing w t eff ratio s) := by
  unfold crossing
  split
  next i again =>
    refine setSlot_peaksKept rfl fun free => ?_
    exact absurd ((retriggered_opened again).symm.trans free) nofun
  next =>
    split
    next i free =>
      intro j used
      have apart : j ≠ i := fun same => used (same ▸ ((freeSlot?_eq_some s i).mp free).1)
      have others : (openFor w t eff ratio i s).slot j = s.slot j := setSlot_slot_ne s _ apart
      rw [others]
      exact ⟨rfl, used⟩
    next => exact peaksKept_refl s

/-- Of an OPEN slot a crossing touches the retrigger count alone (R59). -/
theorem crossing_opened (w : Det) (t : Sample) (eff ratio : Nat) {s : State} {i : Fin 8} (isOpen : (s.slot i).st = .opened) :
    ∃ r, (crossing w t eff ratio s).slot i = { s.slot i with retrig := r } := by
  unfold crossing
  split
  next j again =>
    by_cases same : i = j
    · subst same
      exact ⟨_, setSlot_slot_self s i _⟩
    · exact ⟨_, setSlot_slot_ne s _ same⟩
  next =>
    split
    next j free =>
      have apart : i ≠ j := by
        rintro rfl
        cases isOpen.symm.trans ((freeSlot?_eq_some s i).mp free).1
      exact ⟨_, setSlot_slot_ne s _ apart⟩
    next => exact ⟨_, rfl⟩

theorem raisePeaks_slot (w : Det) (ratio : Nat) (s : State) (i : Fin 8) : (raisePeaks w ratio s).slot i =
    if (s.slot i).st == .opened && (s.slot i).cls.owner == w then { s.slot i with peak := max (s.slot i).peak ratio }
    else s.slot i := mapSlots_slot s _ i

/-- The peak that a report leaves of an OPEN slot (R63). -/
def peakAfter (w : Det) (ratio : Nat) (x : Slot) : Nat := if x.cls.owner = w then max x.peak ratio else x.peak

theorem reportSteps_peak (w : Det) (n : Sample) (ratio : Nat) {s : State} {i : Fin 8} (isOpen : (s.slot i).st = .opened) :
    ((reportSteps w n ratio s).slot i).peak = peakAfter w ratio (s.slot i) ∧
      ((reportSteps w n ratio s).slot i).st ≠ .free := by
  have raised : (raisePeaks w ratio s).slot i = { s.slot i with peak := peakAfter w ratio (s.slot i) } := by
    rw [raisePeaks_slot, isOpen, peakAfter]
    by_cases own : (s.slot i).cls.owner = w
    · simp only [own, beq_self_eq_true, Bool.and_self, if_true]
    · simp only [own, beq_self_eq_true, Bool.true_and, beq_eq_false_iff_ne.mpr own, Bool.false_eq_true, if_false]
  obtain ⟨peak, used⟩ := autoClose_peaksKept w n (raisePeaks w ratio s) i (by rw [raised]; exact isOpen ▸ nofun)
  exact ⟨peak.trans (by rw [raised]), used⟩

/-- The peak of an OPEN slot behind a detector's frame in RUN, whichever of report and crossing comes first (R63). -/
theorem detectorFrame_peak {s : State} (w : Det) (f : Conditioned) (run : s.chain.st = .run) {i : Fin 8}
    (isOpen : (s.slot i).st = .opened) :
    ((detectorFrame w f s).slot i).peak = peakAfter w (s.outOf w f).ratio (s.slot i) := by
  obtain ⟨fl, slot⟩ := processed_opened w f isOpen
  have isOpen' : ((processed w f s).slot i).st = .opened := by rw [slot]; exact isOpen
  have after' : peakAfter w (s.outOf w f).ratio ((processed w f s).slot i) = peakAfter w (s.outOf w f).ratio (s.slot i) := by
    rw [slot]
    rfl
  obtain ⟨peak, used⟩ := reportSteps_peak w f.n (s.outOf w f).ratio isOpen'
  rw [detectorFrame_run run]
  split
  · rcases crossingReport_outcomes w f.n (s.outOf w f).eff (s.outOf w f).ratio (processed w f s) with h | ⟨-, h | h⟩
    · rw [h, (crossing_peaksKept _ _ _ _ _ i used).1, peak, after']
    · obtain ⟨peak, used⟩ := reportSteps_peak (s := (processed w f s).draw.2) w f.n (s.outOf w f).ratio isOpen'
      rw [h, (crossing_peaksKept _ _ _ _ _ i used).1, peak]
      exact after'
    · obtain ⟨r, crossed⟩ := crossing_opened (s := (processed w f s).draw.2) w f.n (s.outOf w f).eff (s.outOf w f).ratio
        isOpen'
      rw [h, (reportSteps_peak w f.n _ (by rw [crossed]; exact isOpen')).1, crossed]
      exact after'
  · exact peak.trans after'

/-! ## The report and AUTO_CLOSE as commands -/

theorem flagForced_eq (w : Det) (s : State) : flagForced w s = s.mapSlots fun _ x =>
    if x.st == .opened && x.cls.owner == w then { x with flags := { x.flags with baselineForced := true } } else x := by
  simp only [flagForced, Slot.raise, Flags.union, Bool.or_false, Bool.or_true]

theorem autoClose_run {s : State} {n : Sample} (w : Det) (on : s.power = true) (run : s.chain.st = .run)
    (newest : s.newest = some n) : exec (.autoClose w) s = .next (autoClose w n s) := by
  change execAutoClose w s = _
  rw [execAutoClose, on, run, newest]

theorem autoClose_away {s : State} (w : Det) (away : s.chain.st ≠ .run) : exec (.autoClose w) s = .next s := by
  change execAutoClose w s = _
  unfold execAutoClose
  split
  next run _ => exact absurd run away
  next => rfl

theorem retriggered_iff (s : State) (w : Det) (t : Sample) (i : Fin 8) : s.retriggered w t = some i ↔
    ∃ trig, s.table.recent.get w = some (i, trig) ∧ (s.slot i).st = .opened ∧ distance trig t < (s.slot i).params.dsep := by
  constructor
  · intro again
    unfold State.retriggered at again
    split at again
    next j trig recent =>
      split at again
      next both =>
        cases again
        exact ⟨trig, recent, both⟩
      next => cases again
    next => cases again
  · rintro ⟨trig, recent, isOpen, near⟩
    exact retriggered_eq_some recent isOpen near

/-- Does a crossing at n retrigger a slot that closes at n (R59, R64)? -/
def crossesClosing (w : Det) (n : Sample) (s : State) : Prop :=
  ∃ i trig, s.table.recent.get w = some (i, trig) ∧ (s.slot i).st = .opened ∧
    distance trig n < (s.slot i).params.dsep ∧ (s.slot i).close = n

theorem crossesClosing_iff (w : Det) (n : Sample) (s : State) :
    crossesClosing w n s ↔ ∃ i, s.retriggered w n = some i ∧ (s.slot i).close = n := by
  simp only [crossesClosing, retriggered_iff]
  constructor
  · rintro ⟨i, trig, recent, isOpen, near, closes⟩
    exact ⟨i, ⟨trig, recent, isOpen, near⟩, closes⟩
  · rintro ⟨i, ⟨trig, recent, isOpen, near⟩, closes⟩
    exact ⟨i, trig, recent, isOpen, near, closes⟩

/-- The detector's own processing does not change what a crossing would meet. -/
theorem processed_crossesClosing (s : State) (w : Det) (f : Conditioned) (n : Sample) :
    crossesClosing w n (processed w f s) ↔ crossesClosing w n s := by
  unfold crossesClosing
  rw [processed_recent]
  refine exists_congr fun i => exists_congr fun trig => and_congr_right fun _ => ?_
  rw [processed_opened_iff]
  refine and_congr_right fun isOpen => ?_
  obtain ⟨fl, slot⟩ := processed_opened w f isOpen
  rw [slot]

theorem crossingReport_apart {w : Det} {n : Sample} {s : State} (apart : ¬ crossesClosing w n s) (eff ratio : Nat) :
    crossingReport w n eff ratio s = crossing w n eff ratio (reportSteps w n ratio s) := by
  rw [crossesClosing_iff] at apart
  exact (crossingReport_outcomes w n eff ratio s).resolve_right fun h => apart h.1

theorem crossingReport_again {w : Det} {n : Sample} {s : State} (again : crossesClosing w n s) (eff ratio : Nat) :
    crossingReport w n eff ratio s = crossing w n eff ratio (reportSteps w n ratio s.draw.2) ∨
      crossingReport w n eff ratio s = reportSteps w n ratio (crossing w n eff ratio s.draw.2) := by
  obtain ⟨i, again, closes⟩ := (crossesClosing_iff w n s).mp again
  by_cases even : Config.race s.choices % 2 = 0
  · exact .inl (by simp only [crossingReport, again, closes, if_true, State.draw, even])
  · exact .inr (by simp only [crossingReport, again, closes, if_true, State.draw, even, if_false])

theorem mapEight_set {α : Type} (f : α → α) (v : Vector α 8) (i : Fin 8) (x : α) :
    mapEight (fun _ y => f y) (v.set i x) = (mapEight (fun _ y => f y) v).set i (f x) := by
  refine Vector.ext fun k bound => ?_
  have read (v : Vector α 8) := mapEight_getElem (fun _ y => f y) v ⟨k, bound⟩
  simp only [Fin.getElem_fin] at read
  rw [read, Vector.getElem_set, Vector.getElem_set, read]
  split <;> rfl

theorem mapSlots_setSlot (f : Slot → Slot) (s : State) (i : Fin 8) (x : Slot) :
    (s.setSlot i x).mapSlots (fun _ y => f y) = (s.mapSlots fun _ y => f y).setSlot i (f x) := by
  simp only [State.mapSlots, State.setSlot, mapEight_set]

/-- A crossing that retriggers leaves the report's peaks to be raised before or after it. -/
theorem raisePeaks_crossing {w : Det} {n : Sample} {s : State} {i : Fin 8} (again : s.retriggered w n = some i)
    (eff ratio : Nat) :
    raisePeaks w ratio (crossing w n eff ratio s) = crossing w n eff ratio (raisePeaks w ratio s) := by
  have again' : (raisePeaks w ratio s).retriggered w n = some i := by
    rw [retriggered_iff] at again ⊢
    obtain ⟨trig, recent, isOpen, near⟩ := again
    refine ⟨trig, recent, ?_⟩
    rw [raisePeaks_slot]
    split
    · exact ⟨isOpen, near⟩
    · exact ⟨isOpen, near⟩
  rw [crossing_of_retriggered again, crossing_of_retriggered again', raisePeaks, mapSlots_setSlot, raisePeaks_slot]
  refine congrArg (State.setSlot _ i) ?_
  dsimp only
  split <;> rfl

/-! ## The order of closing (R69) -/

/-- Between two samples not long before a third one distances subtract. -/
theorem distance_of_recent {a b n : Sample} (a0 : 0 ≤ distance a n) (a1 : distance a n < 2 ^ 30) (b0 : 0 ≤ distance b n)
    (b1 : distance b n < 2 ^ 30) : distance a b = distance a n - distance b n := by
  have gap : b - a = (n - a) - (n - b) := by bv_omega
  unfold distance at *
  rw [gap, BitVec.toInt_sub]
  exact Int.bmod_eq_of_le (by omega) (by omega)

theorem eq_of_distance_zero {a b : Sample} (zero : distance a b = 0) : a = b := by
  have gap : b - a = 0 := BitVec.eq_of_toInt_eq zero
  bv_omega

/-- Slot i closes before slot j: its trigger is older, or the same and its number lower. -/
def closesBefore (s : State) (i j : Fin 8) : Prop :=
  distance (s.slot j).trigger (s.slot i).trigger < 0 ∨ ((s.slot i).trigger = (s.slot j).trigger ∧ i < j)

/-- The slots whose triggers lie not long before n. -/
def triggeredBy (s : State) (n : Sample) (i : Fin 8) : Prop :=
  0 ≤ distance (s.slot i).trigger n ∧ distance (s.slot i).trigger n < 2 ^ 30

theorem insertByTrigger_perm (s : State) (i : Fin 8) (l : List (Fin 8)) : (insertByTrigger s i l).Perm (i :: l) := by
  induction l with
  | nil => simp only [insertByTrigger, List.Perm.refl]
  | cons j rest ih =>
    simp only [insertByTrigger]
    split
    · exact List.Perm.refl _
    · exact (ih.cons j).trans (List.Perm.swap i j rest)

/-- A lower number put among slots in order stands in order. -/
theorem insertByTrigger_sorted {s : State} {n : Sample} {i : Fin 8} {l : List (Fin 8)} (i' : triggeredBy s n i)
    (l' : ∀ j ∈ l, triggeredBy s n j) (lower : ∀ j ∈ l, i < j) (sorted : l.Pairwise (closesBefore s)) :
    (insertByTrigger s i l).Pairwise (closesBefore s) := by
  induction l with
  | nil => simp only [insertByTrigger, List.pairwise_singleton]
  | cons j rest ih =>
    obtain ⟨first, sorted⟩ := List.pairwise_cons.mp sorted
    have j' := l' j List.mem_cons_self
    have rest' (x : Fin 8) (mem : x ∈ rest) := l' x (List.mem_cons_of_mem j mem)
    have gap {x y : Fin 8} (hx : triggeredBy s n x) (hy : triggeredBy s n y) :=
      distance_of_recent hx.1 hx.2 hy.1 hy.2
    have ij := gap i' j'
    simp only [insertByTrigger]
    split
    next older =>
      refine List.pairwise_cons.mpr ⟨fun x mem => ?_, List.pairwise_cons.mpr ⟨first, sorted⟩⟩
      have x' := l' x mem
      have notNewer : distance (s.slot x).trigger n ≤ distance (s.slot i).trigger n := by
        rcases List.mem_cons.mp mem with rfl | inRest
        · omega
        · have jx := gap (rest' x inRest) j'
          rcases first x inRest with newer | ⟨same, -⟩
          · omega
          · rw [← same]
            omega
      rcases notNewer.lt_or_eq with newer | same
      · exact .inl (by rw [gap x' i']; omega)
      · exact .inr ⟨eq_of_distance_zero (by rw [gap i' x']; omega), lower x mem⟩
    next newer =>
      refine List.pairwise_cons.mpr ⟨fun x mem => ?_,
        ih rest' (fun x mem => lower x (List.mem_cons_of_mem j mem)) sorted⟩
      rcases List.mem_cons.mp ((insertByTrigger_perm s i rest).mem_iff.mp mem) with rfl | inRest
      · exact .inl (not_le.mp newer)
      · exact first x inRest

theorem byTrigger_sorted {s : State} {n : Sample} {is : List (Fin 8)} (recent : ∀ i ∈ is, triggeredBy s n i)
    (numbers : is.Pairwise (· < ·)) : (byTrigger s is).Pairwise (closesBefore s) := by
  induction is with
  | nil => simp only [byTrigger, List.foldr_nil, List.Pairwise.nil]
  | cons i rest ih =>
    obtain ⟨first, numbers⟩ := List.pairwise_cons.mp numbers
    have recent' (j : Fin 8) (mem : j ∈ rest) := recent j (List.mem_cons_of_mem i mem)
    have perm := byTrigger_perm s rest
    have sorted := insertByTrigger_sorted (recent i List.mem_cons_self)
      (fun j mem => recent' j (perm.mem_iff.mp mem)) (fun j mem => first j (perm.mem_iff.mp mem)) (ih recent' numbers)
    simpa only [byTrigger, List.foldr_cons] using sorted

/-- Settles O33: the peaks, the report's steps as the commands that make them, and AUTO_CLOSE's order. -/
theorem reportsRaisePeaksAndAutoClose : Obligations.ReportsRaisePeaksAndAutoClose := by
  refine ⟨fun s w f run i isOpen => ?peaks, fun s w f on newest => ?report, fun s w n on newest => ?autoClose⟩
  case peaks =>
    have peak := detectorFrame_peak w f run isOpen
    exact ⟨fun own => peak.trans (if_pos own), fun other => peak.trans (if_neg other)⟩
  case report =>
    intro out own taken marked peaked again drawn
    have marked' : processed w f s = marked := by
      change (if out.forcedNow then raise (.baselineForced w f.n) (flagForced w taken) else taken) = marked
      rw [flagForced_eq]
    have peaked' : raisePeaks w out.ratio (processed w f s) = peaked := congrArg (raisePeaks w out.ratio) marked'
    have frame (run : s.chain.st = .run) : detectorFrame w f s =
        if out.crossed then crossingReport w f.n out.eff out.ratio (processed w f s)
        else reportSteps w f.n out.ratio (processed w f s) := detectorFrame_run run w f
    obtain ⟨t, a, r, shape⟩ := processed_shape w f s
    have row (v : State) (power : v.power = (processed w f s).power) (chain : v.chain = (processed w f s).chain)
        (same : v.newest = (processed w f s).newest) (run : s.chain.st = .run) :
        exec (.autoClose w) v = .next (autoClose w f.n v) :=
      autoClose_run w (power.trans (by rw [shape]; exact on)) (chain ▸ (by rw [shape]; exact run))
        (same.trans (by rw [shape]; exact newest))
    refine ⟨fun away => (detectorFrame_away away w f).trans marked', fun run quiet => ?_, fun run crossed apart => ?_,
      fun run crossed again' => ?_⟩
    · rw [frame run, if_neg (Bool.eq_false_iff.mp quiet), ← peaked', row (raisePeaks w out.ratio (processed w f s)) rfl rfl rfl run]
      rfl
    · refine ⟨autoClose w f.n peaked, peaked' ▸ row (raisePeaks w out.ratio (processed w f s)) rfl rfl rfl run, ?_⟩
      rw [frame run, if_pos crossed, crossingReport_apart (mt (processed_crossesClosing s w f f.n).mp apart), ← peaked']
      rfl
    · have again'' : crossesClosing w f.n (processed w f s) := (processed_crossesClosing s w f f.n).mpr again'
      have drawn' : raisePeaks w out.ratio (processed w f s).draw.2 = drawn :=
        congrArg (fun v : State => { v with choices := v.choices + 1 }) peaked'
      refine ⟨autoClose w f.n drawn, drawn' ▸ row (raisePeaks w out.ratio (processed w f s).draw.2) rfl rfl rfl run, ?_⟩
      rw [frame run, if_pos crossed]
      rcases crossingReport_again again'' out.eff out.ratio with last | first
      · refine .inl (last.trans ?_)
        rw [← drawn']
        rfl
      · obtain ⟨i, retriggers, -⟩ := (crossesClosing_iff w f.n _).mp again''
        obtain ⟨tb, p, crossed'⟩ := crossing_shape w f.n out.eff out.ratio drawn
        refine .inr ?_
        rw [first, row _ (by rw [crossed', ← drawn']; rfl) (by rw [crossed', ← drawn']; rfl)
          (by rw [crossed', ← drawn']; rfl) run, ← drawn',
          ← raisePeaks_crossing (s := (processed w f s).draw.2) retriggers]
        rfl
  case autoClose =>
    intro due short
    refine ⟨autoClose_away w, fun run queue => ?_⟩
    have once : due.Pairwise (· < ·) := List.Pairwise.filter _ (by decide)
    refine ⟨autoClose w n s, byTrigger s due, autoClose_run w on run newest, byTrigger_perm s due,
      autoClose_closes w n s queue.2.2.2, fun recent => byTrigger_sorted recent once⟩

end Sys2Proof.Proofs
end

section
/-! PROOFS. The requests of chapters 3 and 4: CHAIN HOLD, CHAIN RUN, BLANK, SLOT CLOSE and SLOT FORCE. -/

namespace Sys2Proof.Proofs

open Sys2Proof.Machine Sys2Proof.Laws

/-! ## Closings read slots, Unit, ring, settings and the newest sample alone -/

/-- State o with what closings read of state s. -/
abbrev closingReads (o s : State) : State :=
  { o with table := s.table, unit := s.unit, ring := s.ring, settings := s.settings, newest := s.newest }

theorem takeNext_reads (o s : State) : takeNext (closingReads o s) = closingReads o (takeNext s) := by
  cases unit : s.unit with
  | some u => rw [takeNext_busy unit, takeNext_busy (s := closingReads o s) unit]
  | none =>
    cases queue : s.table.queue with
    | nil => rw [takeNext_empty queue, takeNext_empty (s := closingReads o s) queue]
    | cons i rest =>
      rw [takeNext_idle unit queue, takeNext_idle (s := closingReads o s) unit queue]
      rfl

theorem closeSlot_reads (close : Sample) (f : Flags) (i : Fin 8) (o s : State) :
    closeSlot close f i (closingReads o s) = closingReads o (closeSlot close f i s) := by
  rw [closeSlot_eq, closeSlot_eq, ← takeNext_reads]
  rfl

theorem closeAll_reads (f : Flags) (o s : State) : closeAll f (closingReads o s) = closingReads o (closeAll f s) := by
  have same : byTrigger (closingReads o s) ((closingReads o s).slotsIn .opened) = byTrigger s (s.slotsIn .opened) :=
    byTrigger_congr (s := s) (t := closingReads o s) (fun _ => rfl) _
  unfold closeAll
  rw [same]
  generalize byTrigger s _ = order
  clear same
  induction order generalizing s with
  | nil => rfl
  | cons i rest ih =>
    rw [List.foldl_cons, List.foldl_cons, closeSlot_reads]
    exact ih _

theorem closeSlot_heard (close : Sample) (f : Flags) (i : Fin 8) (b : Bool) (s : State) :
    closeSlot close f i (heard b s) = heard b (closeSlot close f i s) := by
  obtain ⟨t, u, shape⟩ := closeSlot_shape close f i s
  refine (closeSlot_reads close f i (heard b s) s).trans ?_
  rw [shape]
  rfl

theorem closeAll_heard (f : Flags) (b : Bool) (s : State) : closeAll f (heard b s) = heard b (closeAll f s) := by
  obtain ⟨t, u, shape⟩ := closeAll_shape f s
  refine (closeAll_reads f (heard b s) s).trans ?_
  rw [shape]
  rfl

theorem closeAll_chain (f : Flags) (c : Chain) (s : State) :
    closeAll f { s with chain := c } = { closeAll f s with chain := c } := by
  obtain ⟨t, u, shape⟩ := closeAll_shape f s
  refine (closeAll_reads f { s with chain := c } s).trans ?_
  rw [shape]

/-! ## CHAIN HOLD (3.1) -/

/-- Leaving RUN or WARMUP, in the statements' words (R46, R47). -/
theorem leaveFor_eq (st : ChainState) (f : Flags) (s : State) : leaveFor st f s = { closeAll f s with
    det := ⟨offDetector s.det.z, offDetector s.det.h⟩
    chain := { s.chain with st := st, blankEnd := none, pauseEnd := none } } := by
  obtain ⟨t, u, shape⟩ := closeAll_shape f s
  rw [leaveFor, detectorsOff, dropEnds, shape]
  rfl

theorem holdChain_hold {s : State} (hold : s.chain.st = .hold) : holdChain s = s := by
  simp only [holdChain, hold]

theorem holdChain_away {s : State} (away : s.chain.st ≠ .hold) :
    holdChain s = leaveFor .hold { truncated := true } s := by
  unfold holdChain
  split
  next hold => exact absurd hold away
  next => rfl

/-- Settles O11: HOLD stands, or the chain leaves for it. -/
theorem chainHoldStopsTheChain : Obligations.ChainHoldStopsTheChain := by
  intro s r taken
  have row {t : State} (act : holdChain (heard r.protect s) = heard r.protect t) :
      exec (.chainHold r []) s = .next (answered s t r 0x03 .done) :=
    exec_replies_level taken rfl rfl (List.mem_singleton.mpr rfl) (congrArg (·, done) act)
  refine ⟨fun hold => row (holdChain_hold hold), fun away queue => ⟨closeAll { truncated := true } s,
    closeAll_closes s _ queue.2.2.2, row ?_⟩⟩
  rw [holdChain_away (s := heard r.protect s) away, leaveFor_eq, closeAll_heard]
  rfl

/-! ## CHAIN RUN (3.1, 2.5, 2.6) -/

theorem invalidateImport_eq (s : State) :
    invalidateImport s = { s with chain := { s.chain with impSt := importLeft s.chain.impSt } } := by
  unfold invalidateImport
  cases was : s.chain.impSt <;> simp only [importLeft, ← was]

/-- The entry into RUN, in the statements' words (R51). -/
theorem enterRun_state (s : State) : enterRun s = { s with
    det := ⟨entryTested s.active.det.z s.det.z, entryTested s.active.det.h s.det.h⟩
    chain := { s.chain with st := .run } } := by
  rw [← enterRun_eq, ← enterRun_eq]
  rfl

/-- Loaded averages make the entry test with no block begun (R35, R36). -/
theorem entryTested_load (q : DetParams) (d : Detector) (sta lta : Nat) : entryTested q (d.load sta lta) =
    entryTested q { d with sta := sta, lta := lta, blkSum := 0, blkCount := 0 } := rfl

/-- The legal ON threshold is above what averages at the floor reach (9.1, R35). -/
theorem immediate_quiet {p : Profile} (legal : p.legal) (w : Det) (d : Detector) :
    entryTested (p.det.get w) (d.immediate (p.det.get w)) = { d with
      st := .quiet, sta := 256 * (p.det.get w).floor, lta := 256 * (p.det.get w).floor, blkSum := 0, blkCount := 0
      owed := 0, forced := false } := by
  have on : 24 ≤ (p.det.get w).on := (inRange_bounds.mp ((inRange_iff p).mp legal.1 (.on w))).1
  have below : ¬ (p.det.get w).on * max (256 * (p.det.get w).floor) (max (256 * (p.det.get w).floor) 1) ≤
      16 * (256 * (p.det.get w).floor) := by
    have least := Nat.mul_le_mul_right (max (256 * (p.det.get w).floor) (max (256 * (p.det.get w).floor) 1)) on
    omega
  exact congrArg (fun st => ({ d with
    st := st, sta := 256 * (p.det.get w).floor, lta := 256 * (p.det.get w).floor, blkSum := 0, blkCount := 0
    owed := 0, forced := false } : Detector)) (if_neg below)

theorem actRun_range {body : List Byte} (high : 3 ≤ field body 0 1) (eff : Nat) (s : State) :
    actRun body eff s = (s, refuse .range) := if_pos high

theorem actRun_state {body : List Byte} {s : State} (known : field body 0 1 < 3) (away : s.chain.st ≠ .hold) (eff : Nat) :
    actRun body eff s = (s, refuse .state) := (if_neg known.not_ge).trans (if_pos away)

theorem actRun_learn {body : List Byte} {s : State} (mode : field body 0 1 = 0) (hold : s.chain.st = .hold) (eff : Nat) :
    actRun body eff s = runLearn s :=
  (if_neg (by omega)).trans ((if_neg (not_not_intro hold)).trans (if_pos mode))

theorem actRun_restore {body : List Byte} {s : State} (mode : field body 0 1 = 1) (hold : s.chain.st = .hold) (eff : Nat) :
    actRun body eff s = runRestore s :=
  (if_neg (by omega)).trans ((if_neg (not_not_intro hold)).trans ((if_neg (by omega)).trans (if_pos mode)))

theorem actRun_immediate {body : List Byte} {s : State} (mode : field body 0 1 = 2) (hold : s.chain.st = .hold) (eff : Nat) :
    actRun body eff s = runImmediate s :=
  (if_neg (by omega)).trans ((if_neg (not_not_intro hold)).trans ((if_neg (by omega)).trans (if_neg (by omega))))

/-- Settles O12: the refusals, then each mode's set-up. -/
theorem chainRunStartsTheChain : Obligations.ChainRunStartsTheChain := by
  intro s r body taken len mode p sn present floored restored
  have row {c : Instr} {t : State} {st : Status} (request : requestOf c = some (0x04, r, body))
      (act : actRun body (max r.level.toNat s.floor) (heard r.protect s) = (heard r.protect t, ⟨st, false, []⟩)) :
      exec c s = .next (answered s t r 0x04 st) :=
    exec_replies_level taken request rfl (List.mem_singleton.mpr len) act
  refine ⟨fun c rows => ?refusals, fun hold learn => row rfl ?learn, fun hold immediate legal => row rfl ?immediate,
    fun hold restore none' => row rfl ?noSnapshot, fun hold restore valid other => row rfl ?mismatch,
    fun hold restore valid same => row rfl ?restore⟩
  case refusals =>
    have request : requestOf c = some (0x04, r, body) := by
      simp only [List.mem_cons, List.not_mem_nil, or_false] at rows
      rcases rows with rfl | rfl | rfl <;> rfl
    exact ⟨fun high => row request (actRun_range high _ _),
      fun known away => row request (actRun_state (s := heard r.protect s) known away _)⟩
  case learn =>
    rw [actRun_learn (s := heard r.protect s) learn hold, runLearn, invalidateImport_eq]
    rfl
  case immediate =>
    rw [actRun_immediate (s := heard r.protect s) immediate hold, runImmediate, invalidateImport_eq, enterRun_state]
    have z : entryTested p.det.z (s.det.z.immediate p.det.z) = floored p.det.z s.det.z := immediate_quiet legal .z s.det.z
    have h : entryTested p.det.h (s.det.h.immediate p.det.h) = floored p.det.h s.det.h := immediate_quiet legal .h s.det.h
    rw [← z, ← h]
    rfl
  case noSnapshot =>
    rw [actRun_restore (s := heard r.protect s) restore hold]
    unfold runRestore
    split
    next valid => exact absurd valid none'
    next =>
      rw [invalidateImport_eq]
      rfl
  case mismatch =>
    rw [actRun_restore (s := heard r.protect s) restore hold, runRestore, show (heard r.protect s).chain.impSt = .valid from valid]
    exact if_neg other
  case restore =>
    rw [actRun_restore (s := heard r.protect s) restore hold, runRestore, show (heard r.protect s).chain.impSt = .valid from valid]
    refine (if_pos same).trans ?_
    simp only [restored, ← entryTested_load]
    rw [enterRun_state]
    rfl

/-! ## BLANK (3.4) -/

theorem actBlank_run {body : List Byte} {s : State} {n : Sample} (run : s.chain.st = .run) (newest : s.newest = some n)
    (eff : Nat) : actBlank body eff s = if field body 0 2 = 0 then (s, refuse .range)
      else (blankTo (after n (field body 0 2)) s, done) := by
  rw [actBlank, run, newest]

theorem actBlank_away {body : List Byte} {s : State} (away : s.chain.st ≠ .run ∨ s.newest = none) (eff : Nat) :
    actBlank body eff s = (s, refuse .needsRun) := by
  unfold actBlank
  split
  next run newest => exact absurd run (away.resolve_right (by rw [newest]; nofun))
  next => rfl

theorem toBlanked_eq (d : Detector) : d.toBlanked = blankedDetector d := by
  unfold Detector.toBlanked blankedDetector
  cases d.st <;> rfl

/-- Blanking that begins, in the statement's words (R55). -/
theorem blankTo_new {s : State} (unblanked : s.chain.blankEnd = none) (e : Sample) : blankTo e s =
    { closeAll { blanked := true, truncated := true } s with
      det := ⟨blankedDetector s.det.z, blankedDetector s.det.h⟩
      chain := { s.chain with blankEnd := some e } } := by
  rw [← toBlanked_eq, ← toBlanked_eq]
  simp only [blankTo, unblanked, beginBlanking]
  rw [closeAll_chain]
  obtain ⟨t, u, shape⟩ := closeAll_shape { blanked := true, truncated := true } s
  rw [shape]
  rfl

theorem blankTo_extended {s : State} {e : Sample} (blanked : s.chain.blankEnd = some e) (e' : Sample) :
    blankTo e' s = { s with chain := { s.chain with blankEnd := some (later e e') } } := by
  simp only [blankTo, blanked]

/-- Settles O13: the refusals, then the blanking that begins or is extended. -/
theorem blankStartsOrExtendsBlanking : Obligations.BlankStartsOrExtendsBlanking := by
  intro s r body taken len count
  have row {t : State} {st : Status}
      (act : actBlank body (max r.level.toNat s.floor) (heard r.protect s) = (heard r.protect t, ⟨st, false, []⟩)) :
      exec (.blank r body) s = .next (answered s t r 0x05 st) :=
    exec_replies_level taken rfl rfl (List.mem_singleton.mpr len) act
  refine ⟨fun away => row (actBlank_away (s := heard r.protect s) away _), fun run some' zero => row ?_,
    fun n run newest positive => ?_⟩
  · obtain ⟨n, newest⟩ := Option.isSome_iff_exists.mp some'
    exact (actBlank_run (s := heard r.protect s) run newest _).trans (if_pos zero)
  · have blanks := (actBlank_run (s := heard r.protect s) (body := body) run newest
      (max r.level.toNat s.floor)).trans (if_neg (Nat.ne_of_gt positive))
    refine ⟨fun e inForce => row (blanks.trans ?_), fun unblanked queue => ⟨_, closes_congr
      (closeAll_closes s { blanked := true, truncated := true } queue.2.2.2) (fun i _ => ?_) fun _ _ => rfl, row (blanks.trans ?_)⟩⟩
    · rw [blankTo_extended (s := heard r.protect s) inForce]
      rfl
    · rw [newest]
      rfl
    · rw [blankTo_new (s := heard r.protect s) unblanked, closeAll_heard]
      rfl

/-! ## SLOT CLOSE (4.3) -/

theorem actSlotClose_named {body : List Byte} {i : Fin 8} (named : field body 0 1 = i.val) (eff : Nat) (s : State) :
    actSlotClose body eff s = if (s.slot i).st = .opened then hostClose (s.newest.getD (s.slot i).trigger) i s
      else (s, refuse .state) := by
  rw [actSlotClose, named, toFin8_val]

/-- Settles O14: the slot's number and state, then its minimum window. -/
theorem slotCloseClosesOrDefers : Obligations.SlotCloseClosesOrDefers := by
  intro s r body taken len
  have row {t : State} {st : Status} {data : List Byte}
      (act : actSlotClose body (max r.level.toNat s.floor) (heard r.protect s) = (heard r.protect t, ⟨st, false, data⟩)) :
      exec (.slotClose r body) s = .next (replied s t r 0x06 st false data) :=
    exec_replies_level taken rfl rfl (List.mem_singleton.mpr len) act
  refine ⟨fun outside => row ?_, fun i n named => ?_⟩
  · rw [actSlotClose, toFin8_none outside]
    rfl
  intro x
  have slot : (heard r.protect s).slot i = x := rfl
  have closing' (isOpen : x.st = .opened) (newest : s.newest = some n) :
      actSlotClose body (max r.level.toNat s.floor) (heard r.protect s) = hostClose n i (heard r.protect s) := by
    refine (actSlotClose_named named _ _).trans ((if_pos isOpen).trans ?_)
    rw [show (heard r.protect s).newest = some n from newest]
    rfl
  refine ⟨fun notOpen => row ?_, fun isOpen newest early => ?_, fun isOpen newest elapsed queue =>
    ⟨closeSlot n { truncated := x.shortOf n } i s, closeSlot_closes s i n _ queue.2.2.2, row ?_⟩⟩
  · rw [actSlotClose_named named]
    exact if_neg notOpen
  · intro close
    refine row ((closing' isOpen newest).trans ?_)
    exact if_neg (not_le.mpr early)
  · refine (closing' isOpen newest).trans ((if_pos elapsed).trans ?_)
    rw [slot, closeSlot_heard]
    rfl

/-! ## SLOT FORCE (4.6) -/

theorem actSlotForce_run {body : List Byte} {s : State} {n : Sample} (run : s.chain.st = .run) (newest : s.newest = some n)
    (eff : Nat) : actSlotForce body eff s =
      let t : Sample := BitVec.ofNat 32 (field body 0 4)
      if 0 < distance n t then (s, refuse .range)
      else if 0 < distance t (lateBound s.active n) then (s, refuse .late)
      else
        match s.freeSlot? with
        | none => (s, refuse .full)
        | some i => forceSlot t n i s := by
  rw [actSlotForce, run, newest] <;> rfl

theorem actSlotForce_away {body : List Byte} {s : State} (away : s.chain.st ≠ .run ∨ s.newest = none) (eff : Nat) :
    actSlotForce body eff s = (s, refuse .needsRun) := by
  unfold actSlotForce
  dsimp only
  split
  next run newest => exact absurd run (away.resolve_right (by rw [newest]; nofun))
  next => rfl

/-- Settles O15: the checks in their order, then the opening and its close. -/
theorem slotForceOpensAForcedSlot : Obligations.SlotForceOpensAForcedSlot := by
  intro s r body taken len t p
  have row {v : State} {st : Status} {data : List Byte}
      (act : actSlotForce body (max r.level.toNat s.floor) (heard r.protect s) = (heard r.protect v, ⟨st, false, data⟩)) :
      exec (.slotForce r body) s = .next (replied s v r 0x07 st false data) :=
    exec_replies_level taken rfl rfl (List.mem_singleton.mpr len) act
  refine ⟨fun away => row (actSlotForce_away (s := heard r.protect s) away _), fun n run newest => ?_⟩
  intro late
  have checks := actSlotForce_run (s := heard r.protect s) (body := body) run newest (max r.level.toNat s.floor)
  have inTime (past : distance n t ≤ 0) (notLate : distance t late ≤ 0) :=
    checks.trans ((if_neg (not_lt.mpr past)).trans (if_neg (not_lt.mpr notLate)))
  refine ⟨fun ahead => row (checks.trans (if_pos ahead)),
    fun past isLate => row (checks.trans ((if_neg (not_lt.mpr past)).trans (if_pos isLate))),
    fun past notLate full => row ((inTime past notLate).trans ?_), fun i past notLate free lowest => ?_⟩
  · rw [(freeSlot?_eq_none (heard r.protect s)).mpr full]
    rfl
  intro z eff close x o data
  have opens : actSlotForce body (max r.level.toNat s.floor) (heard r.protect s) = forceSlot t n i (heard r.protect s) := by
    refine (inTime past notLate).trans ?_
    rw [(freeSlot?_eq_some (heard r.protect s) i).mpr ⟨free, lowest⟩]
  refine ⟨fun open' => row (opens.trans ?_), fun past' queue => ⟨closeSlot close {} i o, ?_, row (opens.trans ?_)⟩⟩
  · exact congrArg (·, slotReply i close) (if_neg (not_le.mpr open'))
  · exact closeSlot_closes o i close {} queue.2.2.2
  · refine congrArg (·, slotReply i close) ((if_pos past').trans ?_)
    exact closeSlot_heard close {} i r.protect o

end Sys2Proof.Proofs
end

section
/-! PROOFS. What a detector does with a frame (chapter 2, 3.3), and the conversion of a sample number (7.6). -/

namespace Sys2Proof.Proofs

open Sys2Proof.Machine Sys2Proof.Laws

/-! ## Averages and CF values -/

/-- An average that moves toward a target stays a number (R23, R27). -/
theorem approach_cast (old target shift : Nat) :
    (approach old target shift : Int) = (old : Int) + ((target : Int) - old) / (2 ^ shift : Nat) := by
  have pos : (0 : Int) < (2 ^ shift : Nat) := by exact_mod_cast Nat.two_pow_pos shift
  have least : -(old : Int) ≤ ((target : Int) - old) / (2 ^ shift : Nat) := by
    refine Int.le_ediv_of_mul_le pos ?_
    have grows : (old : Int) * 1 ≤ old * (2 ^ shift : Nat) := Int.mul_le_mul_of_nonneg_left pos (Int.natCast_nonneg old)
    have sign : -(old : Int) * (2 ^ shift : Nat) = -((old : Int) * (2 ^ shift : Nat)) := Int.neg_mul _ _
    omega
  unfold approach shr
  omega

/-- A square of a scaled output as a number (R21). -/
theorem toNat_mul_self (x : Int) : (x * x).toNat = x.natAbs ^ 2 := by
  rw [← Int.natAbs_mul_self, Int.toNat_natCast, pow_two]

theorem cfValue_eq (w : Det) (cf : Nat) (y : Trio Int) :
    let u (y : Int) : Nat := (y / (2 ^ cf : Nat)).natAbs
    cfValue w cf y = match w with
      | .z => u y.z ^ 2
      | .h => u y.n ^ 2 + u y.e ^ 2 := by
  cases w with
  | z => exact toNat_mul_self _
  | h =>
    rw [cfValue, Int.toNat_add (mul_self_nonneg _) (mul_self_nonneg _), toNat_mul_self, toNat_mul_self]
    rfl

/-! ## A frame that is held, and one that is processed -/

theorem hold_eq (d : Detector) (last : Bool) : d.hold last =
    { d with blkSum := if last then 0 else d.blkSum, blkCount := if last then 0 else d.blkCount } := by
  cases last <;> rfl

/-- A QUIET detector's averages and block behind the frame (R22, R26). -/
def settledQuiet (p : DetParams) (e : Nat) (last : Bool) (d : Detector) : Detector :=
  if last then ((d.take p.sta e).applyBlock p.lta).endBlock else d.take p.sta e

/-- A TRIGGERED detector's averages, block and owed count behind the frame (R22, R29, R30). -/
def settledTriggered (p : DetParams) (e : Nat) (last : Bool) (d : Detector) : Detector :=
  if last then (d.take p.sta e).settleTriggered p.lta else d.take p.sta e

/-- A WARMING detector behind the frame (R33). -/
def settledWarming (p : DetParams) (e : Nat) (last : Bool) (d : Detector) : Detector :=
  if last then { (d.take p.sta e).endBlock with learn := d.learn + (d.take p.sta e).mean } else d.take p.sta e

theorem quietStep_crosses {p : DetParams} {e : Nat} {last : Bool} {d : Detector}
    (on : onMet p (settledQuiet p e last d) = true) : quietStep p e last d =
      ⟨{ settledQuiet p e last d with st := .triggered, owed := 0, forced := false },
        ratioOf p (settledQuiet p e last d), effLta p (settledQuiet p e last d), true, false⟩ := if_pos on

theorem quietStep_stays {p : DetParams} {e : Nat} {last : Bool} {d : Detector}
    (below : onMet p (settledQuiet p e last d) = false) : quietStep p e last d = plainOut p (settledQuiet p e last d) :=
  if_neg (Bool.eq_false_iff.mp below)

/-- What a TRIGGERED detector's frame leaves (R53). -/
theorem triggeredStep_eq (p : DetParams) (e : Nat) (last : Bool) (d : Detector) : triggeredStep p e last d =
    { plainOut p (if offMet p (settledTriggered p e last d) then
        { settledTriggered p e last d with st := .quiet, owed := 0, forced := false } else settledTriggered p e last d) with
      forcedNow := last && !d.forced && !decide (d.owed < 8) } := rfl

section Steps

variable {w : Det} {prof : Profile} {paused : Bool} {f : Conditioned} {d : Detector}

theorem detStep_off (st : d.st = .off) : detStep w prof paused f d = plainOut (prof.det.get w) d := by
  simp only [detStep, st]

theorem detStep_blanked (st : d.st = .blanked) :
    detStep w prof paused f d = plainOut (prof.det.get w) (d.hold (isBlockEnd prof.blk f.n)) := by
  simp only [detStep, st]

theorem detStep_warming (st : d.st = .warming) : detStep w prof paused f d =
    if paused || f.recentre then plainOut (prof.det.get w) (d.hold (isBlockEnd prof.blk f.n))
    else plainOut (prof.det.get w) (settledWarming (prof.det.get w) (cfValue w prof.cf f.d) (isBlockEnd prof.blk f.n) d) := by
  simp only [detStep, st]
  rfl

theorem detStep_quiet_flagged (st : d.st = .quiet) (flag : f.recentre = true) : detStep w prof paused f d =
    plainOut (prof.det.get w) (Detector.hold { d with st := .blanked } (isBlockEnd prof.blk f.n)) := by
  simp only [detStep, st, flag, if_true, Detector.toBlanked]

theorem detStep_quiet (st : d.st = .quiet) (flag : f.recentre = false) : detStep w prof paused f d =
    quietStep (prof.det.get w) (cfValue w prof.cf f.d) (isBlockEnd prof.blk f.n) d := by
  simp only [detStep, st, flag, Bool.false_eq_true, if_false]

theorem detStep_triggered_flagged (st : d.st = .triggered) (flag : f.recentre = true) : detStep w prof paused f d =
    plainOut (prof.det.get w)
      (Detector.hold { d with st := .blanked, owed := 0, forced := false } (isBlockEnd prof.blk f.n)) := by
  simp only [detStep, st, flag, if_true, Detector.toBlanked, Detector.clearOwed]

theorem detStep_triggered (st : d.st = .triggered) (flag : f.recentre = false) : detStep w prof paused f d =
    triggeredStep (prof.det.get w) (cfValue w prof.cf f.d) (isBlockEnd prof.blk f.n) d := by
  simp only [detStep, st, flag, Bool.false_eq_true, if_false]

/-- The report is formed from the detector as the frame leaves it (R24). -/
theorem detStep_report : (detStep w prof paused f d).eff = effLta (prof.det.get w) (detStep w prof paused f d).det ∧
    (detStep w prof paused f d).ratio = ratioOf (prof.det.get w) (detStep w prof paused f d).det := by
  cases st : d.st with
  | off => rw [detStep_off st]; exact ⟨rfl, rfl⟩
  | blanked => rw [detStep_blanked st]; exact ⟨rfl, rfl⟩
  | warming =>
    rw [detStep_warming st]
    split <;> exact ⟨rfl, rfl⟩
  | quiet =>
    cases flag : f.recentre with
    | true => rw [detStep_quiet_flagged st flag]; exact ⟨rfl, rfl⟩
    | false =>
      rw [detStep_quiet st flag]
      cases on : onMet (prof.det.get w) (settledQuiet _ _ _ d) with
      | true => rw [quietStep_crosses on]; exact ⟨rfl, rfl⟩
      | false => rw [quietStep_stays on]; exact ⟨rfl, rfl⟩
  | triggered =>
    cases flag : f.recentre with
    | true => rw [detStep_triggered_flagged st flag]; exact ⟨rfl, rfl⟩
    | false => rw [detStep_triggered st flag]; exact ⟨rfl, rfl⟩

/-- Only a QUIET detector's processed frame is a crossing, and only a TRIGGERED one's forces the baseline (R30, R52). -/
theorem detStep_marks :
    ((detStep w prof paused f d).crossed = true → d.st = .quiet ∧ f.recentre = false) ∧
    ((detStep w prof paused f d).forcedNow = true →
      d.st = .triggered ∧ f.recentre = false ∧ isBlockEnd prof.blk f.n = true ∧ d.forced = false) := by
  cases st : d.st with
  | off => rw [detStep_off st]; exact ⟨nofun, nofun⟩
  | blanked => rw [detStep_blanked st]; exact ⟨nofun, nofun⟩
  | warming =>
    rw [detStep_warming st]
    split <;> exact ⟨nofun, nofun⟩
  | quiet =>
    cases flag : f.recentre with
    | true => rw [detStep_quiet_flagged st flag]; exact ⟨nofun, nofun⟩
    | false =>
      rw [detStep_quiet st flag]
      refine ⟨fun _ => ⟨rfl, rfl⟩, ?_⟩
      cases on : onMet (prof.det.get w) (settledQuiet _ _ _ d) with
      | true => rw [quietStep_crosses on]; exact nofun
      | false => rw [quietStep_stays on]; exact nofun
  | triggered =>
    cases flag : f.recentre with
    | true => rw [detStep_triggered_flagged st flag]; exact ⟨nofun, nofun⟩
    | false =>
      rw [detStep_triggered st flag, triggeredStep_eq]
      refine ⟨nofun, fun forced => ?_⟩
      simp only [Bool.and_eq_true, Bool.not_eq_true'] at forced
      exact ⟨rfl, rfl, forced.1.1, forced.1.2⟩

end Steps

/-! ## The settled averages and blocks -/

theorem settledQuiet_fields (p : DetParams) (e : Nat) (last : Bool) (d : Detector) :
    let t := settledQuiet p e last d
    (t.sta : Int) = (d.sta : Int) + ((256 * e : Nat) - d.sta) / (2 ^ p.sta : Nat) ∧
    (last = true → (t.lta : Int) = (d.lta : Int) +
      ((256 * ((d.blkSum + e) / (d.blkCount + 1)) : Nat) - d.lta) / (2 ^ p.lta : Nat) ∧ t.blkSum = 0 ∧ t.blkCount = 0) ∧
    (last = false → t.lta = d.lta ∧ t.blkSum = d.blkSum + e ∧ t.blkCount = d.blkCount + 1) ∧
    t.st = d.st ∧ t.owed = d.owed ∧ t.forced = d.forced ∧ t.learn = d.learn ∧ t.pendLost = d.pendLost := by
  cases last with
  | true => exact ⟨approach_cast _ _ _, fun _ => ⟨approach_cast _ _ _, rfl, rfl⟩, nofun, rfl, rfl, rfl, rfl, rfl⟩
  | false => exact ⟨approach_cast _ _ _, nofun, fun _ => ⟨rfl, rfl, rfl⟩, rfl, rfl, rfl, rfl, rfl⟩

theorem settledTriggered_fields (p : DetParams) (e : Nat) (last : Bool) (d : Detector) :
    let t := settledTriggered p e last d
    let moved := (d.lta : Int) + ((256 * ((d.blkSum + e) / (d.blkCount + 1)) : Nat) - d.lta) / (2 ^ p.lta : Nat)
    (t.sta : Int) = (d.sta : Int) + ((256 * e : Nat) - d.sta) / (2 ^ p.sta : Nat) ∧
    (last = true → t.blkSum = 0 ∧ t.blkCount = 0) ∧
    (last = false → t.lta = d.lta ∧ t.blkSum = d.blkSum + e ∧ t.blkCount = d.blkCount + 1 ∧ t.owed = d.owed ∧
      t.forced = d.forced) ∧
    (last = true → d.forced = true → (t.lta : Int) = moved ∧ t.owed = d.owed ∧ t.forced = true) ∧
    (last = true → d.forced = false → d.owed < 8 → t.lta = d.lta ∧ t.owed = d.owed + 1 ∧ t.forced = false) ∧
    (last = true → d.forced = false → d.owed = 8 → (t.lta : Int) = moved ∧ t.owed = 8 ∧ t.forced = true) ∧
    t.st = d.st ∧ t.learn = d.learn ∧ t.pendLost = d.pendLost := by
  intro t moved
  cases last with
  | false => exact ⟨approach_cast _ _ _, nofun, fun _ => ⟨rfl, rfl, rfl, rfl, rfl⟩, nofun, nofun, nofun, rfl, rfl, rfl⟩
  | true =>
    cases mark : d.forced with
    | true =>
      have is : t = ((d.take p.sta e).applyBlock p.lta).endBlock := if_pos mark
      rw [is]
      exact ⟨approach_cast _ _ _, fun _ => ⟨rfl, rfl⟩, nofun, fun _ _ => ⟨approach_cast _ _ _, rfl, mark⟩, nofun, nofun,
        rfl, rfl, rfl⟩
    | false =>
      have unmarked : ¬ (d.take p.sta e).forced = true := Bool.eq_false_iff.mp mark
      by_cases few : d.owed < 8
      · have is : t = { (d.take p.sta e).endBlock with owed := d.owed + 1 } := (if_neg unmarked).trans (if_pos few)
        rw [is]
        exact ⟨approach_cast _ _ _, fun _ => ⟨rfl, rfl⟩, nofun, nofun, fun _ _ _ => ⟨rfl, rfl, mark⟩,
          fun _ _ full => absurd few (by omega), rfl, rfl, rfl⟩
      · have is : t = { ((d.take p.sta e).applyBlock p.lta).endBlock with forced := true } :=
          (if_neg unmarked).trans (if_neg few)
        rw [is]
        exact ⟨approach_cast _ _ _, fun _ => ⟨rfl, rfl⟩, nofun, nofun, fun _ _ few' => absurd few' few,
          fun _ _ full => ⟨approach_cast _ _ _, full, rfl⟩, rfl, rfl, rfl⟩

/-- What a TRIGGERED detector's processed frame leaves: the settled detector, in TRIGGERED or, below the OFF condition, in
QUIET with nothing owed (R28, R53). -/
theorem triggeredStep_det {p : DetParams} {e : Nat} {last : Bool} {d : Detector} (st : d.st = .triggered) :
    let t := settledTriggered p e last d
    let out := (triggeredStep p e last d).det
    out.sta = t.sta ∧ out.lta = t.lta ∧ out.blkSum = t.blkSum ∧ out.blkCount = t.blkCount ∧ out.learn = t.learn ∧
    out.pendLost = t.pendLost ∧
    (16 * t.sta < p.off * effLta p t → out.st = .quiet ∧ out.owed = 0 ∧ out.forced = false) ∧
    (p.off * effLta p t ≤ 16 * t.sta → out.st = .triggered ∧ out = t) := by
  intro t out
  have state : t.st = .triggered := (settledTriggered_fields p e last d).2.2.2.2.2.2.1.trans st
  by_cases off : 16 * t.sta < p.off * effLta p t
  · have is : out = { t with st := .quiet, owed := 0, forced := false } := if_pos (decide_eq_true off)
    rw [is]
    exact ⟨rfl, rfl, rfl, rfl, rfl, rfl, fun _ => ⟨rfl, rfl, rfl⟩, fun above => absurd off (not_lt.mpr above)⟩
  · have is : out = t := if_neg (Bool.eq_false_iff.mp (decide_eq_false off))
    rw [is]
    exact ⟨rfl, rfl, rfl, rfl, rfl, rfl, fun below => absurd below off, fun _ => ⟨state, rfl⟩⟩

/-- What a QUIET detector's processed frame leaves: the settled detector, in QUIET or, from the ON condition on, in
TRIGGERED with nothing owed (R28, R52). -/
theorem quietStep_det {p : DetParams} {e : Nat} {last : Bool} {d : Detector} (st : d.st = .quiet) :
    let t := settledQuiet p e last d
    let out := quietStep p e last d
    out.det.sta = t.sta ∧ out.det.lta = t.lta ∧ out.det.blkSum = t.blkSum ∧ out.det.blkCount = t.blkCount ∧
    out.det.learn = t.learn ∧ out.det.pendLost = t.pendLost ∧
    (p.on * effLta p t ≤ 16 * t.sta → out.crossed = true ∧ out.det.st = .triggered ∧ out.det.owed = 0 ∧
      out.det.forced = false) ∧
    (16 * t.sta < p.on * effLta p t → out.crossed = false ∧ out.det.st = .quiet ∧ out.det.owed = d.owed ∧
      out.det.forced = d.forced) := by
  intro t out
  obtain ⟨-, -, -, state, owed, forced, -⟩ := settledQuiet_fields p e last d
  by_cases on : p.on * effLta p t ≤ 16 * t.sta
  · have is : out = _ := quietStep_crosses (decide_eq_true on)
    rw [is]
    exact ⟨rfl, rfl, rfl, rfl, rfl, rfl, fun _ => ⟨rfl, rfl, rfl, rfl⟩, fun below => absurd on (not_le.mpr below)⟩
  · have is : out = plainOut p t := quietStep_stays (decide_eq_false on)
    rw [is]
    exact ⟨rfl, rfl, rfl, rfl, rfl, rfl, fun above => absurd above on,
      fun _ => ⟨rfl, state.trans st, owed, forced⟩⟩

/-- Settles O44: by the detector's state, each clause from the settled averages and the state's own test. -/
theorem detectorsProcessFrames : Obligations.DetectorsProcessFrames := by
  intro w prof paused f d p out u e last mean moved held floored
  have value : cfValue w prof.cf f.d = e := cfValue_eq w prof.cf f.d
  have ends : isBlockEnd prof.blk f.n = decide last := by
    rw [Bool.eq_iff_iff, isBlockEnd_iff, decide_eq_true_iff]
  have holds (d' : Detector) : d'.hold (decide last) = { d' with
      blkSum := if last then 0 else d'.blkSum, blkCount := if last then 0 else d'.blkCount } := by
    rw [hold_eq]
    simp only [decide_eq_true_eq]
  obtain ⟨eff, ratio⟩ := detStep_report (w := w) (prof := prof) (paused := paused) (f := f) (d := d)
  obtain ⟨crossed, forced⟩ := detStep_marks (w := w) (prof := prof) (paused := paused) (f := f) (d := d)
  refine ⟨eff, ratio, crossed, fun is => ?_, fun st => ?_, fun st => ?_, fun st flagged => ?_, fun st flag => ?_,
    fun st flag => ?_, fun st run flag => ?_, fun st flag => ?_, fun st flag => ?_, fun st flag => ?_⟩
  · obtain ⟨st, flag, last', unmarked⟩ := forced is
    exact ⟨st, flag, (isBlockEnd_iff _ _).mp last', unmarked⟩
  · exact congrArg DetOut.det (detStep_off st)
  · refine (congrArg DetOut.det (detStep_blanked st)).trans ?_
    rw [ends]
    exact holds d
  · have both : (paused || f.recentre) = true := by simpa using flagged
    refine (congrArg DetOut.det ((detStep_warming st).trans (if_pos both))).trans ?_
    rw [ends]
    exact holds d
  · refine (congrArg DetOut.det (detStep_quiet_flagged st flag)).trans ?_
    rw [ends]
    exact holds _
  · refine (congrArg DetOut.det (detStep_triggered_flagged st flag)).trans ?_
    rw [ends]
    exact holds _
  · have quiet : ¬ (paused || f.recentre) = true := by simp [run, flag]
    have is : out.det = settledWarming p e (decide last) d := by
      refine (congrArg DetOut.det ((detStep_warming st).trans (if_neg quiet))).trans ?_
      rw [ends, value]
      rfl
    rw [is]
    refine ⟨?_, ?_⟩
    · unfold settledWarming
      split <;> exact approach_cast _ _ _
    · by_cases ends' : last
      · simp only [settledWarming, ends', decide_true, if_true]
        rfl
      · simp only [settledWarming, ends', decide_false, Bool.false_eq_true, if_false]
        rfl
  · rcases st with st | st
    · have is : out = quietStep p e (decide last) d := ends ▸ value ▸ detStep_quiet st flag
      obtain ⟨sta, lta, sum, count, learn, lost, -⟩ := quietStep_det (p := p) (e := e) (last := decide last) st
      obtain ⟨sta', endsBlock, goesOn, -, -, -, learn', lost'⟩ := settledQuiet_fields p e (decide last) d
      rw [is, sta, lta, sum, count, learn, lost]
      exact ⟨sta', lost', learn', fun h => goesOn (decide_eq_false h), fun h => (endsBlock (decide_eq_true h)).2⟩
    · have is : out = triggeredStep p e (decide last) d := ends ▸ value ▸ detStep_triggered st flag
      obtain ⟨sta, lta, sum, count, learn, lost, -⟩ := triggeredStep_det (p := p) (e := e) (last := decide last) st
      obtain ⟨sta', endsBlock, goesOn, -, -, -, -, learn', lost'⟩ := settledTriggered_fields p e (decide last) d
      rw [is, sta, lta, sum, count, learn, lost]
      refine ⟨sta', lost', learn', fun h => ?_, fun h => endsBlock (decide_eq_true h)⟩
      obtain ⟨lta, sum, count, -⟩ := goesOn (decide_eq_false h)
      exact ⟨lta, sum, count⟩
  · have is : out = quietStep p e (decide last) d := ends ▸ value ▸ detStep_quiet st flag
    obtain ⟨sta, lta, -, -, -, -, above, below⟩ := quietStep_det (p := p) (e := e) (last := decide last) st
    obtain ⟨-, endsBlock, -⟩ := settledQuiet_fields p e (decide last) d
    have floored' : floored = effLta p (settledQuiet p e (decide last) d) := by
      simp only [floored, is, lta, effLta]
    rw [floored', is, sta, lta]
    exact ⟨fun h => (endsBlock (decide_eq_true h)).1, above, below⟩
  · have is : out = triggeredStep p e (decide last) d := ends ▸ value ▸ detStep_triggered st flag
    obtain ⟨sta, lta, -, -, -, -, below, above⟩ := triggeredStep_det (p := p) (e := e) (last := decide last) st
    obtain ⟨-, -, goesOn, marked, few, ninth, -⟩ := settledTriggered_fields p e (decide last) d
    have floored' : floored = effLta p (settledTriggered p e (decide last) d) := by
      simp only [floored, is, lta, effLta]
    have stays (st' : (triggeredStep p e (decide last) d).det.st = .triggered) :
        (triggeredStep p e (decide last) d).det = settledTriggered p e (decide last) d := by
      refine (above (not_lt.mp fun off => ?_)).2
      rw [(below off).1] at st'
      cases st'
    have forces : (triggeredStep p e (decide last) d).forcedNow =
        (decide last && !d.forced && !decide (d.owed < 8)) := rfl
    rw [floored', is, sta, lta, forces]
    refine ⟨fun h => ⟨by simp [h], fun st' => ?_⟩, fun h unmarked few' => ⟨?_, by simp [few'], fun st' => ?_⟩,
      fun h unmarked full => ⟨?_, by simp [h, unmarked, full], fun st' => ?_⟩,
      fun h mark => ⟨?_, by simp [mark], fun st' => ?_⟩, below, fun h => (above h).1⟩
    · rw [stays st']
      exact (goesOn (decide_eq_false h)).2.2.2
    · exact (few (decide_eq_true h) unmarked few').1
    · rw [stays st']
      exact (few (decide_eq_true h) unmarked few').2
    · exact (ninth (decide_eq_true h) unmarked full).1
    · rw [stays st']
      exact (ninth (decide_eq_true h) unmarked full).2
    · exact (marked (decide_eq_true h) mark).1
    · rw [stays st']
      exact (marked (decide_eq_true h) mark).2

/-! ## The conversion of a sample number (7.6) -/

/-- Settles O43: floor division by a million splits the time into seconds and µs, which the label's numbering wraps. -/
theorem conversionIsExact : Obligations.ConversionIsExact := by
  intro s n
  refine ⟨fun never => ?_, fun sp delta label set' capture => ?_⟩
  · simp only [convertTime, never]
  · intro period offset
    have rounded : roundHalfUp delta 10 = (delta + 5) / 10 := by
      unfold roundHalfUp
      omega
    have plain : offset = distance sp n * periodUs s.settings.station.rate - roundHalfUp delta 10
        - s.settings.station.gd := by
      rw [rounded]
      rfl
    have is : convertTime s n =
        ((((label : Int) + offset / 1000000) % (2 ^ 40 : Nat)).toNat, (offset % 1000000).toNat) := by
      unfold convertTime
      rw [capture, plain]
      cases st : s.time.st with
      | neverSet => exact absurd st set'
      | locked => rfl
      | holdover => rfl
      | unlocked => rfl
    rw [is]
    dsimp only
    refine ⟨by omega, by omega, ((label : Int) + offset / 1000000) / (2 ^ 40 : Nat), by omega⟩

end Sys2Proof.Proofs
end

section
/-! PROOFS. Association (chapter 6) and admission (8.2): the scans for the best entry and the oldest item, and the two
admission rows. -/

namespace Sys2Proof.Proofs

open Sys2Proof.Machine Sys2Proof.Laws

/-! ## A scan that keeps the best so far -/

/-- The scan of a list that keeps, of two items, the preferred one, and the earlier where neither is. -/
def scan {α : Type} (prefer : α → α → Bool) (l : List α) : Option α :=
  l.foldl (fun best x => match best with
    | none => some x
    | some y => if prefer y x then some x else some y) none

theorem scan_eq_none {α : Type} (prefer : α → α → Bool) (l : List α) : scan prefer l = none ↔ l = [] := by
  refine ⟨fun none' => by_contra fun some' => ?_, fun empty => by rw [empty]; rfl⟩
  have found := foldl_isSome_of_ne_nil (f := fun best x => match best with
    | none => some x
    | some y => if prefer y x then some x else some y) (fun best x => ?_) some' none
  · exact absurd none' (Option.isSome_iff_ne_none.mp found)
  · cases best with
    | none => rfl
    | some y => dsimp only; split <;> rfl

/-- What the rest of a scan makes of the best so far, where preference follows a rank. -/
theorem scan_rest {α β : Type} [LinearOrder β] {prefer : α → α → Bool} (rank : α → β) (l : List α) : ∀ {j k : α},
    (∀ a ∈ j :: l, ∀ b ∈ j :: l, prefer a b = true ↔ rank a < rank b) →
    l.foldl (fun best x => match best with
      | none => some x
      | some y => if prefer y x then some x else some y) (some j) = some k →
    k ∈ j :: l ∧ ∀ x ∈ j :: l, rank x ≤ rank k := by
  induction l with
  | nil =>
    rintro j k - ⟨⟩
    exact ⟨List.mem_cons_self, fun x mem => (List.mem_singleton.mp mem ▸ le_rfl)⟩
  | cons i rest ih =>
    intro j k ranked result
    have step : prefer j i = true ↔ rank j < rank i :=
      ranked j List.mem_cons_self i (List.mem_cons_of_mem j List.mem_cons_self)
    rw [List.foldl_cons] at result
    dsimp only at result
    by_cases better : prefer j i = true
    · rw [if_pos better] at result
      obtain ⟨mem, best⟩ := ih (fun a ma b mb => ranked a (List.mem_cons_of_mem j ma) b (List.mem_cons_of_mem j mb)) result
      refine ⟨List.mem_cons_of_mem j mem, fun x mx => ?_⟩
      rcases List.mem_cons.mp mx with rfl | later'
      · exact (step.mp better).le.trans (best i List.mem_cons_self)
      · exact best x later'
    · rw [if_neg better] at result
      have sub {a : α} (ma : a ∈ j :: rest) : a ∈ j :: i :: rest := by
        rcases List.mem_cons.mp ma with rfl | later'
        · exact List.mem_cons_self
        · exact List.mem_cons_of_mem j (List.mem_cons_of_mem i later')
      obtain ⟨mem, best⟩ := ih (fun a ma b mb => ranked a (sub ma) b (sub mb)) result
      refine ⟨sub mem, fun x mx => ?_⟩
      rcases List.mem_cons.mp mx with rfl | mx
      · exact best x List.mem_cons_self
      · rcases List.mem_cons.mp mx with rfl | mx
        · exact (not_lt.mp (mt step.mpr better)).trans (best j List.mem_cons_self)
        · exact best x (List.mem_cons_of_mem j mx)

/-- Where preference follows a rank the scan finds an item of the greatest rank. -/
theorem scan_greatest {α β : Type} [LinearOrder β] {prefer : α → α → Bool} (rank : α → β) {l : List α}
    (ranked : ∀ a ∈ l, ∀ b ∈ l, prefer a b = true ↔ rank a < rank b) {k : α} (found : scan prefer l = some k) :
    k ∈ l ∧ ∀ x ∈ l, rank x ≤ rank k := by
  cases l with
  | nil => cases found
  | cons j rest => exact scan_rest rank rest ranked found

theorem bestOf_eq_scan (s : State) (prefer : Entry → Entry → Bool) (is : List (Fin 8)) :
    bestOf s prefer is = scan (fun j i => prefer s.assoc.entries[j] s.assoc.entries[i]) is := by
  unfold bestOf scan
  congr 1
  funext best i
  cases best <;> rfl

theorem oldestWaiting_eq_scan (s : State) :
    s.oldestWaiting = (scan (fun y x => olderDate y.1 x.1) s.waitingItems).map (·.2) := by
  unfold State.oldestWaiting scan
  congr 2
  funext best x
  cases best <;> rfl

/-! ## Numbers within half of their numbering -/

theorem distance_lt (a b : BitVec 32) : -(2 ^ 31) ≤ distance a b ∧ distance a b < 2 ^ 31 :=
  ⟨BitVec.le_toInt _, BitVec.toInt_lt⟩

/-- Numbers that do not lie before a base are ordered by their distances from it. -/
theorem distance_of_base {base a b : BitVec 32} (ha : 0 ≤ distance base a) (hb : 0 ≤ distance base b) :
    distance a b = distance base b - distance base a := by
  have below (x : BitVec 32) := (distance_lt base x).2
  have hA := below a
  have hB := below b
  have gap : b - a = (b - base) - (a - base) := by bv_omega
  unfold distance at *
  rw [gap, BitVec.toInt_sub]
  exact Int.bmod_eq_of_le (by omega) (by omega)

theorem eq_of_distance_eq {a b q : BitVec 32} (same : distance a q = distance b q) : a = b := by
  have gap : q - a = q - b := BitVec.eq_of_toInt_eq same
  bv_omega

theorem eq_of_distance_eq_base {base a b : BitVec 32} (same : distance base a = distance base b) : a = b := by
  have gap : a - base = b - base := BitVec.eq_of_toInt_eq same
  bv_omega

/-! ## Association (6.2) -/

theorem seeks_iff (p : PickRecord) : p.seeks = true ↔ p.call = .s ∨ (p.call = .unknown ∧ p.cls = .h) := by
  simp only [PickRecord.seeks, Bool.or_eq_true, Bool.and_eq_true, beq_iff_eq]

theorem completes_eq (s : State) (p : PickRecord) : s.completes p =
    if p.call = .s ∨ (p.call = .unknown ∧ p.cls = .h) then s.candidate p.onset else none := by
  rw [State.completes]
  exact if_congr (seeks_iff p) rfl rfl

theorem candidate_iff (e : Entry) (q : Sample) : e.candidate q = true ↔
    e.opened = true ∧ (e.smin : Int) ≤ distance e.pOnset q ∧ distance e.pOnset q ≤ e.smax := by
  simp only [Entry.candidate, Bool.and_eq_true, decide_eq_true_eq, and_assoc]

/-- The later P onset ranks higher, then the later creation (R103). -/
def candidateRank (s : State) (q : Sample) (base : BitVec 32) (i : Fin 8) : Lex (Int × Int) :=
  toLex (-distance s.assoc.entries[i].pOnset q, distance base s.assoc.entries[i].created)

theorem preferred_iff_rank {s : State} {q : Sample} {base : BitVec 32} {i j : Fin 8}
    (hi : 0 ≤ distance base s.assoc.entries[i].created) (hj : 0 ≤ distance base s.assoc.entries[j].created) :
    Entry.preferred q s.assoc.entries[i] s.assoc.entries[j] = true ↔ candidateRank s q base i < candidateRank s q base j := by
  rw [candidateRank, candidateRank, Prod.Lex.toLex_lt_toLex]
  simp only [Entry.preferred, Bool.or_eq_true, Bool.and_eq_true, decide_eq_true_eq, beq_iff_eq, distance_of_base hi hj]
  omega

/-- Settles O46: the scan for the best candidate. -/
theorem associationTakesTheLatestP : Obligations.AssociationTakesTheLatestP := by
  intro s q base recent fits
  have listed (i : Fin 8) : (i ∈ eight.filter fun i => s.assoc.entries[i].candidate q) ↔ fits i := by
    rw [List.mem_filter, candidate_iff]
    exact ⟨fun h => h.2, fun h => ⟨mem_eight i, h⟩⟩
  refine ⟨fun p onset => ⟨fun seeks => ?_, fun not' => ?_⟩, ?_, fun j found => ?_⟩
  · rw [completes_eq, if_pos seeks, onset]
  · rw [completes_eq, if_neg not']
  · rw [State.candidate, bestOf_eq_scan, scan_eq_none, List.eq_nil_iff_forall_not_mem]
    exact forall_congr' fun i => not_congr (listed i)
  · rw [State.candidate, bestOf_eq_scan] at found
    have old {i : Fin 8} (mem : i ∈ eight.filter fun i => s.assoc.entries[i].candidate q) :
        0 ≤ distance base s.assoc.entries[i].created := (recent i ((listed i).mp mem).1).1
    obtain ⟨mem, best⟩ := scan_greatest (candidateRank s q base)
      (fun a ma b mb => preferred_iff_rank (old ma) (old mb)) found
    refine ⟨(listed j).mp mem, fun i fit => ?_⟩
    have le := best i ((listed i).mpr fit)
    have created := distance_of_base (old mem) (old ((listed i).mpr fit))
    rw [candidateRank, candidateRank, Prod.Lex.toLex_le_toLex] at le
    rcases le with later' | ⟨same, order⟩
    · exact .inl (by simpa using later')
    · exact .inr ⟨eq_of_distance_eq (neg_inj.mp same), by rw [created]; exact sub_nonpos.mpr order⟩

/-! ## The entry of a new P (6.1) -/

/-- The older P onset ranks higher, then the older creation (R102). -/
def evictionRank (s : State) (base : Sample) (origin : BitVec 32) (i : Fin 8) : Lex (Int × Int) :=
  toLex (-distance base s.assoc.entries[i].pOnset, -distance origin s.assoc.entries[i].created)

theorem entryForP_free {s : State} {i : Fin 8} (free : s.assoc.entries[i].opened = false)
    (lowest : ∀ j : Fin 8, j < i → s.assoc.entries[j].opened = true) : s.entryForP = i := by
  have first : (eight.find? fun i => !s.assoc.entries[i].opened) = some i := by
    rw [find?_eight, Fin.find?_eq_some_iff]
    exact ⟨by rw [free]; rfl, fun j before => by rw [lowest j before]; rfl⟩
  rw [State.entryForP, first]

theorem older_iff_rank {s : State} {base : Sample} {origin : BitVec 32} {i j : Fin 8}
    (hi : 0 ≤ distance base s.assoc.entries[i].pOnset ∧ 0 ≤ distance origin s.assoc.entries[i].created)
    (hj : 0 ≤ distance base s.assoc.entries[j].pOnset ∧ 0 ≤ distance origin s.assoc.entries[j].created) :
    Entry.older s.assoc.entries[j] s.assoc.entries[i] = true ↔ evictionRank s base origin j < evictionRank s base origin i := by
  have same : s.assoc.entries[i].pOnset = s.assoc.entries[j].pOnset ↔
      distance base s.assoc.entries[i].pOnset = distance base s.assoc.entries[j].pOnset :=
    ⟨fun h => by rw [h], eq_of_distance_eq_base⟩
  rw [evictionRank, evictionRank, Prod.Lex.toLex_lt_toLex]
  simp only [Entry.older, Bool.or_eq_true, Bool.and_eq_true, decide_eq_true_eq, beq_iff_eq, same,
    distance_of_base hi.1 hj.1, distance_of_base hi.2 hj.2]
  omega

/-- Of a table with none FREE a P takes an entry of the greatest rank (R102). -/
theorem entryForP_evicts {s : State} {base : Sample} {origin : BitVec 32}
    (full : ∀ i : Fin 8, s.assoc.entries[i].opened = true)
    (recent : ∀ i : Fin 8, 0 ≤ distance base s.assoc.entries[i].pOnset ∧ 0 ≤ distance origin s.assoc.entries[i].created)
    (i : Fin 8) : evictionRank s base origin i ≤ evictionRank s base origin s.entryForP := by
  have noneFree : (eight.find? fun i => !s.assoc.entries[i].opened) = none := by
    rw [find?_eight, Fin.find?_eq_none_iff]
    exact fun j => by rw [full j]; rfl
  obtain ⟨k, found⟩ : ∃ k, bestOf s Entry.older eight = some k := by
    rw [← Option.ne_none_iff_exists', bestOf_eq_scan, Ne, scan_eq_none]
    exact List.ne_nil_of_mem (mem_eight 0)
  have taken : s.entryForP = k := by rw [State.entryForP, noneFree, found]; rfl
  rw [bestOf_eq_scan] at found
  rw [taken]
  exact (scan_greatest (evictionRank s base origin) (fun a _ b _ => older_iff_rank (recent b) (recent a)) found).2 i
    (mem_eight i)

/-! ## The oldest waiting item (8.1) -/

theorem mem_waitingItems_pick (s : State) (d : BitVec 32) (i : Fin 8) : (d, Waiting.pick i) ∈ s.waitingItems ↔
    (s.slot i).st = .done ∧ (s.slot i).order = some d := by
  rw [State.waitingItems, List.mem_append, List.mem_filterMap, List.mem_filterMap]
  constructor
  · rintro (⟨j, -, item⟩ | ⟨k, -, item⟩)
    · split at item
      next done =>
        obtain ⟨y, order, same⟩ := Option.map_eq_some_iff.mp item
        cases same
        exact ⟨done, order⟩
      next => cases item
    · obtain ⟨p, -, same⟩ := Option.map_eq_some_iff.mp item
      cases same
  · rintro ⟨done, order⟩
    exact .inl ⟨i, mem_eight i, by rw [if_pos done, order]; rfl⟩

theorem mem_waitingItems_notice (s : State) (d : BitVec 32) (k : Fin 8) : (d, Waiting.notice k) ∈ s.waitingItems ↔
    s.reports.notices[k].map (fun p => p.date) = some d := by
  rw [State.waitingItems, List.mem_append, List.mem_filterMap, List.mem_filterMap]
  constructor
  · rintro (⟨j, -, item⟩ | ⟨k, -, item⟩)
    · split at item
      next =>
        obtain ⟨y, -, same⟩ := Option.map_eq_some_iff.mp item
        cases same
      next => cases item
    · obtain ⟨p, pending, same⟩ := Option.map_eq_some_iff.mp item
      cases same
      rw [pending]
      rfl
  · intro pending
    obtain ⟨p, held, rfl⟩ := Option.map_eq_some_iff.mp pending
    exact .inr ⟨k, mem_eight k, by rw [held]; rfl⟩

theorem oldestWaiting_eq_none (s : State) : s.oldestWaiting = none ↔ s.waitingItems = [] := by
  rw [oldestWaiting_eq_scan, Option.map_eq_none_iff, scan_eq_none]

/-- Where no date lies before a base, the oldest waiting item is of the oldest date (R127). -/
theorem oldestWaiting_oldest {s : State} {base : BitVec 32} {w : Waiting}
    (recent : ∀ x ∈ s.waitingItems, 0 ≤ distance base x.1) (oldest : s.oldestWaiting = some w) :
    ∃ d, (d, w) ∈ s.waitingItems ∧ ∀ x ∈ s.waitingItems, 0 ≤ distance d x.1 := by
  rw [oldestWaiting_eq_scan] at oldest
  obtain ⟨⟨d, w⟩, found, rfl⟩ := Option.map_eq_some_iff.mp oldest
  obtain ⟨mem, best⟩ := scan_greatest (fun x => -distance base x.1) (fun a ma b mb => by
    rw [olderDate, decide_eq_true_eq, distance_of_base (recent b mb) (recent a ma)]
    omega) found
  refine ⟨d, mem, fun x mx => ?_⟩
  have := best x mx
  rw [distance_of_base (recent _ mem) (recent x mx)]
  omega

/-! ## The two admission rows (8.2) -/

theorem placesFor_pick (s : State) (i : Fin 8) : s.placesFor (.pick i) =
    if (s.slot i).record.any (fun p => (s.completes p).isSome) then 2 else 1 := by
  cases record : (s.slot i).record with
  | none => simp only [State.placesFor, record, Option.any_none]; rfl
  | some p => simp only [State.placesFor, record, Option.any_some]

theorem fits_iff (s : State) (w : Waiting) : s.placesFor w ≤ s.places ↔ s.reports.queue.length + s.placesFor w ≤ 32 := by
  have pos := placesFor_pos s w
  rw [State.places, Config.queueCap]
  omega

theorem places_eq_one (s : State) : s.places = 1 ↔ s.reports.queue.length = 31 := by
  rw [State.places, Config.queueCap]
  omega

theorem attempting_of {s : State} (on : s.power = true) (clear : s.reports.blocked = false) : s.attempting = true := by
  rw [State.attempting, on, clear]
  rfl

theorem pickAdmission_row {s : State} {i : Fin 8} (on : s.power = true) (clear : s.reports.blocked = false)
    (oldest : s.oldestWaiting = some (.pick i)) : exec .pickAdmission s = .next
      (if s.placesFor (.pick i) ≤ s.places then admitPick i s else blockedAttempt (.pick i) s) := by
  change execPickAdmission s = _
  rw [execPickAdmission, if_pos (attempting_of on clear), oldest]

theorem noticeAdmission_row {s : State} {k : Fin 8} (on : s.power = true) (clear : s.reports.blocked = false)
    (oldest : s.oldestWaiting = some (.notice k)) : exec .noticeAdmission s = .next
      (if s.placesFor (.notice k) ≤ s.places then admitNotice k s else blockedAttempt (.notice k) s) := by
  change execNoticeAdmission s = _
  rw [execNoticeAdmission, if_pos (attempting_of on clear), oldest]

theorem admissions_blocked {s : State} (blocked : s.reports.blocked = true) :
    exec .pickAdmission s = .next s ∧ exec .noticeAdmission s = .next s := by
  have stopped : ¬ s.attempting = true := by simp [State.attempting, blocked]
  exact ⟨congrArg Host.Outcome.next (if_neg stopped), congrArg Host.Outcome.next (if_neg stopped)⟩

/-- An admission does not depend on the blocked indication, which it clears. -/
theorem admitItem_unblocked {s : State} {w : Waiting} (oldest : s.oldestWaiting = some w)
    (recorded : ∀ i : Fin 8, (s.slot i).st = .done → (s.slot i).record.isSome) :
    admitItem w { s with reports := { s.reports with blocked := false } } = admitItem w s := by
  have itWaits := oldest_waits oldest
  cases w with
  | pick i =>
    obtain ⟨p, record⟩ := Option.isSome_iff_exists.mp (recorded i itWaits.1)
    rw [admitItem, admitItem, admitPick_some record]
    exact admitPick_some (s := { s with reports := { s.reports with blocked := false } }) record
  | notice k =>
    obtain ⟨p, pending⟩ := Option.isSome_iff_exists.mp itWaits
    rw [admitItem, admitItem, admitNotice_some pending]
    exact admitNotice_some (s := { s with reports := { s.reports with blocked := false } }) pending

/-- A P opens an entry and takes a group id (R101). -/
theorem admitPick_opens {s : State} {i : Fin 8} {p : PickRecord} (record : (s.slot i).record = some p) (call : p.call = .p) :
    admitPick i s = { s with
      table := { s.table with slots := s.table.slots.set i freeSlot }
      assoc := ⟨s.assoc.entries.set s.entryForP ⟨true, s.reports.groupId, s.reports.pickSeq, p.onset, p.secs, p.us,
        (s.slot i).params.smin, (s.slot i).params.smax, s.assoc.created⟩, s.assoc.created + 1⟩
      reports := { s.reports with
        pickSeq := s.reports.pickSeq + 1, groupId := s.reports.groupId + 1, blocked := false
        queue := s.reports.queue ++
          [.pick { p with seq := some s.reports.pickSeq, role := .p, group := some s.reports.groupId }] } } := by
  rw [admitPick_some record, associate, if_pos call]
  rfl

/-- A pick that completes no group has no role (R100). -/
theorem admitPick_alone {s : State} {i : Fin 8} {p : PickRecord} (record : (s.slot i).record = some p) (call : p.call ≠ .p)
    (alone : s.completes p = none) : admitPick i s = { s with
      table := { s.table with slots := s.table.slots.set i freeSlot }
      reports := { s.reports with
        pickSeq := s.reports.pickSeq + 1, blocked := false
        queue := s.reports.queue ++ [.pick { p with seq := some s.reports.pickSeq, role := .none, group := none }] } } := by
  have none' : State.completes { s with reports := { s.reports with pickSeq := s.reports.pickSeq + 1, blocked := false } }
      { p with seq := some s.reports.pickSeq } = none := alone
  rw [admitPick_some record, associate, if_neg call, none']
  rfl

/-- A pick that completes a group takes its role, frees the entry and is followed by the group record (R104, R105). -/
theorem admitPick_completes {s : State} {i j : Fin 8} {p : PickRecord} (record : (s.slot i).record = some p)
    (call : p.call ≠ .p) (found : s.completes p = some j) : admitPick i s =
      let e := s.assoc.entries[j]
      let role : Role := if p.call = .s then .sMeasured else .sInferred
      { s with
        table := { s.table with slots := s.table.slots.set i freeSlot }
        assoc := { s.assoc with entries := s.assoc.entries.set j freeEntry }
        reports := { s.reports with
          pickSeq := s.reports.pickSeq + 1, blocked := false
          queue := s.reports.queue ++ [.pick { p with seq := some s.reports.pickSeq, role := role, group := some e.group },
            .group ⟨e.group, e.pSeq, s.reports.pickSeq, role, (distance e.pOnset p.onset).toNat,
              ((p.secs : Int) - e.pSecs) * 1000000 + ((p.us : Int) - e.pUs)⟩] } } := by
  have some' : State.completes { s with reports := { s.reports with pickSeq := s.reports.pickSeq + 1, blocked := false } }
      { p with seq := some s.reports.pickSeq } = some j := found
  rw [admitPick_some record, associate, if_neg call, some']
  rfl

/-- Settles O48: the attempts as rows over again, the scans, and the rows by what the pick completes. -/
theorem admissionNumbersAndAssociates : Obligations.AdmissionNumbersAndAssociates := by
  intro s on dated unblocked row needs
  have listed (w : Waiting) (d : BitVec 32) : (d, w) ∈ s.waitingItems ↔ dated w d := by
    cases w with
    | pick i => exact mem_waitingItems_pick s d i
    | notice k => exact mem_waitingItems_notice s d k
  have need (w : Waiting) : s.placesFor w = needs w := by
    cases w with
    | pick i => exact placesFor_pick s i
    | notice k => rfl
  refine ⟨admitAll_none, fun w oldest => ⟨fun tooMany => ?_, fun room recorded => ?_⟩, completes_eq s, ?_,
    fun base w recent oldest => ?_, fun i => entryForP_free, fun base origin ready i => ?_, admissions_blocked,
    fun clear i p oldest record => ?_, fun clear k p oldest pending => ?_⟩
  · rw [← need] at tooMany ⊢
    rw [admitAll_stuck oldest (not_le.mp (mt (fits_iff s w).mp (not_le.mpr tooMany))), blockedAttempt]
    exact if_congr (and_congr_right' (places_eq_one s)) rfl rfl
  · rw [← need] at room
    have fits := (fits_iff s w).mpr room
    refine ⟨admitItem w s, ?_, admitAll_fits oldest recorded fits⟩
    rw [← admitItem_unblocked oldest recorded]
    cases w with
    | pick i => exact (pickAdmission_row (s := unblocked) on rfl oldest).trans (congrArg _ (if_pos fits))
    | notice k => exact (noticeAdmission_row (s := unblocked) on rfl oldest).trans (congrArg _ (if_pos fits))
  · rw [oldestWaiting_eq_none, List.eq_nil_iff_forall_not_mem]
    exact ⟨fun no w d => mt (listed w d).mpr (no (d, w)), fun no x => mt (listed x.2 x.1).mp (no x.2 x.1)⟩
  · obtain ⟨d, mem, best⟩ := oldestWaiting_oldest (fun x mem => recent x.2 x.1 ((listed x.2 x.1).mp mem)) oldest
    exact ⟨d, (listed w d).mp mem, fun x y at' => best (y, x) ((listed x y).mpr at')⟩
  · intro e v
    have recent (i : Fin 8) := (ready i).2
    have le := entryForP_evicts (fun i => (ready i).1) recent i
    rw [evictionRank, evictionRank, Prod.Lex.toLex_le_toLex] at le
    rw [distance_of_base (recent s.entryForP).1 (recent i).1, distance_of_base (recent s.entryForP).2 (recent i).2]
    rcases le with before | ⟨same, order⟩
    · exact .inl (by simpa using before)
    · exact .inr ⟨eq_of_distance_eq_base (neg_inj.mp same), by simpa using order⟩
  · intro x seq freed full
    have places : s.places = full := rfl
    have row' := pickAdmission_row on clear oldest
    have fitting (j : Option (Fin 8)) (completes : s.completes p = j) :
        s.placesFor (.pick i) = if j.isSome then 2 else 1 := by
      rw [placesFor_pick, record, Option.any_some, completes]
    refine ⟨fun call room => ?_, fun call alone room => ?_, fun none' => ?_, fun j call found => ⟨fun room => ?_, fun one => ?_⟩⟩
    · have alone : s.completes p = none := by
        rw [completes_eq, if_neg (by rw [call]; simp)]
      rw [row', if_pos (by rw [fitting _ alone]; exact room), admitPick_opens record call]
    · rw [row', if_pos (by rw [fitting _ alone]; exact room), admitPick_alone record call alone]
    · have pos := placesFor_pos s (.pick i)
      rw [row', if_neg (by omega), blockedAttempt, if_neg (by omega)]
    · rw [row', if_pos (by rw [fitting _ found]; exact room), admitPick_completes record call found]
    · have two : s.placesFor (.pick i) = 2 := fitting _ found
      rw [row', if_neg (by omega), blockedAttempt, if_pos ⟨two, places.trans one⟩]
  · have row' := noticeAdmission_row on clear oldest
    have fits := fits_iff s (.notice k)
    rw [placesFor_notice] at row' fits
    refine ⟨fun room => ?_, fun full => ?_⟩
    · rw [row', if_pos (fits.mpr room), admitNotice_some pending]
    · rw [row', if_neg (by omega), blockedAttempt, placesFor_notice, if_neg (by omega)]

end Sys2Proof.Proofs
end

section
/-! PROOFS. The ring reads of the Refinement Unit (chapter 5): onset search, polarization, peaks and counts, and the
completion that forms the pick record. -/

namespace Sys2Proof.Proofs

open Sys2Proof.Machine Sys2Proof.Laws

/-! ## Onset search (5.2) -/

theorem before_zero (t : Sample) : before t 0 = t := by
  rw [before]
  simp

theorem after_before {t : Sample} {i : Nat} (pos : 0 < i) : after (before t i) 1 = before t (i - 1) := by
  obtain ⟨i, rfl⟩ := Nat.exists_eq_add_of_lt pos
  rw [after, before, before, show 0 + i + 1 - 1 = i by omega, show 0 + i + 1 = i + 1 by omega, BitVec.ofNat_add]
  bv_omega

theorem before_before (t : Sample) (i : Nat) : before (before t i) 1 = before t (i + 1) := by
  rw [before, before, before, BitVec.ofNat_add]
  bv_omega

theorem before_eq_self {t : Sample} {i : Nat} (short : i < 2 ^ 32) : before t i = t ↔ i = 0 := by
  constructor
  · intro same
    have zero : BitVec.ofNat 32 i = 0#32 := by
      rw [before] at same
      bv_omega
    have value : i % 2 ^ 32 = 0 := by simpa using congrArg BitVec.toNat zero
    rwa [Nat.mod_eq_of_lt short] at value
  · rintro rfl
    exact before_zero t

theorem distance_before {t : Sample} {m : Nat} (near : m < 2 ^ 31) : distance (before t m) t = m := by
  rw [distance, before, show t - (t - BitVec.ofNat 32 m) = BitVec.ofNat 32 m by bv_omega, BitVec.toInt_ofNat']
  exact Int.bmod_eq_of_le (by omega) (by omega)

theorem distance_to_before {t : Sample} {m : Nat} (near : m < 2 ^ 31) : distance t (before t m) = -m := by
  rw [distance, before, show t - BitVec.ofNat 32 m - t = -BitVec.ofNat 32 m by bv_omega, BitVec.toInt_neg, BitVec.toInt_ofNat',
    Int.bmod_eq_of_le (n := (m : Int)) (by omega) (by omega)]
  exact Int.bmod_eq_of_le (by omega) (by omega)

/-- The walk ends behind the first sample at which the test holds. -/
theorem walkBack_stops {test : Sample → Bool} {t : Sample} (left : Nat) : ∀ {i m : Nat}, i + left < 2 ^ 32 → m ≤ left →
    test (before t (i + m)) = true → (∀ a : Nat, a < m → test (before t (i + a)) = false) →
    walkBack test t left (before t i) = (before t (i + m - 1), false) := by
  have here {i : Nat} (short : i < 2 ^ 32) :
      (if before t i = t then t else after (before t i) 1, false) = (before t (i - 1), false) := by
    by_cases zero : i = 0
    · rw [zero, if_pos (before_zero t), before_zero]
    · rw [if_neg (mt (before_eq_self short).mp zero), after_before (Nat.pos_of_ne_zero zero)]
  induction left with
  | zero =>
    intro i m short le hit _
    obtain rfl := Nat.le_zero.mp le
    rw [walkBack, if_pos (by exact hit)]
    exact here short
  | succ left ih =>
    intro i m short le hit clear
    cases m with
    | zero =>
      rw [walkBack, if_pos (by exact hit)]
      exact here (by omega)
    | succ m =>
      have miss : ¬ test (before t i) = true := Bool.eq_false_iff.mp (clear 0 (Nat.succ_pos m))
      rw [walkBack, if_neg miss, before_before, ih (i := i + 1) (m := m) (by omega) (by omega)
        (by rwa [Nat.add_right_comm]) (fun a lt => by rw [Nat.add_right_comm]; exact clear (a + 1) (by omega)),
        Nat.add_right_comm]
      rfl

/-- The walk that meets no such sample ends at its last one. -/
theorem walkBack_ends {test : Sample → Bool} {t : Sample} (left : Nat) : ∀ {i : Nat},
    (∀ a : Nat, a ≤ left → test (before t (i + a)) = false) →
    walkBack test t left (before t i) = (before t (i + left), true) := by
  induction left with
  | zero =>
    intro i clear
    exact if_neg (Bool.eq_false_iff.mp (clear 0 le_rfl))
  | succ left ih =>
    intro i clear
    rw [walkBack, if_neg (by exact Bool.eq_false_iff.mp (clear 0 (Nat.zero_le _))), before_before,
      ih (fun a le => by rw [Nat.add_right_comm]; exact clear (a + 1) (by omega)), Nat.add_right_comm]
    rfl

theorem ringSpan_eq (ring : List RingEntry) (a b : Sample) :
    ringSpan ring a b = ring.filter fun e => decide (0 ≤ distance a e.n ∧ 0 ≤ distance e.n b) := by
  simp only [ringSpan, Bool.decide_and]

theorem cfValue_owner (cls : SlotClass) (cf : Nat) (y : Trio Int) :
    let u (y : Int) : Nat := (y / (2 ^ cf : Nat)).natAbs
    cfValue cls.owner cf y = match cls with
      | .h => u y.n ^ 2 + u y.e ^ 2
      | _ => u y.z ^ 2 := by
  cases cls with
  | z => exact cfValue_eq .z cf y
  | h => exact cfValue_eq .h cf y
  | forced => exact cfValue_eq .z cf y

/-- A search whose start lies `span` samples before the trigger. -/
theorem onsetStage_walk {ring : List RingEntry} {cf span : Nat} {x : Slot}
    (start : distance (x.pin.getD x.trigger) x.trigger = span) : span < 2 ^ 31 ∧ x.pin.getD x.trigger = before x.trigger span ∧
    onsetStage ring cf x =
      let r := walkBack (stopTest ring cf x) x.trigger span (before x.trigger 0)
      ⟨r.1, (distance r.1 x.trigger).toNat, r.2⟩ := by
  have near : span < 2 ^ 31 := by
    have := (distance_lt (x.pin.getD x.trigger) x.trigger).2
    omega
  have place : x.pin.getD x.trigger = before x.trigger span := by
    have same := seq_of_distance (Int.natCast_nonneg span) start
    rw [Int.toNat_natCast] at same
    rw [before]
    generalize BitVec.ofNat 32 span = k at same
    bv_omega
  refine ⟨near, place, ?_⟩
  have behind : ¬ 0 < distance x.trigger (x.pin.getD x.trigger) := by
    rw [place, distance_to_before near]
    omega
  rw [onsetStage, before_zero]
  dsimp only
  rw [if_neg behind, start, Int.toNat_natCast]

/-- Settles O39: the walk back to the first quiet sample, or to the search start. -/
theorem onsetSearchStopsAtTheFirstQuietSample : Obligations.OnsetSearchStopsAtTheFirstQuietSample := by
  intro ring cf x start back level quiet
  have level_eq (k : Sample) : forwardLevel ring x.cls.owner cf x.params.osm x.close k = level k := by
    rw [forwardLevel, ringSpan_eq]
    simp only [cfValue_owner]
    rfl
  have test_iff (k : Nat) : stopTest ring cf x (before x.trigger k) = true ↔ quiet k := by
    rw [stopTest, decide_eq_true_eq, level_eq]
    rfl
  refine ⟨fun newer => if_pos newer, fun span at' => ?_⟩
  obtain ⟨near, place, walk⟩ := onsetStage_walk (ring := ring) (cf := cf) at'
  refine ⟨fun j le hit clear => ?_, fun clear => ?_⟩
  · have stops := walkBack_stops (test := stopTest ring cf x) (t := x.trigger) span (i := 0) (m := j) (by omega) le
      (by rw [Nat.zero_add]; exact (test_iff j).mpr hit)
      (fun a lt => by rw [Nat.zero_add]; exact Bool.eq_false_iff.mpr (mt (test_iff a).mp (clear a lt)))
    rw [walk, stops, Nat.zero_add]
    dsimp only
    rw [distance_before (by omega), Int.toNat_natCast]
    rfl
  · have ends := walkBack_ends (test := stopTest ring cf x) (t := x.trigger) span (i := 0)
      (fun a le => by rw [Nat.zero_add]; exact Bool.eq_false_iff.mpr (mt (test_iff a).mp (clear a le)))
    rw [walk, ends, Nat.zero_add]
    dsimp only
    rw [distance_before near, Int.toNat_natCast, ← place]

/-! ## Polarization (5.3) -/

/-- The start of the reads of stages 2 and 3: the onset, or a search start newer than it (R86, R89). -/
theorem later_pin (onset : Sample) (pin : Option Sample) : later onset (pin.getD onset) =
    match pin with
    | none => onset
    | some q => if 0 ≤ distance onset q then q else onset := by
  cases pin with
  | none => exact ite_self onset
  | some q => rfl

/-- One of the six sums over a window (R87). -/
def windowSum (cf : Nat) (win : List RingEntry) (a b : Trio Int → Int) : Int :=
  (win.map fun e => a e.d / (2 ^ cf : Nat) * (b e.d / (2 ^ cf : Nat))).sum

theorem polSums_rest (cf : Nat) (win : List RingEntry) : ∀ c : Sums,
    win.foldl (fun acc e =>
      let u := e.d.map fun x => shr x cf
      ⟨acc.zz + u.z * u.z, acc.nn + u.n * u.n, acc.ee + u.e * u.e, acc.zn + u.z * u.n,
        acc.ze + u.z * u.e, acc.ne + u.n * u.e⟩) c =
      ⟨c.zz + windowSum cf win Trio.z Trio.z, c.nn + windowSum cf win Trio.n Trio.n, c.ee + windowSum cf win Trio.e Trio.e,
        c.zn + windowSum cf win Trio.z Trio.n, c.ze + windowSum cf win Trio.z Trio.e,
        c.ne + windowSum cf win Trio.n Trio.e⟩ := by
  induction win with
  | nil => intro c; simp [windowSum]
  | cons e rest ih =>
    intro c
    rw [List.foldl_cons, ih]
    simp only [windowSum, List.map_cons, List.sum_cons, ← add_assoc]
    rfl

theorem polSums_eq (cf : Nat) (win : List RingEntry) : polSums cf win =
    ⟨windowSum cf win Trio.z Trio.z, windowSum cf win Trio.n Trio.n, windowSum cf win Trio.e Trio.e,
      windowSum cf win Trio.z Trio.n, windowSum cf win Trio.z Trio.e, windowSum cf win Trio.n Trio.e⟩ := by
  rw [polSums, polSums_rest]
  simp only [zero_add]

theorem windowSum_square_nonneg (cf : Nat) (win : List RingEntry) (a : Trio Int → Int) : 0 ≤ windowSum cf win a a := by
  refine List.sum_nonneg fun y mem => ?_
  obtain ⟨e, -, rfl⟩ := List.mem_map.mp mem
  exact mul_self_nonneg _

/-- The share is the exact floor of 256 times the vertical part (R87). -/
theorem shareOf_floor (cf : Nat) (win : List RingEntry) :
    let c := polSums cf win
    let total := c.zz + c.nn + c.ee
    (total = 0 → shareOf c = none) ∧
    (total ≠ 0 → ∃ v : Nat, shareOf c = some v ∧ v ≤ 256 ∧ (v : Int) * total ≤ 256 * c.zz ∧
      256 * c.zz < ((v : Int) + 1) * total) := by
  intro c total
  have zz : 0 ≤ c.zz := by rw [show c = _ from polSums_eq cf win]; exact windowSum_square_nonneg cf win _
  have nn : 0 ≤ c.nn := by rw [show c = _ from polSums_eq cf win]; exact windowSum_square_nonneg cf win _
  have ee : 0 ≤ c.ee := by rw [show c = _ from polSums_eq cf win]; exact windowSum_square_nonneg cf win _
  refine ⟨fun zero => if_neg (by omega), fun some' => ?_⟩
  have pos : 0 < total := by omega
  have quotient : 0 ≤ 256 * c.zz / total := Int.ediv_nonneg (by omega) pos.le
  refine ⟨(256 * c.zz / total).toNat, if_pos pos, ?_, ?_, ?_⟩
  · have := Int.ediv_le_of_le_mul pos (show 256 * c.zz ≤ 256 * total by omega)
    omega
  · rw [Int.toNat_of_nonneg quotient]
    exact Int.ediv_mul_le _ pos.ne'
  · rw [Int.toNat_of_nonneg quotient]
    exact Int.lt_ediv_add_one_mul_self _ pos

/-! ## Peaks and counts (5.5) -/

/-- A peak is the first largest magnitude of a span, its offset counted from the onset (R89). -/
def isFirstLargest (onset : Sample) (comp : Trio Int → Int) (span : List RingEntry) (best : Peak) : Prop :=
  ∃ (older newer : List RingEntry) (f : RingEntry), span = older ++ f :: newer ∧ best.mag = (comp f.d).natAbs ∧
    best.offset = min (distance onset f.n).toNat 65535 ∧
    (∀ g ∈ older, (comp g.d).natAbs < best.mag) ∧ ∀ g ∈ newer, (comp g.d).natAbs ≤ best.mag

/-- What one further sample makes of the peak so far. -/
def nextPeak (onset : Sample) (comp : Trio Int → Int) (best : Peak) (e : RingEntry) : Peak :=
  if best.mag < (comp e.d).natAbs then ⟨(comp e.d).natAbs, min (distance onset e.n).toNat 65535⟩ else best

theorem nextPeak_firstLargest {onset : Sample} {comp : Trio Int → Int} {span : List RingEntry} {best : Peak}
    (h : isFirstLargest onset comp span best) (e : RingEntry) :
    isFirstLargest onset comp (span ++ [e]) (nextPeak onset comp best e) := by
  obtain ⟨older, newer, f, rfl, mag, offset, below, atMost⟩ := h
  rw [nextPeak]
  split
  next larger =>
    refine ⟨older ++ f :: newer, [], e, rfl, rfl, rfl, fun g mem => ?_, nofun⟩
    rcases List.mem_append.mp mem with mem | mem
    · exact (below g mem).trans larger
    · rcases List.mem_cons.mp mem with rfl | mem
      · exact mag ▸ larger
      · exact (atMost g mem).trans_lt larger
  next notLarger =>
    refine ⟨older, newer ++ [e], f, by simp, mag, offset, below, fun g mem => ?_⟩
    rcases List.mem_append.mp mem with mem | mem
    · exact atMost g mem
    · rw [List.mem_singleton.mp mem]
      exact not_lt.mp notLarger

theorem foldl_firstLargest {onset : Sample} {comp : Trio Int → Int} (rest : List RingEntry) :
    ∀ {span : List RingEntry} {best : Peak}, isFirstLargest onset comp span best →
    isFirstLargest onset comp (span ++ rest) (rest.foldl (nextPeak onset comp) best) := by
  induction rest with
  | nil => intro span best h; rwa [List.append_nil]
  | cons e rest ih =>
    intro span best h
    rw [List.append_cons]
    exact ih (nextPeak_firstLargest h e)

theorem peakOf_firstLargest (onset : Sample) (comp : Trio Int → Int) {win : List RingEntry} (held : win ≠ []) :
    isFirstLargest onset comp win (peakOf onset win comp) := by
  obtain ⟨e, rest, rfl⟩ := List.exists_cons_of_ne_nil held
  have first : isFirstLargest onset comp [e] ⟨(comp e.d).natAbs, min (distance onset e.n).toNat 65535⟩ :=
    ⟨[], [], e, rfl, rfl, rfl, nofun, nofun⟩
  have again : peakOf onset (e :: rest) comp =
      rest.foldl (nextPeak onset comp) ⟨(comp e.d).natAbs, min (distance onset e.n).toNat 65535⟩ :=
    congrArg (rest.foldl (nextPeak onset comp)) (if_neg (lt_irrefl _))
  rw [again]
  exact foldl_firstLargest rest first

/-- Settles O40: the cut windows, then sums and share, then peaks and counts. -/
theorem peaksAreFirstLargestAndShareIsBounded : Obligations.PeaksAreFirstLargestAndShareIsBounded := by
  refine ⟨?_, shareOf_floor⟩
  intro ring cf x onset first span marked newest win pol u sum zz total peaks k
  have start : later onset (x.pin.getD onset) = first := (later_pin onset x.pin).trans (by cases pin : x.pin <;> simp only [first, pin])
  have read (last : Sample) : ringSpan ring (later onset (x.pin.getD onset)) last = span last := by
    rw [ringSpan_eq, start]
  have sums (a b : Trio Int → Int) : windowSum cf win a b = sum a b := rfl
  have pol_eq : pol = if win.isEmpty then ⟨none, none, false, false, decide (0 < distance x.close newest)⟩
      else ⟨some (polSums cf win), shareOf (polSums cf win), win.any RingEntry.clipped,
        (shareOf (polSums cf win)).isNone, decide (0 < distance x.close newest)⟩ := by
    have window : ringSpan ring (later onset (x.pin.getD onset))
        (if decide (0 < distance x.close newest) then x.close else newest) = win := by
      rw [read]
      exact congrArg span (if_congr decide_eq_true_iff rfl rfl)
    rw [← window]
    rfl
  have peaks_eq : k = ⟨if peaks.isEmpty then none
      else some ⟨peakOf onset peaks (·.z), peakOf onset peaks (·.n), peakOf onset peaks (·.e)⟩,
      min (peaks.filter marked).length 65535, min (peaks.filter (·.filled)).length 65535⟩ := by
    rw [show peaks = _ from (read x.close).symm]
    rfl
  obtain ⟨noShare, share⟩ := shareOf_floor cf win
  rw [polSums_eq] at noShare share
  refine ⟨?_, fun empty => ?_, fun held => ?_, by rw [peaks_eq], by rw [peaks_eq], fun empty => ?_, fun held => ?_⟩
  · rw [pol_eq]
    split <;> exact decide_eq_true_iff
  · rw [pol_eq, if_pos (List.isEmpty_iff.mpr empty)]
    exact ⟨rfl, rfl, rfl, rfl⟩
  · rw [pol_eq, if_neg (mt List.isEmpty_iff.mp held), polSums_eq]
    refine ⟨rfl, List.any_eq_true, fun zero => ?_, fun some' => ?_⟩
    · dsimp only
      rw [noShare zero]
      exact ⟨rfl, rfl⟩
    · obtain ⟨v, shared, bounds⟩ := share some'
      dsimp only
      rw [shared]
      exact ⟨rfl, v, rfl, bounds⟩
  · rw [peaks_eq, if_pos (List.isEmpty_iff.mpr empty)]
  · rw [peaks_eq, if_neg (mt List.isEmpty_iff.mp held)]
    refine ⟨_, _, _, rfl, fun cp mem => ?_⟩
    simp only [List.mem_cons, List.not_mem_nil, or_false] at mem
    rcases mem with rfl | rfl | rfl
    · exact peakOf_firstLargest onset Trio.z held
    · exact peakOf_firstLargest onset Trio.n held
    · exact peakOf_firstLargest onset Trio.e held

end Sys2Proof.Proofs
end

section
/-! PROOFS. The completion of a refinement (5.8): the record that is formed, and what admission makes of its slot. -/

namespace Sys2Proof.Proofs

open Sys2Proof.Machine Sys2Proof.Laws

/-! ## What admissions leave of a slot in DONE (8.2) -/

/-- The admission of a record: the next sequence number, the queue's tail, at most a group record behind it (R104, R129). -/
theorem admitPick_joins {i : Fin 8} {s : State} {p : PickRecord} (record : (s.slot i).record = some p) :
    ∃ (role : Role) (group : Option (BitVec 8)) (behind : List Record) (a : Assoc) (g : BitVec 8),
      admitPick i s = { s with
        table := { s.table with slots := s.table.slots.set i freeSlot }
        assoc := a
        reports := { s.reports with
          pickSeq := s.reports.pickSeq + 1, groupId := g, blocked := false
          queue := s.reports.queue ++
            .pick { p with seq := some s.reports.pickSeq, role := role, group := group } :: behind } } ∧
      s.placesFor (.pick i) = behind.length + 1 := by
  rw [admitPick_some record]
  obtain ⟨role, group, behind, a, g, shape, alone⟩ := associate_shape p s.reports.pickSeq (s.slot i).params.smin
    (s.slot i).params.smax { s with reports := { s.reports with pickSeq := s.reports.pickSeq + 1, blocked := false } }
  refine ⟨role, group, behind, a, g, by rw [shape]; rfl, ?_⟩
  rw [placesFor_pick, record, Option.any_some]
  rcases alone with ⟨none', rfl⟩ | ⟨some', gr, rfl, -⟩
  · rw [show s.completes p = none from none']
    rfl
  · rw [if_pos (by exact some')]
    rfl

theorem admitItem_waiting (w : Waiting) (s : State) : (admitItem w s).reports.waiting = s.reports.waiting := by
  cases w with
  | pick i =>
    cases record : (s.slot i).record with
    | none => simp only [admitItem, admitPick, record]
    | some p =>
      obtain ⟨role, group, behind, a, g, shape, -⟩ := admitPick_joins record
      rw [admitItem, shape]
  | notice k =>
    cases pending : s.reports.notices[k] with
    | none => simp only [admitItem, admitNotice, pending]
    | some p => rw [admitItem, admitNotice_some pending]

theorem admitAll_waiting (s : State) : (admitAll s).reports.waiting = s.reports.waiting :=
  attempts_keeps (P := fun t => t.reports.waiting = s.reports.waiting)
    (fun t w _ _ h => (admitItem_waiting w t).trans h)
    (fun t w h => by
      obtain ⟨b, same⟩ := blockedAttempt_eq w t
      rw [same]
      exact h) 16 s rfl

/-- A slot in DONE is as it was, or its record has been admitted and it is FREE. -/
def doneOrAdmitted (x : Slot) (rec' : PickRecord) (i : Fin 8) (t : State) : Prop :=
  t.slot i = x ∨ (t.slot i = freeSlot ∧ ∃ (n : BitVec 32) (g : Option (BitVec 8)) (role : Role),
    Record.pick { rec' with seq := some n, group := g, role := role } ∈ t.reports.queue)

theorem admitItem_doneOrAdmitted {x : Slot} {rec' : PickRecord} {i : Fin 8} (record : x.record = some rec') {s : State}
    {w : Waiting} (oldest : s.oldestWaiting = some w) (h : doneOrAdmitted x rec' i s) :
    doneOrAdmitted x rec' i (admitItem w s) := by
  have itWaits := oldest_waits oldest
  cases w with
  | notice k =>
    obtain ⟨p, pending⟩ := Option.isSome_iff_exists.mp itWaits
    rw [admitItem, admitNotice_some pending]
    rcases h with same | ⟨free, n, g, role, mem⟩
    · exact .inl same
    · exact .inr ⟨free, n, g, role, List.mem_append_left _ mem⟩
  | pick j =>
    cases carried : (s.slot j).record with
    | none => rwa [show admitItem (.pick j) s = s by simp only [admitItem, admitPick, carried]]
    | some p =>
      obtain ⟨role', group, behind, a, g', shape, -⟩ := admitPick_joins carried
      have slots (i : Fin 8) : (admitItem (.pick j) s).slot i = (s.setSlot j freeSlot).slot i := by
        rw [admitItem, shape]
        rfl
      have queue : (admitItem (.pick j) s).reports.queue = s.reports.queue ++
          .pick { p with seq := some s.reports.pickSeq, role := role', group := group } :: behind := by
        rw [admitItem, shape]
      rw [doneOrAdmitted, slots, queue]
      by_cases own : i = j
      · subst own
        rcases h with same | ⟨free, -⟩
        · rw [same, record] at carried
          cases carried
          exact .inr ⟨setSlot_slot_self s i freeSlot, _, _, _, List.mem_append_right _ List.mem_cons_self⟩
        · obtain ⟨done, -⟩ := itWaits
          rw [free] at done
          cases done
      · rw [setSlot_slot_ne _ _ own]
        rcases h with same | ⟨free, n, g, role, mem⟩
        · exact .inl same
        · exact .inr ⟨free, n, g, role, List.mem_append_left _ mem⟩

theorem admitAll_doneOrAdmitted {x : Slot} {rec' : PickRecord} {i : Fin 8} {s : State} (record : x.record = some rec')
    (h : doneOrAdmitted x rec' i s) : doneOrAdmitted x rec' i (admitAll s) :=
  attempts_keeps (fun _ _ oldest _ h => admitItem_doneOrAdmitted record oldest h)
    (fun t w h => by
      obtain ⟨b, same⟩ := blockedAttempt_eq w t
      rw [same]
      exact h) 16 s h

/-! ## The completion of the slot in hand (R71, R72) -/

theorem refinementCompletion_row {s : State} {u : RefineUnit} {o : OnsetResult} {p : PolResult} {k : PeakResult}
    (on : s.power = true) (unit : s.unit = some u) (onset : u.onset = some o) (pol : u.pol = some p) (peaks : u.peaks = some k) :
    exec .refinementCompletion s = .next (completeRefinement u o p k s) := by
  change execRefinementCompletion s = _
  rw [execRefinementCompletion, on, unit]
  dsimp only
  rw [onset, pol, peaks]

/-- The idle Unit takes the queue's head and latches the scale (R71, R80). -/
theorem takeNext_takes {s : State} (idle : s.unit = none) :
    (takeNext s).table.queue = s.table.queue.tail ∧
    (takeNext s).unit = s.table.queue.head?.map (fun i => ⟨i, s.active.cf, forcedOnset (s.slot i), none, none⟩) ∧
    ∀ i : Fin 8, s.table.queue.head? ≠ some i → (takeNext s).slot i = s.slot i := by
  cases queue : s.table.queue with
  | nil =>
    rw [takeNext_empty queue]
    exact ⟨queue, idle, fun _ _ => rfl⟩
  | cons j rest =>
    rw [takeNext_idle idle queue]
    exact ⟨rfl, rfl, fun i other => setSlot_slot_ne _ _ fun same => other (congrArg some same.symm)⟩

/-- Settles O42: the record by its fields, then the Unit's next slot and the admission of this one. -/
theorem refinementCompletionFormsTheRecord : Obligations.RefinementCompletionFormsTheRecord := by
  intro s u o p k on unit onset pol peaks queue x flags three call
  obtain ⟨waiting, -, hand, -⟩ := queue
  have inHand : (s.slot u.slot).st = .refining := by rw [hand, unit]; rfl
  set rec' := formRecord s x o p k with formed
  set v := admitAll (entering u.slot rec' { s with unit := none }) with admitted'
  have passed := admitAll_admitted (entering u.slot rec' { s with unit := none })
  obtain ⟨parts, slots⟩ := passed
  have idle : v.unit = none := by rw [admitted', parts]; rfl
  obtain ⟨tail, taken, others⟩ := takeNext_takes idle
  have queue : v.table.queue = s.table.queue := by rw [admitted', parts]; rfl
  have active : v.active = s.active := by rw [admitted', parts]; rfl
  have time : v.time = { s.time with step := false } := by rw [admitted', parts]; rfl
  have notQueued : u.slot ∉ s.table.queue := by
    rw [waiting, inHand]
    nofun
  have kept {i : Fin 8} (mem : i ∈ s.table.queue) : v.slot i = s.slot i := by
    have other : i ≠ u.slot := fun same => notQueued (same ▸ mem)
    have entered : (entering u.slot rec' { s with unit := none }).slot i = s.slot i := entering_slot_ne rec' _ other
    rcases slots i with same | ⟨done, -⟩
    · rw [admitted', same, entered]
    · rw [entered, (waiting i).mp mem] at done
      cases done
  refine ⟨takeNext v, rec', refinementCompletion_row on unit onset pol peaks, rfl, rfl, rfl, rfl, rfl, rfl, rfl, rfl, rfl,
    rfl, rfl, rfl, rfl, rfl, rfl, rfl, rfl, rfl, rfl, fun forced => if_pos forced, fun unforced => ?_, ?_, ?_, ?_, ?_, ?_⟩
  · have weight : rec'.weight = if x.params.snrA ≤ x.peak ∧ o.rise ≤ x.params.riseA then 0
        else if x.params.snrB ≤ x.peak ∧ o.rise ≤ x.params.riseB then 1
        else if x.params.snrC ≤ x.peak then 2 else 3 := if_neg (Bool.eq_false_iff.mp unforced)
    rw [weight]
    exact ⟨fun a => if_pos a, fun notA b => by rw [if_neg notA, if_pos b],
      fun notA notB => by rw [if_neg notA, if_neg notB]⟩
  · obtain ⟨t, w, shape⟩ := takeNext_shape v
    rw [shape]
    exact time
  · obtain ⟨t, w, shape⟩ := takeNext_shape v
    rw [shape]
    exact admitAll_waiting _
  · rw [tail, queue]
  · rw [taken, queue, active]
    refine Option.map_congr fun i head => ?_
    rw [kept (List.mem_of_mem_head? head)]
  · rw [others u.slot (by rw [queue]; exact fun head => notQueued (List.mem_of_mem_head? head))]
    have entered : (entering u.slot rec' { s with unit := none }).slot u.slot = { x with
        st := .done, pin := none, order := some s.reports.waiting, record := some rec', flags := rec'.flags } :=
      entering_slot_self u.slot rec' { s with unit := none }
    obtain ⟨w, t, shape⟩ := takeNext_shape v
    rcases admitAll_doneOrAdmitted (x := { x with
        st := .done, pin := none, order := some s.reports.waiting, record := some rec', flags := rec'.flags })
        rfl (.inl entered) with same | ⟨free, n, g, role, mem⟩
    · exact .inl same
    · exact .inr ⟨free, _, by rw [shape]; exact mem, n, g, role, rfl⟩

end Sys2Proof.Proofs
end

section
/-! PROOFS. The three resets (9.5, 9.3, 8.5): the state each leaves, and when each takes effect. -/

namespace Sys2Proof.Proofs

open Sys2Proof.Machine Sys2Proof.Laws

/-- A reset leaves nothing waiting and the queue empty, so STORE_DEFAULTED is its first record (R136, R151). -/
theorem doReset_eq (k : ResetKind) (s : State) :
    doReset k s = if s.store.mark then resetState k s else reported (.storeDefaulted k) (resetState k s) := by
  have noneDone : ∀ i : Fin 8, (resetTable.slots[i]).st ≠ .done := by decide
  have noNotice : ∀ i : Fin 8, resetReports.notices[i] = none := by decide
  rw [doReset, raise_of_nothingWaits (s := resetState k s) ⟨noneDone, noNotice⟩ (by change 0 < 32; decide)]

/-- A lock loaded over an object whose power lock mark is set goes back to POWER (R145). -/
def keptPower (was l : Lock) : Lock :=
  match was, l with
  | .power _, .base u => .power u
  | _, _ => l

theorem carryPower_eq (was l : Lock) : carryPower was l = keptPower was l := by
  cases was <;> cases l <;> rfl

theorem carryLocks_eq (old new : Settings) : carryLocks old new = { new with
    profileLock := Vector.ofFn fun e : Fin 8 => keptPower old.profileLock[e] new.profileLock[e]
    stationLock := keptPower old.stationLock new.stationLock
    gateLock := keptPower old.gateLock new.gateLock } := by
  have locks : mapEight (fun i l => carryPower old.profileLock[i] l) new.profileLock =
      Vector.ofFn fun e : Fin 8 => keptPower old.profileLock[e] new.profileLock[e] := by
    refine Vector.ext fun k bound => ?_
    have read := mapEight_getElem (fun i l => carryPower old.profileLock[i] l) new.profileLock ⟨k, bound⟩
    rw [carryPower_eq] at read
    rw [Vector.getElem_ofFn]
    exact read
  rw [carryLocks, locks, carryPower_eq, carryPower_eq]

/-- The state that a reset leaves, by what its kind keeps. -/
theorem resetState_powerOn (s : State) : resetState .powerOn s = { State.reset with
    settings := loadImage (if s.store.mark then s.store.image else factoryImage)
    store := ⟨s.store.image, s.store.mark, none, !s.store.mark⟩, baud := s.straps, straps := s.straps
    protect := s.protect, resetLow := s.resetLow, choices := s.choices, pending := s.pending } := rfl

theorem resetState_line (s : State) : resetState .line s = { State.reset with
    clock := s.clock
    settings := carryLocks s.settings (loadImage (if s.store.mark then s.store.image else factoryImage))
    store := ⟨s.store.image, s.store.mark, none, !s.store.mark⟩, baud := s.straps, straps := s.straps
    protect := s.protect, resetLow := s.resetLow, choices := s.choices, pending := s.pending } := rfl

theorem resetState_request (s : State) : resetState .request s = { State.reset with
    clock := s.clock
    settings := carryLocks s.settings (loadImage (if s.store.mark then s.store.image else factoryImage))
    store := ⟨s.store.image, s.store.mark, none, !s.store.mark⟩, baud := s.baud, straps := s.straps
    protect := s.protect, resetLow := s.resetLow, choices := s.choices, pending := s.pending
    floor := s.floor, time := s.time } := rfl

theorem losePower_saving {s : State} {im : Image} (saving : s.store.writing = some im) :
    losePower s = { s with
      power := false, resetPending := none, choices := s.choices + 1
      store := { s.store with image := Config.tornImage s.store.image im s.choices, mark := false, writing := none } } := by
  rw [losePower]
  dsimp only
  rw [saving]

theorem losePower_quiet {s : State} (idle : s.store.writing = none) :
    losePower s = { s with power := false, resetPending := none } := by
  rw [losePower]
  dsimp only
  rw [idle]

/-- A part that has lost its power loses nothing further (R150). -/
theorem losePower_losePower (s : State) : losePower (losePower s) = losePower s := by
  have off : (losePower s).power = false ∧ (losePower s).resetPending = none := by
    cases saving : s.store.writing with
    | none => rw [losePower_quiet saving]; exact ⟨rfl, rfl⟩
    | some im => rw [losePower_saving saving]; exact ⟨rfl, rfl⟩
  rw [losePower_quiet (losePower_idle s), ← off.1, ← off.2]

/-- The line asserted: a pending RESET request becomes the line's (R172, R175). -/
theorem resetLine_asserted {s : State} (on : s.power = true) (b : Baud) : exec (.resetLine true b) s = .next { s with
    straps := b, resetLow := true
    resetPending := s.resetPending.map fun p => if p.kind = .request then ⟨.line, false⟩ else p } := by
  change execResetLine true b s = _
  unfold execResetLine
  dsimp only
  rw [on]
  dsimp only
  rw [assertLine]
  dsimp only
  rcases pending : s.resetPending with _ | ⟨_ | _ | _, released⟩ <;> simp

/-- The line released: its reset starts (R175). -/
theorem resetLine_released {s : State} (on : s.power = true) (low : s.resetLow = true) (b : Baud) :
    exec (.resetLine false b) s = .next (tryReset { s with
      straps := b, resetLow := false, resetPending := some ⟨.line, true⟩ }) := by
  change execResetLine false b s = _
  unfold execResetLine
  dsimp only
  rw [on]
  exact congrArg Host.Outcome.next (if_pos low)

theorem resetTakesEffect_none {s : State}
    (none' : s.resetPending = none ∨ s.resetPending = some ⟨.line, false⟩ ∨ s.store.writing.isSome) :
    exec .resetTakesEffect s = .next s := by
  change execResetTakesEffect s = _
  rw [execResetTakesEffect]
  split
  next b on pending idle => rw [pending, idle] at none'; simp at none'
  next on pending idle => rw [pending, idle] at none'; simp at none'
  next => rfl

/-- Settles O50: the state of each kind of reset, then the moments at which one does not act. -/
theorem resetsReloadTheTables : Obligations.ResetsReloadTheTables := by
  intro s b im loaded keep kept noted cold
  have keptLocks : carryLocks s.settings loaded = kept := by
    rw [carryLocks_eq]
    rfl
  refine ⟨fun on => ?_, fun idle => ⟨?_, fun on low => ?_, fun on r pending => ?_, fun on pending => ?_⟩,
    fun _ => resetTakesEffect_none, fun new saving => ⟨fun on low => ?_, ?_⟩⟩
  · exact resetLine_asserted on b
  · change Host.Outcome.next (powerUp b s) = _
    rw [powerUp, losePower_quiet idle, doReset_eq, resetState_powerOn]
  · rw [resetLine_released on low b, tryReset_now (s := { s with straps := b, resetLow := false, resetPending := some ⟨.line, true⟩ }) rfl idle, doReset_eq, resetState_line, keptLocks]
  · rw [resetTakesEffect_request on pending idle, doReset_eq, resetState_request, keptLocks]
  · rw [resetTakesEffect_line on pending idle, doReset_eq, resetState_line, keptLocks]
  · rw [resetLine_released on low b, tryReset_waits (s := { s with straps := b, resetLow := false, resetPending := some ⟨.line, true⟩ })
      (Option.isSome_iff_exists.mpr ⟨new, saving⟩)]
  · refine ⟨losePower s, rfl, ?_, losePower_idle s, ?_⟩
    · rw [losePower_saving saving]
    · change Host.Outcome.next (powerUp b s) = Host.Outcome.next (powerUp b (losePower s))
      rw [powerUp, powerUp, losePower_losePower]

end Sys2Proof.Proofs
end

section
/-! PROOFS. The two receivers (1.1, 11.1): bytes held and bytes that arrive are one stream, drained frame by frame. -/

namespace Sys2Proof.Proofs

open Sys2Proof.Machine Sys2Proof.Laws

/-! ## What a taken frame leaves of the receiver (R167) -/

/-- The port is this one, and the power as given. -/
abbrev portIs (q : Port) (b : Bool) (s : State) : Prop := s.port = q ∧ s.power = b

theorem portIs_free (q : Port) (b : Bool) : FreeOfReports (portIs q b) where

theorem portIs_parts (q : Port) (b : Bool) : KeptByParts (portIs q b) where
  raise := (portIs_free q b).raise
  enterDone s i rec' _ := (portIs_free q b).enterDone (fun _ h => h) s i rec'

theorem portIs_requests (q : Port) (b : Bool) : KeptByRequests (portIs q b) where
  collect := (portIs_free q b).collect
  holdChain _ := (portIs_parts q b).holdChain
  runLearn _ _ := (portIs_parts q b).runLearn
  runRestore _ _ := (portIs_parts q b).runRestore
  runImmediate _ _ := (portIs_parts q b).runImmediate
  blankTo _ _ e _ _ := (portIs_parts q b).blankTo e
  closeSlot _ n f i _ := (portIs_parts q b).closeSlot n f i
  forceSlot _ n newest i _ _ _ := (portIs_parts q b).forceSlot n newest i
  writeProfile s e new _ _ h := (portIs_parts q b).afterStructural (s := s.setProfile e new) s.active h
  selectProfile s e h := (portIs_parts q b).afterStructural s.active h

/-- The action of a request leaves the port and the power. -/
theorem catalogue_port {kind : Nat} {body : List Byte} {lens : List Nat} {act : Action} (eff : Nat) (s : State)
    (known : catalogue kind body = some (lens, act)) : portIs s.port s.power (act eff s).1 :=
  (portIs_requests s.port s.power).action eff s known ⟨rfl, rfl⟩

theorem request_rx {kind : Byte} {r : Req} {lens : List Nat} {body : List Byte} {act : Action} {s : State}
    (keeps : ∀ eff s, portIs s.port s.power (act eff s).1) :
    (request kind r lens body act s).port.rx = s.port.rx ∧ (request kind r lens body act s).port.cut = s.port.cut ∧
      (request kind r lens body act s).power = s.power := by
  have dispatched : portIs (s.sampled r.protect).port (s.sampled r.protect).power
      (dispatch r lens body act (s.sampled r.protect)).1 := by
    unfold dispatch
    split
    · exact ⟨rfl, rfl⟩
    · split
      · exact ⟨rfl, rfl⟩
      · exact keeps _ _
  obtain ⟨port, power⟩ := dispatched
  have rx := congrArg Port.rx port
  have cut := congrArg Port.cut port
  unfold request
  split
  · split
    · exact ⟨rfl, rfl, rfl⟩
    · exact ⟨rx, cut, power⟩
  · exact ⟨rfl, rfl, rfl⟩

theorem takeFrame_rx (kind : Byte) (r : Req) (body : List Byte) (s : State) :
    (takeFrame kind r body s).port.rx = s.port.rx ∧ (takeFrame kind r body s).port.cut = s.port.cut ∧
      (takeFrame kind r body s).power = s.power := by
  unfold takeFrame
  split
  next known => exact request_rx fun eff s => catalogue_port eff s known
  next => exact request_rx fun _ _ => ⟨rfl, rfl⟩

/-! ## The control port's stream (11.1) -/

theorem syncSearch_length (a b : Byte) (l : List Byte) : (syncSearch a b l).length ≤ l.length := by
  induction l with
  | nil => exact le_rfl
  | cons x r ih =>
    cases r with
    | nil =>
      rw [syncSearch]
      split <;> simp
    | cons y r =>
      rw [syncSearch]
      split
      · exact le_rfl
      · exact ih.trans (Nat.le_succ _)

/-- Fuel beyond the bytes held makes no difference. -/
theorem portLoop_enough (protect : Bool) (n m : Nat) : ∀ {s : State}, s.port.rx.length < n → s.port.rx.length < m →
    portLoop protect n s = portLoop protect m s := by
  induction n generalizing m with
  | zero => exact fun short => absurd short (Nat.not_lt_zero _)
  | succ n ih =>
    intro s hn hm
    obtain ⟨m, rfl⟩ := Nat.exists_eq_add_of_lt (Nat.zero_lt_of_lt hm)
    rw [Nat.zero_add] at hm ⊢
    have shorter := syncSearch_length 0xC3 0x3C s.port.rx
    have rest (k : Nat) (t : State) (rx : t.port.rx = (syncSearch 0xC3 0x3C s.port.rx).drop k) (pos : 0 < k)
        (some' : 0 < (syncSearch 0xC3 0x3C s.port.rx).length) : portLoop protect n t = portLoop protect m t := by
      have fewer : t.port.rx.length < s.port.rx.length := by
        rw [rx, List.length_drop]
        omega
      exact ih m (by omega) (by omega)
    rw [portLoop, portLoop]
    split
    · rfl
    · split
      · exact rest 2 _ rfl (by decide) (by omega)
      · split
        · rfl
        · split
          · exact rest _ _ (takeFrame_rx _ _ _ _).1 (by omega) (by omega)
          · exact rest 2 _ rfl (by decide) (by omega)

/-- The receiver drains the bytes it holds. -/
def drained (protect : Bool) (s : State) : State := portLoop protect (s.port.rx.length + 1) s

theorem drained_step (protect : Bool) (s : State) : drained protect s =
    let buf := syncSearch 0xC3 0x3C s.port.rx
    let len := field buf 2 1
    if buf.length < 3 then setRx buf s
    else if 240 < len then drained protect (countDiscard (setRx (buf.drop 2) s))
    else if buf.length < 8 + len then setRx buf s
    else if controlCheck buf len then
      drained protect (takeFrame (BitVec.ofNat 8 (field buf 4 1)) (frameReq buf protect) (slice buf 6 len)
        (setRx (buf.drop (8 + len)) s))
    else drained protect (countDiscard (setRx (buf.drop 2) s)) := by
  have shorter := syncSearch_length 0xC3 0x3C s.port.rx
  have rest (k : Nat) (t : State) (rx : t.port.rx = (syncSearch 0xC3 0x3C s.port.rx).drop k) (pos : 0 < k)
      (some' : 0 < (syncSearch 0xC3 0x3C s.port.rx).length) : portLoop protect s.port.rx.length t = drained protect t := by
    have fewer : t.port.rx.length < s.port.rx.length := by
      rw [rx, List.length_drop]
      omega
    exact portLoop_enough protect _ _ fewer (Nat.lt_succ_self _)
  rw [drained, portLoop]
  dsimp only
  split
  · rfl
  · split
    · exact rest 2 _ rfl (by decide) (by omega)
    · split
      · rfl
      · split
        · exact rest _ _ (takeFrame_rx _ _ _ _).1 (by omega) (by omega)
        · exact rest 2 _ rfl (by decide) (by omega)

theorem portBytes_eq (protect : Bool) (bs : List Byte) (s : State) : portBytes protect bs s = drained protect (hear bs s) := rfl

theorem discard_row {s : State} (on : s.power = true) (bs : List Byte) (protect : Bool) :
    exec (.controlFrameDiscard bs protect) s = .next (drained protect (hear bs s)) :=
  congrArg Host.Outcome.next (if_pos on)

/-- Where no silence stands behind a first sync byte, bytes heard join those held. -/
theorem hear_uncut {s : State} (uncut : s.port.cut = false) (bs : List Byte) : hear bs s = setRx (s.port.rx ++ bs) s := by
  unfold hear
  dsimp only
  rw [uncut]

theorem setRx_self {s : State} {rx : List Byte} (same : s.port.rx = rx) : setRx rx s = s := by
  rw [setRx, ← same]

/-- A receiver that holds nothing has nothing to drain. -/
theorem drained_nothing {s : State} (protect : Bool) (empty : s.port.rx = []) : drained protect s = setRx [] s := by
  rw [drained_step, empty]
  rfl

/-! ### The CRC and the fields of a frame (11.1) -/

theorem crcBit_lt (c : Nat) : crcBit c < 65536 := by
  unfold crcBit
  split
  · omega
  · exact Nat.xor_lt_two_pow (n := 16) (Nat.mod_lt _ (by decide)) (by decide)

theorem crcByte_lt (c : Nat) (b : Byte) : crcByte c b < 65536 := by
  unfold crcByte
  exact crcBit_lt _

theorem crc16_lt (bs : List Byte) : crc16 bs < 65536 := by
  have rest : ∀ c : Nat, c < 65536 → bs.foldl crcByte c < 65536 := by
    induction bs with
    | nil => exact fun _ h => h
    | cons b bs ih =>
      intro c _
      rw [List.foldl_cons]
      exact ih _ (crcByte_lt c b)
  exact rest _ (by decide)

theorem unbe_crc (bs : List Byte) : unbe (be 2 (crc16 bs)) = crc16 bs :=
  (unbe_be 2 _).trans (Nat.mod_eq_of_lt (crc16_lt bs))

theorem field_byte (pre : List Byte) (b : Byte) (rest : List Byte) : field (pre ++ b :: rest) pre.length 1 = b.toNat := by
  have here := field_behind pre (b :: rest) 0 1
  rw [Nat.add_zero] at here
  rw [here]
  simp [field, slice, unbe]

theorem be_one (x : Nat) : be 1 x = [BitVec.ofNat 8 x] := by
  simp [be]

theorem byte_toNat {x : Nat} (small : x < 256) : (BitVec.ofNat 8 x).toNat = x := by
  rw [BitVec.toNat_ofNat]
  exact Nat.mod_eq_of_lt small

theorem controlCheck_eq (a b len : Byte) (rest : List Byte) (k : Nat) : controlCheck (a :: b :: len :: rest) k =
    (crc16 ((len :: rest).take (4 + k)) == unbe (((len :: rest).drop (4 + k)).take 2)) := by
  rw [controlCheck, field, slice, slice, show 6 + k = (4 + k) + 1 + 1 by omega]
  rfl

/-- What the port makes of a frame's bytes at the head of what it holds. -/
theorem drained_frame {s : State} {len : Byte} {rest : List Byte} (protect : Bool)
    (held : syncSearch 0xC3 0x3C s.port.rx = 0xC3 :: 0x3C :: len :: rest) : drained protect s =
    if 240 < len.toNat then drained protect (countDiscard (setRx (len :: rest) s))
    else if rest.length < 5 + len.toNat then setRx (0xC3 :: 0x3C :: len :: rest) s
    else if crc16 ((len :: rest).take (4 + len.toNat)) = unbe (((len :: rest).drop (4 + len.toNat)).take 2) then
      drained protect (takeFrame (BitVec.ofNat 8 (field (0xC3 :: 0x3C :: len :: rest) 4 1))
        (frameReq (0xC3 :: 0x3C :: len :: rest) protect) (slice (0xC3 :: 0x3C :: len :: rest) 6 len.toNat)
        (setRx ((0xC3 :: 0x3C :: len :: rest).drop (8 + len.toNat)) s))
    else drained protect (countDiscard (setRx (len :: rest) s)) := by
  have length : field (0xC3 :: 0x3C :: len :: rest) 2 1 = len.toNat := field_byte [0xC3, 0x3C] len rest
  have enough : ¬ (0xC3 :: 0x3C :: len :: rest).length < 3 := by simp
  rw [drained_step, held]
  dsimp only
  rw [length, controlCheck_eq, if_neg enough]
  have short : (0xC3 :: 0x3C :: len :: rest).length < 8 + len.toNat ↔ rest.length < 5 + len.toNat := by
    simp only [List.length_cons]
    omega
  exact if_congr Iff.rfl rfl (if_congr short rfl (if_congr beq_iff_eq rfl rfl))

/-! ### Request rows (11.1) -/

theorem wf_body {c : Instr} {kind : Byte} {r : Req} {body : List Byte} (row : requestOf c = some (kind, r, body))
    (wf : c.wf = true) : body.length ≤ 240 := by
  cases c <;> cases row <;> simp only [Instr.wf, bodyFits, Bool.and_eq_true, decide_eq_true_eq] at wf <;>
    first | exact wf | exact wf.1 | exact wf.2

/-- A request frame's bytes, its length byte apart. -/
def requestTail (kind : Byte) (r : Req) (body : List Byte) : List Byte :=
  r.level :: kind :: r.tag :: body ++ be 2 (crc16 (BitVec.ofNat 8 body.length :: r.level :: kind :: r.tag :: body))

theorem requestBytes_eq (kind : Byte) (r : Req) (body : List Byte) : requestBytes kind r body =
    0xC3 :: 0x3C :: BitVec.ofNat 8 body.length :: requestTail kind r body := by
  rw [requestBytes, be_one]
  rfl

theorem setRx_uncut {s : State} (uncut : s.port.cut = false) (rx : List Byte) : setRx rx s = setRx rx (Machine.listen s) := by
  rw [setRx, setRx, Machine.listen, setCut, setRx, ← uncut]

/-- A searching receiver finds the frame that comes next. -/
theorem syncSearch_searching {s : State} (searching : s.port.searching = true) (rest : List Byte) :
    hear (0xC3 :: 0x3C :: rest) s = setRx (s.port.rx ++ 0xC3 :: 0x3C :: rest) (Machine.listen s) ∧
      syncSearch 0xC3 0x3C (s.port.rx ++ 0xC3 :: 0x3C :: rest) = 0xC3 :: 0x3C :: rest := by
  have alone : syncSearch 0xC3 0x3C (0xC3 :: 0x3C :: rest) = 0xC3 :: 0x3C :: rest := syncSearch_finds (by decide) rest [] (by decide)
  unfold Port.searching at searching
  split at searching
  next cut empty =>
    rw [empty]
    refine ⟨?_, alone⟩
    cases silence : s.port.cut with
    | false => rw [hear_uncut silence, empty, setRx_uncut silence]
    | true =>
      unfold hear
      dsimp only
      rw [silence, empty]
      rfl
  next b one uncut =>
    refine ⟨?_, ?_⟩
    · rw [hear_uncut uncut, setRx_uncut uncut]
    · rw [one]
      refine syncSearch_finds (by decide) rest [b] fun pair => ?_
      have same := pair.eq_of_length rfl
      cases same
  next => cases searching

/-- A complete, correct request frame is taken where the search finds it (R166, R167). -/
theorem drained_request {s : State} {kind : Byte} {r : Req} {body : List Byte} (short : body.length ≤ 240)
    (held : syncSearch 0xC3 0x3C s.port.rx = requestBytes kind r body) :
    drained r.protect s = takeFrame kind r body (setRx [] s) := by
  rw [requestBytes_eq] at held
  have len : (BitVec.ofNat 8 body.length : Byte).toNat = body.length := byte_toNat (by omega)
  set frame := BitVec.ofNat 8 body.length :: r.level :: kind :: r.tag :: body with frame_eq
  have bytes : BitVec.ofNat 8 body.length :: requestTail kind r body = frame ++ be 2 (crc16 frame) := rfl
  have size : frame.length = 4 + body.length := by simp [frame_eq]; omega
  have all : (requestTail kind r body).length = 5 + body.length := by
    have := congrArg List.length bytes
    rw [List.length_append, size, be_length, List.length_cons] at this
    omega
  rw [drained_frame r.protect held, len, if_neg (by omega), if_neg (by omega), bytes, List.take_left' size,
    List.drop_left' size, List.take_of_length_le (by simp), unbe_crc, if_pos rfl]
  have kind' : field (0xC3 :: 0x3C :: (frame ++ be 2 (crc16 frame))) 4 1 = kind.toNat := field_byte [0xC3, 0x3C, _, _] kind _
  have level : field (0xC3 :: 0x3C :: (frame ++ be 2 (crc16 frame))) 3 1 = r.level.toNat := field_byte [0xC3, 0x3C, _] r.level _
  have tag : field (0xC3 :: 0x3C :: (frame ++ be 2 (crc16 frame))) 5 1 = r.tag.toNat := field_byte [0xC3, 0x3C, _, _, _] r.tag _
  have inner : slice (0xC3 :: 0x3C :: (frame ++ be 2 (crc16 frame))) 6 body.length = body := List.take_left' rfl
  have behind : (0xC3 :: 0x3C :: (frame ++ be 2 (crc16 frame))).drop (8 + body.length) = [] :=
    List.drop_eq_nil_of_le (by simp [size]; omega)
  rw [frameReq, kind', level, tag, inner, behind, BitVec.ofNat_toNat, BitVec.ofNat_toNat, BitVec.ofNat_toNat,
    BitVec.setWidth_eq, BitVec.setWidth_eq, BitVec.setWidth_eq, drained_nothing r.protect (takeFrame_rx _ _ _ _).1]
  exact setRx_self (takeFrame_rx kind r body (setRx [] s)).1

/-- Settles O52: the request row of a searching receiver is what its frame's bytes do. -/
theorem requestRowsAreTheirFrames : Obligations.RequestRowsAreTheirFrames := by
  intro c kind r body s row wf on
  have short := wf_body row wf
  refine ⟨?_, fun searching => ⟨?_, _, exec_request row s, ?_⟩⟩
  · rw [discard_row on, exec_request row]
    cases searching : s.port.searching with
    | false => rw [requestRow_inside on searching, portBytes_eq]
    | true =>
      obtain ⟨heard', found⟩ := syncSearch_searching searching (BitVec.ofNat 8 body.length :: requestTail kind r body)
      rw [requestRow_searching on searching, requestBytes_eq, heard', drained_request short (found.trans (requestBytes_eq kind r body).symm)]
      rfl
  · rw [exec_request row, exec_request row, requestRow_searching on searching,
      requestRow_searching (s := { s with port := { s.port with rx := [], cut := false } }) on rfl]
    rfl
  · rw [requestRow_searching on searching]
    obtain ⟨rx, cut, -⟩ := takeFrame_rx kind r body (Machine.listen s)
    exact ⟨rx, cut⟩

end Sys2Proof.Proofs
end

section
/-! PROOFS. The sample link's stream (1.1), and what either serial link drops (1.1.1, 11.1). -/

namespace Sys2Proof.Proofs

open Sys2Proof.Machine Sys2Proof.Laws

/-! ## A sample frame's bytes (11.5) -/

theorem slice_at (before run behind : List Byte) : slice (before ++ (run ++ behind)) before.length run.length = run := by
  rw [slice, List.drop_left' rfl, List.take_left' rfl]

theorem unbeInt_beInt {x : Int} (low : -8388608 ≤ x) (high : x ≤ 8388607) : unbeInt (beInt 3 x) = x := by
  have bound : (x % (256 ^ 3 : Nat)).toNat < 256 ^ 3 := by omega
  rw [unbeInt, beInt, unbe_be, Nat.mod_eq_of_lt bound, be_length]
  split <;> omega

/-- The three parts of a sample frame's bytes: sync, what the check covers, check (R173). -/
def sampleMiddle (f : RawFrame) : List Byte :=
  be 4 f.seq.toNat ++ ([f.status] ++ (beInt 3 f.a ++ (beInt 3 f.b ++ beInt 3 f.c)))

theorem sampleMiddle_length (f : RawFrame) : (sampleMiddle f).length = 14 := by
  simp [sampleMiddle]

theorem sampleBytes_eq (f : RawFrame) :
    sampleBytes f = 0xE7 :: 0x18 :: (sampleMiddle f ++ be 2 (crc16 (sampleMiddle f))) := by
  simp [sampleBytes, sampleMiddle]

theorem sampleBytes_length (f : RawFrame) : (sampleBytes f).length = 18 := by
  rw [sampleBytes_eq, List.length_cons, List.length_cons, List.length_append, sampleMiddle_length, be_length]

/-- The fields are read back whole (R173). -/
theorem sampleFields_of {f : RawFrame} (fits : f.in24) (behind : List Byte) :
    sampleFields (0xE7 :: 0x18 :: (sampleMiddle f ++ behind)) = f := by
  obtain ⟨⟨la, ha⟩, ⟨lb, hb⟩, lc, hc⟩ := fits
  have seq : slice (0xE7 :: 0x18 :: (sampleMiddle f ++ behind)) 2 4 = be 4 f.seq.toNat := by
    have := slice_at [0xE7, 0x18] (be 4 f.seq.toNat) ([f.status] ++ (beInt 3 f.a ++ (beInt 3 f.b ++ beInt 3 f.c)) ++ behind)
    rw [be_length] at this
    simpa [sampleMiddle] using this
  have status : slice (0xE7 :: 0x18 :: (sampleMiddle f ++ behind)) 6 1 = [f.status] := by
    have := slice_at ([0xE7, 0x18] ++ be 4 f.seq.toNat) [f.status] ((beInt 3 f.a ++ (beInt 3 f.b ++ beInt 3 f.c)) ++ behind)
    simpa [sampleMiddle] using this
  have a : slice (0xE7 :: 0x18 :: (sampleMiddle f ++ behind)) 7 3 = beInt 3 f.a := by
    have := slice_at ([0xE7, 0x18] ++ be 4 f.seq.toNat ++ [f.status]) (beInt 3 f.a) ((beInt 3 f.b ++ beInt 3 f.c) ++ behind)
    rw [beInt_length] at this
    simpa [sampleMiddle] using this
  have b : slice (0xE7 :: 0x18 :: (sampleMiddle f ++ behind)) 10 3 = beInt 3 f.b := by
    have := slice_at ([0xE7, 0x18] ++ be 4 f.seq.toNat ++ [f.status] ++ beInt 3 f.a) (beInt 3 f.b) (beInt 3 f.c ++ behind)
    rw [beInt_length] at this
    simpa [sampleMiddle] using this
  have c : slice (0xE7 :: 0x18 :: (sampleMiddle f ++ behind)) 13 3 = beInt 3 f.c := by
    have := slice_at ([0xE7, 0x18] ++ be 4 f.seq.toNat ++ [f.status] ++ beInt 3 f.a ++ beInt 3 f.b) (beInt 3 f.c) behind
    rw [beInt_length] at this
    simpa [sampleMiddle] using this
  have seqBack : BitVec.ofNat 32 (unbe (be 4 f.seq.toNat)) = f.seq := by
    rw [unbe_be, Nat.mod_eq_of_lt (by exact f.seq.isLt), BitVec.ofNat_toNat, BitVec.setWidth_eq]
  have statusBack : BitVec.ofNat 8 (unbe [f.status]) = f.status := by
    simp [unbe]
  rw [sampleFields, field, field, fieldInt, fieldInt, fieldInt, seq, status, a, b, c, seqBack, statusBack,
    unbeInt_beInt la ha, unbeInt_beInt lb hb, unbeInt_beInt lc hc]

theorem sampleCheck_eq (a b : Byte) (rest : List Byte) :
    sampleCheck (a :: b :: rest) = (crc16 (rest.take 14) == unbe ((rest.drop 14).take 2)) := rfl

/-! ## The sample link's stream (1.1) -/

/-- The ring with one further sample: a full one loses its oldest (R16, R18). -/
def pushed (ring : List RingEntry) (c : Conditioned) : List RingEntry :=
  (if ring.length < Config.ringCap then ring else ring.drop 1) ++ [⟨c.n, c.d, c.clip, c.filled⟩]

theorem conditionFrame_handled (f : RawFrame) (filled : Bool) (s : State) : ∃ t,
    handled { s with
      dc := (conditioned s f filled).2, newest := some f.seq, due := ⟨false, true, true⟩, table := t
      ring := pushed s.ring (conditioned s f filled).1 } (conditionFrame f filled s) := by
  obtain ⟨t, written⟩ := ringWrite_shape (conditioned s f filled).1
    { s with dc := (conditioned s f filled).2, newest := some f.seq, due := ⟨false, true, true⟩ }
  refine ⟨t, ?_⟩
  have taken := deliver_handled (conditioned s f filled).1 (ringWrite (conditioned s f filled).1
    { s with dc := (conditioned s f filled).2, newest := some f.seq, due := ⟨false, true, true⟩ })
  rw [written] at taken
  rw [conditionFrame, written]
  exact taken

theorem conditionFrame_link (f : RawFrame) (filled : Bool) (s : State) :
    (conditionFrame f filled s).intake = s.intake ∧ (conditionFrame f filled s).power = s.power := by
  obtain ⟨t, tb, u, d, c, a, re, du, rv, ps, ch, shape⟩ := conditionFrame_handled f filled s
  rw [shape]
  exact ⟨rfl, rfl⟩

theorem acceptFrame_link (now : Nat) (f : RawFrame) (s : State) : (acceptFrame now f s).intake =
    { s.intake with lastRaw := some f, expected := some (f.seq + 1), silence := some now } ∧
      (acceptFrame now f s).power = s.power :=
  conditionFrame_link f false _

theorem fillFrames_link (raw : RawFrame) (j : Nat) : ∀ (n : Sample) (s : State),
    (fillFrames raw j n s).intake = s.intake ∧ (fillFrames raw j n s).power = s.power := by
  induction j with
  | zero => exact fun _ _ => ⟨rfl, rfl⟩
  | succ j ih =>
    intro n s
    obtain ⟨intake, power⟩ := ih (n + 1) (conditionFrame { raw with seq := n } true s)
    obtain ⟨intake', power'⟩ := conditionFrame_link { raw with seq := n } true s
    exact ⟨intake.trans intake', power.trans power'⟩

theorem chainAfterGap_link (s : State) : (chainAfterGap s).intake = s.intake ∧ (chainAfterGap s).power = s.power := by
  unfold chainAfterGap
  split <;> exact ⟨rfl, rfl⟩

theorem chainRestart_link (s : State) : (chainRestart s).intake = s.intake ∧ (chainRestart s).power = s.power := by
  unfold chainRestart
  split
  · unfold autostart
    split
    · dsimp only
      split
      · rw [invalidateImport_eq]
        exact ⟨rfl, rfl⟩
      · exact ⟨rfl, rfl⟩
    · exact ⟨rfl, rfl⟩
  · exact ⟨rfl, rfl⟩

/-- What ends the record before a new one leaves the link. -/
theorem newRecord_link (s : State) : (resync (chainLongGap s)).intake = s.intake ∧
    (resync (chainLongGap s)).power = s.power := by
  obtain ⟨t, u, a, r, b, be, pe, shape⟩ := newRecord_shape s
  rw [shape]
  exact ⟨rfl, rfl⟩

theorem shortGap_link (now : Nat) (f : RawFrame) (e : Sample) (j : Nat) (s : State) : (shortGap now f e j s).intake =
    { s.intake with
      lastRaw := some f, expected := some (f.seq + 1), silence := some now, filled := min (s.intake.filled + j) 65535 } ∧
    (shortGap now f e j s).power = s.power := by
  unfold shortGap
  cases s.intake.lastRaw with
  | none => exact acceptFrame_link now f _
  | some raw =>
    obtain ⟨filled, power⟩ := fillFrames_link raw j e s
    obtain ⟨intake, power'⟩ := acceptFrame_link now f { fillFrames raw j e s with
      intake := { (fillFrames raw j e s).intake with filled := sat16 ((fillFrames raw j e s).intake.filled + j) } }
    exact ⟨intake.trans (by rw [filled]; rfl), power'.trans power⟩

theorem longGap_link (now : Nat) (f : RawFrame) (e : Sample) (s : State) : (longGap now f e s).intake =
    { s.intake with
      lastRaw := some f, expected := some (f.seq + 1), silence := some now, gaps := min (s.intake.gaps + 1) 65535 } ∧
    (longGap now f e s).power = s.power := by
  have noted : (raise (.longGap e f.seq) { s with intake := { s.intake with gaps := sat16 (s.intake.gaps + 1) } }).power =
      s.power := by
    obtain ⟨t, a, r, shape⟩ := raise_shape (.longGap e f.seq) { s with intake := { s.intake with gaps := sat16 (s.intake.gaps + 1) } }
    rw [shape]
  rw [longGap]
  obtain ⟨intake, power⟩ := acceptFrame_link now f (chainAfterGap (resync (chainLongGap
    (raise (.longGap e f.seq) { s with intake := { s.intake with gaps := sat16 (s.intake.gaps + 1) } }))))
  refine ⟨intake.trans ?_, power.trans ?_⟩
  · rw [(chainAfterGap_link _).1, (newRecord_link _).1, raise_intake]
    rfl
  · rw [(chainAfterGap_link _).2, (newRecord_link _).2, noted]

theorem resume_link (now : Nat) (f : RawFrame) (s : State) : (resume now f s).intake =
    { s.intake with link := .up, lastRaw := some f, expected := some (f.seq + 1), silence := some now } ∧
    (resume now f s).power = s.power := by
  rw [resume]
  obtain ⟨intake, power⟩ := acceptFrame_link now f (chainRestart (resync (chainLongGap
    { s with intake := { s.intake with link := .up } })))
  refine ⟨intake.trans ?_, power.trans ?_⟩
  · rw [(chainRestart_link _).1, (newRecord_link _).1]
  · rw [(chainRestart_link _).2, (newRecord_link _).2]

/-- A good frame leaves the bytes held behind it, and the power. -/
theorem goodFrame_rx (now : Nat) (f : RawFrame) (s : State) :
    (goodFrame now f s).intake.rx = s.intake.rx ∧ (goodFrame now f s).power = s.power := by
  unfold goodFrame
  split
  next e up expected =>
    unfold classify
    dsimp only
    split
    · exact ⟨rfl, rfl⟩
    · split
      · obtain ⟨intake, power⟩ := acceptFrame_link now f s
        exact ⟨by rw [intake], power⟩
      · split
        · obtain ⟨intake, power⟩ := shortGap_link now f e (distance e f.seq).toNat s
          exact ⟨by rw [intake], power⟩
        · obtain ⟨intake, power⟩ := longGap_link now f e s
          exact ⟨by rw [intake], power⟩
  next =>
    obtain ⟨intake, power⟩ := resume_link now f s
    exact ⟨by rw [intake], power⟩

/-- Fuel beyond the bytes held makes no difference. -/
theorem intakeLoop_enough (now : Nat) (n m : Nat) : ∀ {s : State}, s.intake.rx.length < n → s.intake.rx.length < m →
    intakeLoop now n s = intakeLoop now m s := by
  induction n generalizing m with
  | zero => exact fun short => absurd short (Nat.not_lt_zero _)
  | succ n ih =>
    intro s hn hm
    obtain ⟨m, rfl⟩ := Nat.exists_eq_add_of_lt (Nat.zero_lt_of_lt hm)
    rw [Nat.zero_add] at hm ⊢
    have shorter := syncSearch_length 0xE7 0x18 s.intake.rx
    have rest (k : Nat) (t : State) (rx : t.intake.rx = (syncSearch 0xE7 0x18 s.intake.rx).drop k) (pos : 0 < k)
        (some' : 0 < (syncSearch 0xE7 0x18 s.intake.rx).length) : intakeLoop now n t = intakeLoop now m t := by
      have fewer : t.intake.rx.length < s.intake.rx.length := by
        rw [rx, List.length_drop]
        omega
      exact ih m (by omega) (by omega)
    rw [intakeLoop, intakeLoop]
    by_cases short : (syncSearch 0xE7 0x18 s.intake.rx).length < sampleLen
    · rw [if_pos short, if_pos short]
    · have long : 18 ≤ (syncSearch 0xE7 0x18 s.intake.rx).length := not_lt.mp short
      rw [if_neg short, if_neg short]
      exact if_congr Iff.rfl (rest 18 _ (goodFrame_rx _ _ _).1 (by decide) (by omega)) (rest 2 _ rfl (by decide) (by omega))

/-- The intake takes the frames among the bytes it holds. -/
def taken (now : Nat) (s : State) : State := intakeLoop now (s.intake.rx.length + 1) s

/-- What the intake makes of a frame's bytes at the head of what it holds. -/
theorem taken_frame {now : Nat} {s : State} {rest : List Byte}
    (held : syncSearch 0xE7 0x18 s.intake.rx = 0xE7 :: 0x18 :: rest) : taken now s =
    if rest.length < 16 then { s with intake := { s.intake with rx := 0xE7 :: 0x18 :: rest } }
    else if crc16 (rest.take 14) = unbe ((rest.drop 14).take 2) then
      taken now (goodFrame now (sampleFields (0xE7 :: 0x18 :: rest)) { s with intake := { s.intake with rx := rest.drop 16 } })
    else taken now { s with intake := { s.intake with rx := rest, bad := min (s.intake.bad + 1) 65535 } } := by
  have shorter := syncSearch_length 0xE7 0x18 s.intake.rx
  rw [held, List.length_cons, List.length_cons] at shorter
  have enough (t : State) (fewer : t.intake.rx.length ≤ rest.length) :
      intakeLoop now s.intake.rx.length t = taken now t :=
    intakeLoop_enough now _ _ (by omega) (Nat.lt_succ_self _)
  have short : (0xE7 :: 0x18 :: rest).length < sampleLen ↔ rest.length < 16 := by
    simp only [List.length_cons, sampleLen]
    omega
  rw [taken, intakeLoop, held, sampleCheck_eq]
  dsimp only
  refine if_congr short rfl (if_congr beq_iff_eq ?_ ?_)
  · refine enough _ ?_
    rw [(goodFrame_rx _ _ _).1]
    exact (List.drop_sublist 16 rest).length_le
  · exact enough _ le_rfl

/-- Bytes in which no frame has begun: a last first-sync byte is held. -/
theorem taken_short {now : Nat} {s : State} (short : (syncSearch 0xE7 0x18 s.intake.rx).length < 18) :
    taken now s = { s with intake := { s.intake with rx := syncSearch 0xE7 0x18 s.intake.rx } } :=
  if_pos short

/-- With no timer due a SAMPLE_FRAME sets the clock and hands its bytes to the intake (R1; log 5). -/
theorem sampleFrame_quiet {s : State} {tick : Nat} (on : s.power = true) (quiet : s.quietUntil tick) (bs : List Byte) :
    exec (.sampleFrame bs tick) s =
      .next (taken tick { s with clock := tick, intake := { s.intake with rx := s.intake.rx ++ bs } }) := by
  obtain ⟨clock, silence, timer⟩ := quiet
  have still : runTimers tick (timerFuel tick s) s = s :=
    expired_quiet (fun d is => by simpa [is] using silence) (fun d is => by simpa [is] using timer)
  have advanced : advanceTo tick s = { s with clock := tick } := by
    rw [advanceTo, still, Nat.max_eq_right clock]
  change Host.Outcome.next (if s.power then takeBytes (advanceTo tick s).clock bs (advanceTo tick s) else s) = _
  rw [if_pos on, advanced]
  rfl

/-- A whole good frame at the head of what is held is taken, and the rest behind it. -/
theorem taken_sample {now : Nat} {s : State} {f : RawFrame} (fits : f.in24) {more : List Byte}
    (held : s.intake.rx = sampleBytes f ++ more) :
    taken now s = taken now (goodFrame now f { s with intake := { s.intake with rx := more } }) := by
  set check := be 2 (crc16 (sampleMiddle f)) with check_eq
  have size := sampleMiddle_length f
  have bytes : sampleBytes f ++ more = 0xE7 :: 0x18 :: (sampleMiddle f ++ (check ++ more)) := by
    rw [sampleBytes_eq, List.cons_append, List.cons_append, List.append_assoc]
  have two : check.length = 2 := be_length 2 _
  have found : syncSearch 0xE7 0x18 s.intake.rx = 0xE7 :: 0x18 :: (sampleMiddle f ++ (check ++ more)) := by
    rw [held, bytes]
    exact syncSearch_finds (by decide) _ [] (by decide)
  have enough : ¬ (sampleMiddle f ++ (check ++ more)).length < 16 := by
    rw [List.length_append, List.length_append]
    omega
  have behind : (sampleMiddle f ++ (check ++ more)).drop 16 = more := by
    rw [← List.append_assoc]
    exact List.drop_left' (by rw [List.length_append]; omega)
  rw [taken_frame found, if_neg enough, List.take_left' size, List.drop_left' size, List.take_left' two, unbe_crc, if_pos rfl,
    sampleFields_of fits, behind]

/-! ## What the sample link drops (1.1.1) -/

theorem taken_nothing {now : Nat} {s : State} (empty : s.intake.rx = []) : taken now s = s := by
  have found : syncSearch 0xE7 0x18 s.intake.rx = s.intake.rx := by rw [empty]; rfl
  rw [taken_short (by rw [empty]; decide), found]

/-- A whole good frame alone. -/
theorem sampleFrame_whole {s : State} {f : RawFrame} {tick : Nat} (on : s.power = true) (empty : s.intake.rx = [])
    (quiet : s.quietUntil tick) (fits : f.in24) :
    exec (.sampleFrame (sampleBytes f) tick) s = .next (goodFrame tick f { s with clock := tick }) := by
  have held : ({ s with clock := tick, intake := { s.intake with rx := s.intake.rx ++ sampleBytes f } } : State).intake.rx =
      sampleBytes f ++ [] := by
    rw [List.append_nil, empty, List.nil_append]
  rw [sampleFrame_quiet on quiet, taken_sample fits held, taken_nothing (goodFrame_rx _ _ _).1, ← empty]

theorem goodFrame_stale {s : State} {f : RawFrame} {e : Sample} {now : Nat} (up : s.intake.link = .up)
    (expected : s.intake.expected = some e) (behind : distance e f.seq < 0) : goodFrame now f s =
    { s with intake := { s.intake with stale := min (s.intake.stale + 1) 65535 } } := by
  rw [goodFrame, up, expected]
  exact if_pos behind

theorem not_infix_of_absent {a b : Byte} {l : List Byte} (absent : ∀ x ∈ l, x ≠ a) : ¬ [a, b] <:+: l :=
  fun pair => absent a (pair.subset List.mem_cons_self) rfl

theorem getLast?_of_absent {a : Byte} {l : List Byte} (absent : ∀ x ∈ l, x ≠ a) : ¬ l.getLast? = some a :=
  fun last => absent a (List.mem_of_getLast? last) rfl

/-- Bytes without a pair leave at most one byte to hold. -/
theorem syncSearch_without_length {a b : Byte} {l : List Byte} (none' : ¬ [a, b] <:+: l) : (syncSearch a b l).length ≤ 1 := by
  rw [syncSearch_without l none']
  split <;> simp

/-! ## What the control port drops (11.1) -/

theorem drained_without {s : State} (protect : Bool) (none' : ¬ [0xC3, 0x3C] <:+: s.port.rx) :
    drained protect s = setRx (if s.port.rx.getLast? = some 0xC3 then [0xC3] else []) s := by
  have short := syncSearch_without_length none'
  rw [drained_step]
  dsimp only
  rw [if_pos (by omega), syncSearch_without _ none']

theorem hear_alone {s : State} (empty : s.port.rx = []) (uncut : s.port.cut = false) (bs : List Byte) :
    hear bs s = setRx bs s := by
  rw [hear_uncut uncut, empty, List.nil_append]

theorem setRx_setRx (a b : List Byte) (s : State) : setRx a (setRx b s) = setRx a s := rfl

/-- Bytes held and bytes heard are one stream. -/
theorem hear_stream (bs : List Byte) (s : State) : hear bs s = hear (s.port.rx ++ bs) (setRx [] s) := by
  unfold hear
  dsimp only
  rw [setRx_rx, List.nil_append, setRx_cut]
  cases s.port.cut with
  | false => rfl
  | true =>
    cases s.port.rx ++ bs with
    | nil => rfl
    | cons b rest => dsimp only; split <;> rfl

/-- Behind a silence the next byte says whether the first sync byte before it began a frame (R167; log 11). -/
theorem hear_silent {s : State} (empty : s.port.rx = []) (silent : s.port.cut = true) : hear [] s = s := by
  unfold hear
  dsimp only
  rw [silent, empty]
  exact setRx_self empty

theorem hear_completes {s : State} {b : Byte} {rest : List Byte} (empty : s.port.rx = []) (silent : s.port.cut = true)
    (completes : b = 0x3C) : hear (b :: rest) s = countDiscard (setRx rest (setCut false s)) := by
  unfold hear
  dsimp only
  rw [silent, empty]
  exact if_pos completes

theorem hear_begins {s : State} {b : Byte} {rest : List Byte} (empty : s.port.rx = []) (silent : s.port.cut = true)
    (other : b ≠ 0x3C) : hear (b :: rest) s = setRx (b :: rest) (setCut false s) := by
  unfold hear
  dsimp only
  rw [silent, empty]
  exact if_neg other

theorem portLoop_shrinks (protect : Bool) (n : Nat) : ∀ s : State,
    (portLoop protect n s).port.rx.length ≤ s.port.rx.length ∧ (portLoop protect n s).power = s.power := by
  induction n with
  | zero => exact fun _ => ⟨le_rfl, rfl⟩
  | succ n ih =>
    intro s
    have shorter := syncSearch_length 0xC3 0x3C s.port.rx
    have rest (k : Nat) (t : State) (rx : t.port.rx = (syncSearch 0xC3 0x3C s.port.rx).drop k) (power : t.power = s.power) :
        (portLoop protect n t).port.rx.length ≤ s.port.rx.length ∧ (portLoop protect n t).power = s.power := by
      obtain ⟨fewer, power'⟩ := ih t
      have := congrArg List.length rx
      rw [List.length_drop] at this
      exact ⟨by omega, power'.trans power⟩
    rw [portLoop]
    split
    · exact ⟨shorter, rfl⟩
    · split
      · exact rest 2 _ rfl rfl
      · split
        · exact ⟨shorter, rfl⟩
        · split
          · exact rest _ _ (takeFrame_rx _ _ _ _).1 (takeFrame_rx _ _ _ _).2.2
          · exact rest 2 _ rfl rfl

/-- Bytes heard come out of those held and those that arrive. -/
theorem hear_shrinks (bs : List Byte) (s : State) :
    (hear bs s).port.rx.length ≤ (s.port.rx ++ bs).length ∧ (hear bs s).power = s.power := by
  unfold hear
  dsimp only
  split
  next b rest _ all =>
    rw [all]
    split
    · exact ⟨Nat.le_succ _, rfl⟩
    · exact ⟨le_rfl, rfl⟩
  next => exact ⟨le_rfl, rfl⟩

theorem portBytes_shrinks (protect : Bool) (bs : List Byte) (s : State) :
    (portBytes protect bs s).port.rx.length ≤ (s.port.rx ++ bs).length ∧ (portBytes protect bs s).power = s.power := by
  obtain ⟨fewer, power⟩ := portLoop_shrinks protect ((hear bs s).port.rx.length + 1) (hear bs s)
  obtain ⟨fewer', power'⟩ := hear_shrinks bs s
  exact ⟨fewer.trans fewer', power.trans power'⟩

/-- One frame in progress abandoned: the search resumes behind its sync (R167). -/
def abandonOne (protect : Bool) (s : State) : State := portBytes protect [] (countDiscard (setRx (s.port.rx.drop 2) s))

theorem abandonOne_shrinks (protect : Bool) (s : State) :
    (abandonOne protect s).port.rx.length ≤ s.port.rx.length - 2 ∧ (abandonOne protect s).power = s.power := by
  obtain ⟨fewer, power⟩ := portBytes_shrinks protect [] (countDiscard (setRx (s.port.rx.drop 2) s))
  rw [List.append_nil, countDiscard_rx, setRx_rx, List.length_drop] at fewer
  exact ⟨fewer, power⟩

/-- Fuel beyond the bytes held makes no difference. -/
theorem abandonLoop_enough (protect : Bool) (n m : Nat) : ∀ {s : State}, s.port.rx.length < n → s.port.rx.length < m →
    abandonLoop protect n s = abandonLoop protect m s := by
  induction n generalizing m with
  | zero => exact fun short => absurd short (Nat.not_lt_zero _)
  | succ n ih =>
    intro s hn hm
    obtain ⟨m, rfl⟩ := Nat.exists_eq_add_of_lt (Nat.zero_lt_of_lt hm)
    rw [Nat.zero_add] at hm ⊢
    rw [abandonLoop, abandonLoop]
    by_cases several : 2 ≤ s.port.rx.length
    · obtain ⟨fewer, -⟩ := abandonOne_shrinks protect s
      rw [if_pos several, if_pos several]
      exact ih m (s := abandonOne protect s) (by omega) (by omega)
    · rw [if_neg several, if_neg several]

theorem abandoned_row {s : State} (on : s.power = true) (protect : Bool) :
    exec (.controlFrameAbandoned protect) s = .next (abandonLoop protect (s.port.rx.length + 1) s) :=
  congrArg Host.Outcome.next (if_pos on)

/-- A frame in progress abandoned, and the same silence again for what is then held. -/
theorem abandoned_several {s : State} (on : s.power = true) (protect : Bool) (several : 2 ≤ s.port.rx.length) :
    exec (.controlFrameAbandoned protect) s = exec (.controlFrameAbandoned protect) (abandonOne protect s) := by
  obtain ⟨fewer, power⟩ := abandonOne_shrinks protect s
  rw [abandoned_row on, abandoned_row (power.trans on), abandonLoop, if_pos several]
  exact congrArg Host.Outcome.next
    (abandonLoop_enough protect s.port.rx.length _ (s := abandonOne protect s) (by omega) (Nat.lt_succ_self _))

/-- Settles O27: each link's stream, then what it makes of bytes that it cannot use. -/
theorem damagedAndStaleFramesAreOnlyCounted : Obligations.DamagedAndStaleFramesAreOnlyCounted := by
  intro s tick protect on empty counted bad
  refine ⟨fun quiet => ⟨fun bs => ?_, fun none' => ⟨fun f e fits up expected behind => ?_, fun bs absent => ?_, fun bs unpaired => ?_,
    fun pre rest unpaired => ⟨fun short => ?_, fun enough bad' => ?_⟩⟩⟩, fun bs => ?_,
    fun none' uncut => ⟨fun bs absent => ?_, fun bs unpaired => ?_, fun pre unpaired => ?_, fun pre len rest unpaired => ?_⟩,
    fun none' silent => ?_, fun none' => ?_, fun one => ?_, fun several => ?_⟩
  · rw [sampleFrame_quiet on quiet, sampleFrame_quiet (s := { s with intake := { s.intake with rx := [] } }) on quiet]
    rfl
  · rw [sampleFrame_whole on none' quiet fits, goodFrame_stale (s := { s with clock := tick }) up expected behind]
  · have unpaired := not_infix_of_absent (b := 0x18) absent
    have found : syncSearch 0xE7 0x18 (s.intake.rx ++ bs) = s.intake.rx := by
      rw [none', List.nil_append, syncSearch_without _ unpaired, if_neg (getLast?_of_absent absent)]
    rw [sampleFrame_quiet on quiet, taken_short (by dsimp only; rw [found, none']; decide)]
    dsimp only
    rw [found]
  · have short := syncSearch_without_length unpaired
    rw [sampleFrame_quiet on quiet, none', List.nil_append, taken_short (by dsimp only; omega)]
    dsimp only
    rw [syncSearch_without _ unpaired]
  · have found := syncSearch_finds (by decide) rest pre unpaired
    rw [sampleFrame_quiet on quiet, none', List.nil_append, taken_frame found, if_pos short]
  · have found := syncSearch_finds (by decide) rest pre unpaired
    rw [sampleFrame_quiet on quiet, none', List.nil_append, taken_frame found, if_neg (by omega), if_neg bad',
      sampleFrame_quiet (s := bad) on quiet]
    change _ = Host.Outcome.next (taken tick { s with
      clock := tick, intake := { s.intake with bad := min (s.intake.bad + 1) 65535, rx := s.intake.rx ++ rest } })
    rw [none', List.nil_append]
  · rw [discard_row on, discard_row (s := empty) on, hear_stream]
    rfl
  · rw [discard_row on, hear_alone none' uncut, drained_without _ (not_infix_of_absent absent), setRx_rx,
      if_neg (getLast?_of_absent absent), setRx_setRx, setRx_self none']
  · rw [discard_row on, hear_alone none' uncut, drained_without _ unpaired]
    rfl
  · have found := syncSearch_finds (by decide) [] pre unpaired
    rw [discard_row on, hear_alone none' uncut, drained_step, setRx_rx, found]
    rfl
  · intro frame
    have found := syncSearch_finds (by decide) (len :: rest) pre unpaired
    have resumed : exec (.controlFrameDiscard (len :: rest) protect) counted =
        .next (drained protect (countDiscard (setRx (len :: rest) s))) := by
      rw [discard_row (s := counted) on, hear_alone (s := counted) rfl uncut]
      rfl
    rw [resumed, discard_row on, hear_alone none' uncut, drained_frame (s := setRx frame s) protect found]
    refine ⟨fun long => ?_, fun fits short => ?_, fun fits whole bad' => ?_⟩
    · rw [if_pos long]
      rfl
    · rw [if_neg (by omega), if_pos short]
      rfl
    · rw [if_neg (by omega), if_neg (by omega), if_neg bad']
      rfl
  · intro joined
    have uncut : joined.port.cut = false := rfl
    refine ⟨?_, fun b rest => ⟨fun completes => ?_, fun other => ?_⟩⟩
    · rw [discard_row on, hear_silent none' silent, drained_nothing _ none', setRx_self none']
    · rw [discard_row on, hear_completes none' silent completes, discard_row (s := { joined with
        port := { joined.port with discarded := min (s.port.discarded + 1) 65535 } }) on,
        hear_alone (s := { joined with
          port := { joined.port with discarded := min (s.port.discarded + 1) 65535 } }) none' uncut]
      rfl
    · rw [discard_row on, hear_begins none' silent other, discard_row (s := joined) on, hear_alone (s := joined) none' uncut]
      rfl
  · rw [abandoned_row on, none', List.length_nil, abandonLoop, if_neg (by rw [none']; decide), cutSync, if_neg (by rw [none']; simp)]
  · rw [abandoned_row on, one, abandonLoop, if_neg (by rw [one]; decide), cutSync, if_pos one]
    rfl
  · refine ⟨abandonOne protect s, ?_, abandoned_several on protect several⟩
    rw [discard_row (s := counted) on, abandonOne, portBytes_eq, hear_stream [] (countDiscard _), List.append_nil]
    rfl

end Sys2Proof.Proofs
end

section
/-! PROOFS. The layouts of 11.5: numbers laid one behind another, bit fields within them, and the three records. -/

namespace Sys2Proof.Proofs

open Sys2Proof.Machine Sys2Proof.Laws

/-! ## Numbers laid one behind another -/

/-- Numbers in big-endian bytes, each given by its size and value, one behind another. -/
def lay (xs : List (Nat × Nat)) : List Byte := xs.flatMap fun x => be x.1 x.2

/-- Where each of them stands. -/
def rowsFrom : Nat → List (Nat × Nat) → List (Nat × Nat × Nat)
  | _, [] => []
  | off, x :: xs => (off, x.1, x.2) :: rowsFrom (off + x.1) xs

theorem lay_cons (x : Nat × Nat) (xs : List (Nat × Nat)) : lay (x :: xs) = be x.1 x.2 ++ lay xs := rfl

theorem lay_append (xs ys : List (Nat × Nat)) : lay (xs ++ ys) = lay xs ++ lay ys := List.flatMap_append

theorem lay_length (xs : List (Nat × Nat)) : (lay xs).length = (xs.map (·.1)).sum := by
  induction xs with
  | nil => rfl
  | cons x xs ih => rw [lay_cons, List.length_append, be_length, ih, List.map_cons, List.sum_cons]

/-- Each number that fits its bytes is read back where it stands. -/
theorem carries_lay (xs : List (Nat × Nat)) (behind : List Byte) : ∀ before : List Byte, (∀ x ∈ xs, x.2 < 256 ^ x.1) →
    carries (before ++ (lay xs ++ behind)) (rowsFrom before.length xs) := by
  induction xs with
  | nil => exact fun _ _ _ => nofun
  | cons x xs ih =>
    intro before fits r mem
    rw [lay_cons, List.append_assoc]
    rcases List.mem_cons.mp mem with rfl | mem
    · have here := field_behind before (be x.1 x.2 ++ (lay xs ++ behind)) 0 x.1
      rw [Nat.add_zero] at here
      exact here.trans (field_be _ (fits x List.mem_cons_self))
    · have further := ih (before ++ be x.1 x.2) (fun y mem => fits y (List.mem_cons_of_mem x mem))
      rw [List.length_append, be_length, List.append_assoc] at further
      exact further r mem

/-- The same for some of the rows, from the first byte on. -/
theorem carries_of_lay {xs : List (Nat × Nat)} {rows : List (Nat × Nat × Nat)} (behind : List Byte)
    (fits : ∀ x ∈ xs, x.2 < 256 ^ x.1) (among : ∀ r ∈ rows, r ∈ rowsFrom 0 xs) : carries (lay xs ++ behind) rows :=
  fun r mem => carries_lay xs behind [] fits r (among r mem)

/-! ## Codes (R169, R173, R174) -/

theorem SlotClass_code_eq (x : SlotClass) : x.code = classCodes.idxOf x ∧ x.code ≤ 2 := by cases x <;> decide
theorem Phase_code_eq (x : Phase) : x.code = callCodes.idxOf x ∧ x.code ≤ 2 := by cases x <;> decide
theorem Basis_code_eq (x : Basis) : x.code = basisCodes.idxOf x ∧ x.code ≤ 2 := by cases x <;> decide
theorem Role_code_eq (x : Role) : x.code = roleCodes.idxOf x ∧ x.code ≤ 3 := by cases x <;> decide
theorem TimeState_code_eq (x : TimeState) : x.code = timeCodes.idxOf x ∧ x.code ≤ 3 := by cases x <;> decide
theorem ResetKind_code_eq (x : ResetKind) : x.code = resetCodes.idxOf x ∧ x.code ≤ 2 := by cases x <;> decide

/-- A signed number in two's complement is read back (11.5). -/
theorem unbeInt_signed {k half : Nat} {x : Int} (size : 256 ^ k = 2 * half) (low : -(half : Int) ≤ x) (high : x < half) :
    unbeInt (beInt k x) = x := by
  have value : (x % ((256 ^ k : Nat) : Int)).toNat < 256 ^ k ∧
      (x % ((256 ^ k : Nat) : Int)).toNat = if 0 ≤ x then x else x + 2 * half := by
    rw [size]
    split
    next nonneg =>
      rw [Int.emod_eq_of_lt nonneg (by push_cast; omega)]
      omega
    next negative =>
      rw [← Int.add_emod_right, Int.emod_eq_of_lt (by push_cast; omega) (by push_cast; omega)]
      omega
  obtain ⟨bound, value⟩ := value
  rw [unbeInt, beInt, unbe_be, Nat.mod_eq_of_lt bound, be_length]
  generalize (x % ((256 ^ k : Nat) : Int)).toNat = y at *
  rw [size]
  split at value <;> split <;> push_cast <;> omega

/-! ## The GROUP and NOTICE records -/

/-- The numbers of a group record before its time difference. -/
def groupNumbers (g : GroupRecord) : List (Nat × Nat) :=
  [(1, 128 + 16 * g.role.code), (1, g.group.toNat), (4, g.pSeq.toNat), (4, g.sSeq.toNat), (2, g.samples)]

theorem groupRecord_laidOut {g : GroupRecord} (fits : (Record.group g).fits) : g.laidOut g.bytes := by
  obtain ⟨role, samples, low, high⟩ := fits
  obtain ⟨code, codeLe⟩ := Role_code_eq g.role
  have bytes : g.bytes = lay (groupNumbers g) ++ (beInt 8 g.us ++ []) := by
    simp [GroupRecord.bytes, groupNumbers, lay]
  have fit : ∀ x ∈ groupNumbers g, x.2 < 256 ^ x.1 := by
    have a := g.group.isLt
    have b := g.pSeq.isLt
    have c := g.sSeq.isLt
    simp only [groupNumbers, List.forall_mem_cons, List.not_mem_nil, false_imp_iff, implies_true, and_true]
    omega
  have head := carries_of_lay (rows := [(0, 1, 128 + 16 * g.role.code)]) (beInt 8 g.us ++ []) fit (by simp [groupNumbers, rowsFrom])
  rw [← bytes] at head
  have head : field g.bytes 0 1 = 128 + 16 * g.role.code := head _ List.mem_cons_self
  refine ⟨?_, ?_, ?_, ?_⟩
  · simp [bytes, lay_length, groupNumbers]
  · simp only [packs, List.forall_mem_cons, head, ← code, List.not_mem_nil, false_imp_iff, implies_true, and_true]
    omega
  · rw [bytes]
    exact carries_of_lay _ fit (by simp [groupNumbers, rowsFrom])
  · have twelve : (lay (groupNumbers g)).length = 12 := by simp [lay_length, groupNumbers]
    have run := slice_at (lay (groupNumbers g)) (beInt 8 g.us) []
    rw [twelve, beInt_length] at run
    rw [bytes, fieldInt, run]
    exact unbeInt_signed (half := 2 ^ 63) (by decide) (by exact_mod_cast low) (by exact_mod_cast high)

/-- The numbers of a notice's data, 8 bytes. -/
def dataNumbers : NoticeData → List (Nat × Nat)
  | .linkDown n => [(4, n.toNat), (4, 0)]
  | .longGap e a => [(4, e.toNat), (4, a.toNat)]
  | .warmupDone n => [(4, n.toNat), (4, 0)]
  | .baselineForced _ n => [(4, n.toNat), (4, 0)]
  | .timeState st m => [(1, st.code), (2, m), (5, 0)]
  | .storeDefaulted k => [(1, k.code), (7, 0)]
  | .trialExpired e i v => [(1, e.val), (1, i.id), (4, v), (2, 0)]

/-- The numbers of a notice record. -/
def noticeNumbers (n : NoticeRecord) : List (Nat × Nat) :=
  [(1, 192 + 32 * n.first.isSome.toNat), (1, n.data.key.val), (1, n.count), (4, (n.first.getD 0).toNat)] ++
    dataNumbers n.data

theorem noticeBytes_eq (n : NoticeRecord) : n.bytes = lay (noticeNumbers n) ++ [] := by
  rw [noticeNumbers, lay_append]
  cases data : n.data <;> simp [NoticeRecord.bytes, NoticeData.bytes, dataNumbers, lay, data]

/-- The key and the data stand where R173 puts them. -/
theorem dataRows_among (n : NoticeRecord) : ∀ r ∈ n.data.rows, r ∈ rowsFrom 0 (noticeNumbers n) := by
  unfold noticeNumbers
  cases n.data with
  | baselineForced w m => cases w <;> simp [NoticeData.rows, dataNumbers, rowsFrom, NoticeData.key]
  | timeState st m => simp [NoticeData.rows, dataNumbers, rowsFrom, NoticeData.key, (TimeState_code_eq st).1]
  | storeDefaulted k => simp [NoticeData.rows, dataNumbers, rowsFrom, NoticeData.key, (ResetKind_code_eq k).1]
  | trialExpired e i v => simp [NoticeData.rows, dataNumbers, rowsFrom, NoticeData.key, Item.id]
  | linkDown m => simp [NoticeData.rows, dataNumbers, rowsFrom, NoticeData.key]
  | longGap e a => simp [NoticeData.rows, dataNumbers, rowsFrom, NoticeData.key]
  | warmupDone m => simp [NoticeData.rows, dataNumbers, rowsFrom, NoticeData.key]

theorem dataNumbers_fit {d : NoticeData} (fits : ∀ r ∈ d.rows, r.2.2 < 256 ^ r.2.1) : ∀ x ∈ dataNumbers d, x.2 < 256 ^ x.1 := by
  cases d with
  | baselineForced w m => cases w <;> simpa [NoticeData.rows, dataNumbers] using fits
  | timeState st m => simpa [NoticeData.rows, dataNumbers, (TimeState_code_eq st).1] using fits
  | storeDefaulted k => simpa [NoticeData.rows, dataNumbers, (ResetKind_code_eq k).1] using fits
  | trialExpired e i v => simpa [NoticeData.rows, dataNumbers, Item.id] using fits
  | linkDown m => simpa [NoticeData.rows, dataNumbers] using fits
  | longGap e a => simpa [NoticeData.rows, dataNumbers] using fits
  | warmupDone m => simpa [NoticeData.rows, dataNumbers] using fits

theorem noticeRecord_laidOut {n : NoticeRecord} (fits : (Record.notice n).fits) : n.laidOut n.bytes := by
  obtain ⟨count, data⟩ := fits
  have first := Bool.toNat_le n.first.isSome
  have fit : ∀ x ∈ noticeNumbers n, x.2 < 256 ^ x.1 := by
    have key := n.data.key.isLt
    have sample := (n.first.getD 0).isLt
    simp only [noticeNumbers, List.forall_mem_append, List.forall_mem_cons, List.not_mem_nil, false_imp_iff, implies_true,
      and_true]
    exact ⟨by omega, dataNumbers_fit data⟩
  have head := carries_of_lay (rows := [(0, 1, 192 + 32 * n.first.isSome.toNat)]) [] fit (by simp [noticeNumbers, rowsFrom])
  rw [← noticeBytes_eq] at head
  have head : field n.bytes 0 1 = 192 + 32 * n.first.isSome.toNat := head _ List.mem_cons_self
  refine ⟨?_, ?_, ?_⟩
  · rw [noticeBytes_eq, List.append_nil, lay_length, noticeNumbers]
    cases n.data <;> rfl
  · simp only [packs, List.forall_mem_cons, head, List.not_mem_nil, false_imp_iff, implies_true, and_true]
    omega
  · rw [noticeBytes_eq]
    refine carries_of_lay [] fit ?_
    rw [List.forall_mem_append]
    exact ⟨by simp [noticeNumbers, rowsFrom], dataRows_among n⟩

/-! ## The PICK record -/

/-- The flags from bit 23 down, as one number. -/
theorem flags_bits (f : Flags) : f.bits = 512 * f.searchLimit.toNat + 256 * f.historyShort.toNat + 128 * f.truncated.toNat +
    64 * f.gap.toNat + 32 * f.baselineForced.toNat + 16 * f.polClipped.toNat + 8 * f.contextCall.toNat +
    4 * f.timeStep.toNat + 2 * f.blanked.toNat + f.noEnergy.toNat := by
  simp only [Flags.bits, List.foldl_cons, List.foldl_nil]
  ring

/-- The numbers of a pick record before its optional parts. -/
def pickNumbers (p : PickRecord) : List (Nat × Nat) :=
  [(1, 64 + 32 * p.share.isSome.toNat + 16 * p.sums.isSome.toNat + 8 * p.peaks.isSome.toNat + 2 * p.weight),
    (1, 64 * p.cls.code + 16 * p.call.code + 4 * p.basis.code + p.role.code),
    (1, 32 * p.profile.val + 8 * p.timeSt.code + 4 * (p.share.getD 0 / 256)),
    (4, (p.seq.getD 0).toNat), (4, p.trigger.toNat), (5, p.secs), (3, p.us), (2, p.missed),
    (3, p.flags.bits * 16384 + p.rise), (2, p.snr), (2, p.clips), (2, p.fills), (1, p.retrig), (2, p.lost),
    (1, (p.group.getD 0).toNat)]

/-- The optional parts, present or absent. -/
def pickShare (p : PickRecord) : List Byte := match p.share with | some v => be 1 v | none => []
def pickSums (p : PickRecord) : List Byte := match p.sums with | some c => c.bytes | none => []
def pickPeaks (p : PickRecord) : List Byte := match p.peaks with | some t => t.z.bytes ++ t.n.bytes ++ t.e.bytes | none => []

theorem pickBytes_eq (p : PickRecord) : p.bytes = lay (pickNumbers p) ++ (pickShare p ++ (pickSums p ++ pickPeaks p)) := by
  simp only [PickRecord.bytes, pickNumbers, lay, List.flatMap_cons, List.flatMap_nil, List.append_nil, List.append_assoc]
  rfl

theorem pickShare_length (p : PickRecord) : (pickShare p).length = p.share.isSome.toNat := by
  unfold pickShare
  cases p.share <;> simp

theorem pickSums_length (p : PickRecord) : (pickSums p).length = 9 * p.sums.isSome.toNat := by
  unfold pickSums
  cases p.sums <;> simp [Sums.bytes]

theorem pickPeaks_length (p : PickRecord) : (pickPeaks p).length = 15 * p.peaks.isSome.toNat := by
  unfold pickPeaks
  cases p.peaks <;> simp [Peak.bytes]

theorem pickNumbers_length (p : PickRecord) : (lay (pickNumbers p)).length = 34 := by
  simp [lay_length, pickNumbers]

theorem share_getD_le {share : Option Nat} (h : ∀ v ∈ share, v ≤ 256) : share.getD 0 ≤ 256 := by
  cases share with
  | none => exact Nat.zero_le _
  | some v => exact h v rfl

theorem flags_bits_le (f : Flags) : f.bits ≤ 1023 := by
  have le (b : Bool) := Bool.toNat_le b
  have a := le f.searchLimit
  have b := le f.historyShort
  have c := le f.truncated
  have d := le f.gap
  have e := le f.baselineForced
  have g := le f.polClipped
  have h := le f.contextCall
  have i := le f.timeStep
  have j := le f.blanked
  have k := le f.noEnergy
  rw [flags_bits]
  omega

theorem pickNumbers_fit {p : PickRecord} (h : p.inRange) : ∀ x ∈ pickNumbers p, x.2 < 256 ^ x.1 := by
  obtain ⟨weight, secs, us, missed, rise, snr, clips, fills, retrig, lost, share, -⟩ := h
  have share := share_getD_le share
  have flags := flags_bits_le p.flags
  have a := Bool.toNat_le p.share.isSome
  have b := Bool.toNat_le p.sums.isSome
  have c := Bool.toNat_le p.peaks.isSome
  have cls := (SlotClass_code_eq p.cls).2
  have call := (Phase_code_eq p.call).2
  have basis := (Basis_code_eq p.basis).2
  have role := (Role_code_eq p.role).2
  have time := (TimeState_code_eq p.timeSt).2
  have profile := p.profile.isLt
  have seq := (p.seq.getD 0).isLt
  have trigger := p.trigger.isLt
  have group := (p.group.getD 0).isLt
  simp only [pickNumbers, List.forall_mem_cons, List.not_mem_nil, false_imp_iff, implies_true, and_true]
  refine ⟨?_, ?_, ?_, ?_, ?_, ?_, ?_, ?_, ?_, ?_, ?_, ?_, ?_, ?_, ?_⟩ <;> omega

/-! ### The sums at their least shift (R173) -/

/-- The sums, shifted by k, all lie in ten bits. -/
def narrowAt (c : Sums) (k : Nat) : Prop := ∀ x ∈ c.inOrder, -512 ≤ x / 2 ^ k ∧ x / 2 ^ k ≤ 511

theorem sums_fits_iff (c : Sums) (k : Nat) : c.fits k = true ↔ narrowAt c k := by
  simp only [Sums.fits, List.all_eq_true, Bool.and_eq_true, decide_eq_true_eq, shr, Nat.cast_pow, Nat.cast_ofNat]
  exact Iff.rfl

theorem narrowAt_most {c : Sums} (bounded : ∀ x ∈ c.inOrder, -(2 ^ 56) ≤ x ∧ x ≤ 2 ^ 56) : narrowAt c 48 := by
  intro x mem
  obtain ⟨low, high⟩ := bounded x mem
  omega

/-- The shift is the least that fits. -/
theorem sums_shift {c : Sums} (bounded : ∀ x ∈ c.inOrder, -(2 ^ 56) ≤ x ∧ x ≤ 2 ^ 56) :
    c.shift < 49 ∧ narrowAt c c.shift ∧ ∀ j < c.shift, ¬ narrowAt c j := by
  obtain ⟨k, found⟩ : ∃ k, (List.range 49).find? c.fits = some k := by
    rw [← Option.isSome_iff_exists, List.find?_isSome]
    exact ⟨48, by decide, (sums_fits_iff c 48).mpr (narrowAt_most bounded)⟩
  have shift : c.shift = k := by rw [Sums.shift, found]; rfl
  rw [List.find?_range_eq_some] at found
  obtain ⟨fits, mem, least⟩ := found
  rw [shift]
  refine ⟨List.mem_range.mp mem, (sums_fits_iff c k).mp fits, fun j lt => ?_⟩
  have misses := least j lt
  rw [Bool.not_eq_true'] at misses
  exact mt (sums_fits_iff c j).mpr (Bool.eq_false_iff.mp misses)

/-- Six values of ten bits behind a shift of six, as one number. -/
theorem packed_number (k a b c d e f : Nat) (hk : k < 64) (ha : a < 1024) (hb : b < 1024) (hc : c < 1024) (hd : d < 1024)
    (he : e < 1024) (hf : f < 1024) (n : Nat)
    (number : n = ((((((k * 1024 + a) * 1024 + b) * 1024 + c) * 1024 + d) * 1024 + e) * 1024 + f) * 64) :
    n < 256 ^ 9 ∧ n / 2 ^ 66 % 2 ^ 6 = k ∧ n / 2 ^ 56 % 2 ^ 10 = a ∧ n / 2 ^ 46 % 2 ^ 10 = b ∧ n / 2 ^ 36 % 2 ^ 10 = c ∧
      n / 2 ^ 26 % 2 ^ 10 = d ∧ n / 2 ^ 16 % 2 ^ 10 = e ∧ n / 2 ^ 6 % 2 ^ 10 = f ∧ n % 2 ^ 6 = 0 := by
  refine ⟨?_, ?_, ?_, ?_, ?_, ?_, ?_, ?_, ?_⟩ <;> omega

theorem sums_laidOut {c : Sums} (bounded : ∀ x ∈ c.inOrder, -(2 ^ 56) ≤ x ∧ x ≤ 2 ^ 56) {bs behind : List Byte} {off : Nat}
    (here : field bs off 9 = field (c.bytes ++ behind) 0 9) : sumsAt bs off c := by
  obtain ⟨small, narrow, least⟩ := sums_shift bounded
  have ten (x : Int) : (x / 2 ^ c.shift % 1024).toNat < 1024 := by omega
  obtain ⟨fits, k, zz, nn, ee, zn, ze, ne, rest⟩ := packed_number c.shift (c.zz / 2 ^ c.shift % 1024).toNat
    (c.nn / 2 ^ c.shift % 1024).toNat (c.ee / 2 ^ c.shift % 1024).toNat (c.zn / 2 ^ c.shift % 1024).toNat
    (c.ze / 2 ^ c.shift % 1024).toNat (c.ne / 2 ^ c.shift % 1024).toNat (by omega) (ten _) (ten _) (ten _) (ten _) (ten _)
    (ten _) _ rfl
  have number := field_be (k := 9) behind fits
  have bytes : c.bytes = be 9 (((((((c.shift * 1024 + (c.zz / 2 ^ c.shift % 1024).toNat) * 1024 +
      (c.nn / 2 ^ c.shift % 1024).toNat) * 1024 + (c.ee / 2 ^ c.shift % 1024).toNat) * 1024 +
      (c.zn / 2 ^ c.shift % 1024).toNat) * 1024 + (c.ze / 2 ^ c.shift % 1024).toNat) * 1024 +
      (c.ne / 2 ^ c.shift % 1024).toNat) * 64) := by
    simp [Sums.bytes, Sums.toList, shr]
  rw [bytes, number] at here
  refine ⟨c.shift, List.mem_range.mpr small, narrow, fun j mem => least j (List.mem_range.mp mem), ?_⟩
  simp only [packs, here, Sums.inOrder, List.zipIdx, List.map_cons, List.map_nil, List.forall_mem_append, List.forall_mem_cons,
    List.not_mem_nil, false_imp_iff, implies_true, and_true]
  exact ⟨⟨k, by rw [pow_zero, Nat.div_one]; exact rest⟩, zz, nn, ee, zn, ze, ne⟩

/-! ### The whole record -/

theorem peaks_carried (t : Trio Peak) (before : List Byte)
    (h : ∀ x ∈ [t.z, t.n, t.e], x.mag ≤ 8388608 ∧ x.offset ≤ 65535) :
    carries (before ++ (t.z.bytes ++ t.n.bytes ++ t.e.bytes)) [(before.length, 3, t.z.mag), (before.length + 3, 2, t.z.offset),
      (before.length + 5, 3, t.n.mag), (before.length + 8, 2, t.n.offset), (before.length + 10, 3, t.e.mag),
      (before.length + 13, 2, t.e.offset)] := by
  have rows := carries_lay [(3, t.z.mag), (2, t.z.offset), (3, t.n.mag), (2, t.n.offset), (3, t.e.mag), (2, t.e.offset)] [] before (by
    simp only [List.forall_mem_cons, List.not_mem_nil, false_imp_iff, implies_true, and_true] at h ⊢
    omega)
  have bytes : lay [(3, t.z.mag), (2, t.z.offset), (3, t.n.mag), (2, t.n.offset), (3, t.e.mag), (2, t.e.offset)] ++ [] =
      t.z.bytes ++ t.n.bytes ++ t.e.bytes := by
    simp [lay, Peak.bytes]
  rw [bytes] at rows
  exact rows

theorem flags_packed {bs : List Byte} {f : Flags} {rise : Nat} (here : field bs 21 3 = f.bits * 16384 + rise)
    (small : rise ≤ 2048) : packs bs 21 3
      ((f.inOrder.zipIdx.map fun x => (23 - x.2, 23 - x.2, x.1.toNat)) ++ [(13, 12, 0), (11, 0, rise)]) := by
  have le (b : Bool) := Bool.toNat_le b
  have a := le f.searchLimit
  have b := le f.historyShort
  have c := le f.truncated
  have d := le f.gap
  have e := le f.baselineForced
  have g := le f.polClipped
  have h := le f.contextCall
  have i := le f.timeStep
  have j := le f.blanked
  have k := le f.noEnergy
  rw [flags_bits] at here
  simp only [packs, here, Flags.inOrder, List.zipIdx, List.map_cons, List.map_nil, List.forall_mem_append,
    List.forall_mem_cons, List.not_mem_nil, false_imp_iff, implies_true, and_true]
  refine ⟨⟨?_, ?_, ?_, ?_, ?_, ?_, ?_, ?_, ?_, ?_⟩, ?_, ?_⟩ <;> omega

theorem pickRecord_laidOut {p : PickRecord} (h : p.inRange) : p.laidOut p.bytes := by
  have fit := pickNumbers_fit h
  have front (rows : List (Nat × Nat × Nat)) (among : ∀ r ∈ rows, r ∈ rowsFrom 0 (pickNumbers p)) : carries p.bytes rows := by
    rw [pickBytes_eq]
    exact carries_of_lay _ fit among
  have first := front [(0, 1, 64 + 32 * p.share.isSome.toNat + 16 * p.sums.isSome.toNat + 8 * p.peaks.isSome.toNat + 2 * p.weight)]
    (by simp [pickNumbers, rowsFrom]) _ List.mem_cons_self
  have second := front [(1, 1, 64 * p.cls.code + 16 * p.call.code + 4 * p.basis.code + p.role.code)]
    (by simp [pickNumbers, rowsFrom]) _ List.mem_cons_self
  have third := front [(2, 1, 32 * p.profile.val + 8 * p.timeSt.code + 4 * (p.share.getD 0 / 256))]
    (by simp [pickNumbers, rowsFrom]) _ List.mem_cons_self
  have flags := front [(21, 3, p.flags.bits * 16384 + p.rise)] (by simp [pickNumbers, rowsFrom]) _ List.mem_cons_self
  dsimp only at first second third flags
  obtain ⟨weight, secs, us, missed, rise, snr, clips, fills, retrig, lost, share, sums, peaks⟩ := h
  have shareLe := share_getD_le share
  have a := Bool.toNat_le p.share.isSome
  have b := Bool.toNat_le p.sums.isSome
  have c := Bool.toNat_le p.peaks.isSome
  obtain ⟨cls, clsLe⟩ := SlotClass_code_eq p.cls
  obtain ⟨call, callLe⟩ := Phase_code_eq p.call
  obtain ⟨basis, basisLe⟩ := Basis_code_eq p.basis
  obtain ⟨role, roleLe⟩ := Role_code_eq p.role
  obtain ⟨time, timeLe⟩ := TimeState_code_eq p.timeSt
  have profile := p.profile.isLt
  have size := pickNumbers_length p
  refine ⟨?_, ?_, ?_, ?_, front _ (by simp [pickNumbers, rowsFrom]), ?_, front _ (by simp [pickNumbers, rowsFrom]),
    fun v is => ?_, fun c is => ?_, fun t is => ?_⟩
  · rw [pickBytes_eq, List.length_append, List.length_append, List.length_append, size, pickShare_length, pickSums_length,
      pickPeaks_length]
    omega
  · simp only [packs, List.forall_mem_cons, first, List.not_mem_nil, false_imp_iff, implies_true, and_true]
    omega
  · simp only [packs, List.forall_mem_cons, second, ← cls, ← call, ← basis, ← role, List.not_mem_nil, false_imp_iff,
      implies_true, and_true]
    omega
  · simp only [packs, List.forall_mem_cons, third, ← time, List.not_mem_nil, false_imp_iff, implies_true, and_true]
    omega
  · exact flags_packed flags rise
  · have here := field_behind (lay (pickNumbers p)) (pickShare p ++ (pickSums p ++ pickPeaks p)) 0 1
    rw [size, ← pickBytes_eq] at here
    rw [here, pickShare, show p.share = some v from is, field_before _ _ (by simp)]
    simp [field, slice, unbe, be]
  · have here := field_behind (lay (pickNumbers p) ++ pickShare p) (pickSums p ++ pickPeaks p) 0 9
    rw [List.length_append, size, pickShare_length, List.append_assoc, ← pickBytes_eq] at here
    rw [show pickSums p = c.bytes by rw [pickSums, show p.sums = some c from is]] at here
    exact sums_laidOut (sums c is) here
  · have carried := peaks_carried t (lay (pickNumbers p) ++ pickShare p ++ pickSums p) (peaks t is)
    have bytes : p.bytes = lay (pickNumbers p) ++ pickShare p ++ pickSums p ++ (t.z.bytes ++ t.n.bytes ++ t.e.bytes) := by
      rw [pickBytes_eq, show pickPeaks p = t.z.bytes ++ t.n.bytes ++ t.e.bytes by rw [pickPeaks, show p.peaks = some t from is]]
      simp only [List.append_assoc]
    rw [← bytes, List.length_append, List.length_append, size, pickShare_length, pickSums_length] at carried
    exact carried

/-- Each record of the Report Queue stands in its layout (R173). -/
theorem record_laidOut {q : Record} (fits : q.fits) : q.laidOut q.bytes := by
  cases q with
  | pick p => exact pickRecord_laidOut fits
  | group g => exact groupRecord_laidOut fits
  | notice n => exact noticeRecord_laidOut fits

end Sys2Proof.Proofs
end

section
/-! PROOFS. The reply data of 11.5 and the frame of a reply, and the snapshot read back from its records. -/

namespace Sys2Proof.Proofs

open Sys2Proof.Machine Sys2Proof.Laws

/-! ## Rows of a layout in sections -/

/-- How many bytes the numbers take. -/
def widthOf (xs : List (Nat × Nat)) : Nat := (xs.map (·.1)).sum

theorem rowsFrom_append (xs ys : List (Nat × Nat)) : ∀ off : Nat,
    rowsFrom off (xs ++ ys) = rowsFrom off xs ++ rowsFrom (off + widthOf xs) ys := by
  induction xs with
  | nil => exact fun _ => rfl
  | cons x xs ih =>
    intro off
    rw [List.cons_append, rowsFrom, ih, rowsFrom, widthOf, widthOf, List.map_cons, List.sum_cons, Nat.add_assoc]
    rfl

/-- Numbers of one size stand in turn. -/
theorem rowsFrom_map (size : Nat) (xs : List Nat) : ∀ off n : Nat, rowsFrom (off + size * n) (xs.map fun x => (size, x)) =
    (xs.zipIdx n).map fun x => (off + size * x.2, size, x.1) := by
  induction xs with
  | nil => exact fun _ _ => rfl
  | cons x xs ih =>
    intro off n
    rw [List.map_cons, rowsFrom, Nat.add_assoc, ← Nat.mul_succ, ih, List.zipIdx_cons, List.map_cons]

theorem rowsFrom_inTurn (off size : Nat) (xs : List Nat) : rowsFrom off (xs.map fun x => (size, x)) = inTurn off size xs :=
  rowsFrom_map size xs off 0

theorem lay_map (size : Nat) (xs : List Nat) : lay (xs.map fun x => (size, x)) = xs.flatMap (be size) := by
  rw [lay, List.flatMap_map]

/-- A layout's rows are carried. -/
theorem carries_rows {bs : List Byte} {xs : List (Nat × Nat)} {rows : List (Nat × Nat × Nat)} (bytes : bs = lay xs)
    (fits : ∀ x ∈ xs, x.2 < 256 ^ x.1) (is : rowsFrom 0 xs = rows) : carries bs rows := by
  have carried := carries_of_lay [] fits fun r mem => is ▸ mem
  rwa [List.append_nil, ← bytes] at carried

/-! ## Locks (R174) -/

/-- A lock's state and underlying state. -/
def lockNumbers (l : Lock) : List (Nat × Nat) := [(1, l.code), (1, l.under.code)]

theorem lockBytes_eq (l : Lock) : l.bytes = lay (lockNumbers l) := by
  simp [Lock.bytes, lockNumbers, lay]

theorem lockRows_eq (off : Nat) (l : Lock) : rowsFrom off (lockNumbers l) = lockRows off l := by
  cases l with
  | base u => cases u <;> rfl
  | power u => cases u <;> rfl

theorem lockNumbers_fit (l : Lock) : ∀ x ∈ lockNumbers l, x.2 < 256 ^ x.1 := by
  cases l with
  | base u => cases u <;> decide
  | power u => cases u <;> decide

/-! ## PROFILE READ, STATION READ and GATE READ (R174) -/

theorem item_hi_lt (i : Item) : i.hi < 256 ^ 4 := by
  cases i <;> norm_num [Item.hi]

theorem profile_values_fit {p : Profile} (ranged : p.inRange = true) : ∀ x ∈ p.values.map fun v => (4, v), x.2 < 256 ^ x.1 := by
  intro x mem
  obtain ⟨v, value, rfl⟩ := List.mem_map.mp mem
  obtain ⟨i, -, rfl⟩ := List.mem_map.mp value
  exact (inRange_bounds.mp ((inRange_iff p).mp ranged i)).2.trans_lt (item_hi_lt i)

theorem profileBytes_laidOut {s : State} {e : Fin 8} (legal : s.settings.profiles[e].inRange = true) :
    s.profileLaidOut e (profileBytes s e) := by
  have bytes : profileBytes s e = lay ([(1, e.val), (1, (decide (s.settings.active = e)).toNat)] ++
      (lockNumbers s.settings.profileLock[e] ++ s.settings.profiles[e].values.map fun v => (4, v))) := by
    rw [lay_append, lay_append, ← lockBytes_eq, lay_map, profileBytes]
    simp [lay]
  refine ⟨?_, carries_rows bytes ?_ ?_⟩
  · rw [bytes, lay_length]
    simp [lockNumbers, Profile.values, allItems]
  · have number := e.isLt
    have bit := Bool.toNat_le (decide (s.settings.active = e))
    rw [List.forall_mem_append, List.forall_mem_append]
    refine ⟨?_, lockNumbers_fit _, profile_values_fit legal⟩
    simp only [List.forall_mem_cons, List.not_mem_nil, false_imp_iff, implies_true, and_true]
    omega
  · have active : (decide (s.settings.active = e)).toNat = if s.settings.active = e then 1 else 0 := by
      by_cases same : s.settings.active = e <;> simp [same]
    rw [rowsFrom_append, rowsFrom_append, lockRows_eq, active, rowsFrom_inTurn, List.append_assoc]
    rfl

theorem position_code (x : LinkPos) : x.code = positionCodes.idxOf x ∧ x.code ≤ 2 := by cases x <;> decide

theorem station_values_eq (st : Station) : st.values = st.inOrder := by
  rw [Station.values, mapCode, (position_code _).1, (position_code _).1, (position_code _).1]
  rfl

theorem station_values_fit {st : Station} (ranged : stationRanged st) :
    ∀ x ∈ st.values.map fun v => (4, v), x.2 < 256 ^ x.1 := by
  obtain ⟨rate, trim, clip, gd, gap⟩ := (stationRanged_iff st).mp ranged
  have rate : st.rate ≤ 500 := by
    have listed : ∀ r ∈ rates, r ≤ 500 := by decide
    exact listed _ (List.contains_iff_mem.mp rate)
  have bit (b : Bool) := Bool.toNat_le b
  have a := bit st.inverted.z
  have b := bit st.inverted.n
  have c := bit st.inverted.e
  have d := bit st.autostart
  have e := bit st.strict
  have z := (position_code st.map.z).2
  have n := (position_code st.map.n).2
  have m := (position_code st.map.e).2
  have dflt := st.dflt.isLt
  simp only [List.forall_mem_cons, List.not_mem_nil, false_imp_iff, implies_true, and_true] at trim clip
  simp only [Station.values, mapCode, List.map_cons, List.map_nil, List.forall_mem_cons, List.not_mem_nil, false_imp_iff,
    implies_true, and_true]
  refine ⟨?_, ?_, ?_, ?_, ?_, ?_, ?_, ?_, ?_, ?_, ?_, ?_, ?_, ?_, ?_, ?_⟩ <;> omega

theorem stationBytes_laidOut {s : State} (legal : s.settings.station.legal) : s.stationLaidOut (stationBytes s) := by
  have bytes : stationBytes s = lay (lockNumbers s.settings.stationLock ++ s.settings.station.values.map fun v => (4, v)) := by
    rw [lay_append, ← lockBytes_eq, lay_map, stationBytes]
  refine ⟨?_, carries_rows bytes ?_ ?_⟩
  · rw [bytes, lay_length]
    simp [lockNumbers, Station.values]
  · rw [List.forall_mem_append]
    exact ⟨lockNumbers_fit _, station_values_fit legal.1⟩
  · rw [rowsFrom_append, lockRows_eq, rowsFrom_inTurn, station_values_eq]
    rfl

theorem gateReadBytes_laidOut {s : State} {k : Fin 16} (carried : s.settings.gates[k].carried = true) :
    s.gateLaidOut k (gateReadBytes s k) := by
  have bytes : gateReadBytes s k = lay ((([k.val, s.settings.gates[k].valid.toNat, s.settings.gates[k].level,
      s.settings.gates[k].setLevel, s.settings.gates[k].target, s.settings.gates[k].param].map fun x => (1, x)) ++
      [(4, s.settings.gates[k].low), (4, s.settings.gates[k].high), (3, s.settings.gates[k].dur)]) ++
      lockNumbers s.settings.gateLock) := by
    rw [lay_append, ← lockBytes_eq, gateReadBytes, gateBytes]
    simp [lay]
  refine ⟨?_, carries_rows bytes ?_ ?_⟩
  · rw [bytes, lay_length]
    rfl
  · rw [List.forall_mem_append]
    refine ⟨?_, lockNumbers_fit _⟩
    have number := k.isLt
    have bit := Bool.toNat_le s.settings.gates[k].valid
    simp only [Gate.carried, List.all_cons, List.all_nil, Bool.and_eq_true, decide_eq_true_eq, Bool.and_true] at carried
    simp only [List.map_cons, List.map_nil, List.cons_append, List.nil_append, List.forall_mem_cons, List.not_mem_nil,
      false_imp_iff, implies_true, and_true]
    omega
  · rw [rowsFrom_append, rowsFrom_append, lockRows_eq, rowsFrom_inTurn]
    rfl

/-! ## The frame of a reply (11.1) -/

theorem status_code_eq (x : Status) : x.code = statusCodes.idxOf x ∧ x.code ≤ 16 := by cases x <;> decide

theorem be_byte (b : Byte) : be 1 b.toNat = [b] := by
  rw [be_one, BitVec.ofNat_toNat, BitVec.setWidth_eq]

/-- What the CRC of a reply's frame covers before the data. -/
def replyNumbers (rep : Reply) : List (Nat × Nat) :=
  [(1, 2 + rep.data.length), (1, rep.level), (1, rep.kind.toNat), (1, rep.tag.toNat), (1, rep.status.code),
    (1, rep.clamped.toNat)]

theorem replyFrame_eq (rep : Reply) : rep.frame = [0xC3, 0x3C] ++ (lay (replyNumbers rep) ++
    (rep.data ++ be 2 (crc16 (lay (replyNumbers rep) ++ rep.data)))) := by
  have body : (be 1 rep.status.code ++ be 1 rep.clamped.toNat ++ rep.data).length = 2 + rep.data.length := by simp; omega
  have mid : be 1 (2 + rep.data.length) ++ be 1 rep.level ++ [rep.kind, rep.tag] ++
      (be 1 rep.status.code ++ be 1 rep.clamped.toNat ++ rep.data) = lay (replyNumbers rep) ++ rep.data := by
    simp [lay, replyNumbers, be_byte]
  rw [Reply.frame, body, mid]
  simp only [List.append_assoc]

theorem replyFrame_laidOut {rep : Reply} (short : rep.data.length ≤ 238) (level : rep.level < 256) : rep.laidOut rep.frame := by
  obtain ⟨code, codeLe⟩ := status_code_eq rep.status
  have fit : ∀ x ∈ replyNumbers rep, x.2 < 256 ^ x.1 := by
    have kind := rep.kind.isLt
    have tag := rep.tag.isLt
    have bit := Bool.toNat_le rep.clamped
    simp only [replyNumbers, List.forall_mem_cons, List.not_mem_nil, false_imp_iff, implies_true, and_true]
    omega
  have six : (lay (replyNumbers rep)).length = 6 := by simp [lay_length, replyNumbers]
  have numbers := carries_lay (replyNumbers rep) (rep.data ++ be 2 (crc16 (lay (replyNumbers rep) ++ rep.data))) [0xC3, 0x3C] fit
  have covered : slice rep.frame 2 (6 + rep.data.length) = lay (replyNumbers rep) ++ rep.data := by
    have run := slice_at [0xC3, 0x3C] (lay (replyNumbers rep) ++ rep.data) (be 2 (crc16 (lay (replyNumbers rep) ++ rep.data)))
    rw [List.length_append, six, List.append_assoc, ← replyFrame_eq] at run
    exact run
  have data : slice rep.frame 8 rep.data.length = rep.data := by
    have run := slice_at ([0xC3, 0x3C] ++ lay (replyNumbers rep)) rep.data (be 2 (crc16 (lay (replyNumbers rep) ++ rep.data)))
    rw [List.length_append, six, List.append_assoc, ← replyFrame_eq] at run
    exact run
  have check : field rep.frame (8 + rep.data.length) 2 = crc16 (lay (replyNumbers rep) ++ rep.data) := by
    have here := field_behind ([0xC3, 0x3C] ++ (lay (replyNumbers rep) ++ rep.data))
      (be 2 (crc16 (lay (replyNumbers rep) ++ rep.data))) 0 2
    rw [List.length_append, List.length_append, six, List.append_assoc, List.append_assoc, ← replyFrame_eq] at here
    rw [show 8 + rep.data.length = [(0xC3 : Byte), 0x3C].length + (6 + rep.data.length) + 0 by simp; omega, here]
    have read := field_be (k := 2) (x := crc16 (lay (replyNumbers rep) ++ rep.data)) [] (crc16_lt _)
    rwa [List.append_nil] at read
  rw [← replyFrame_eq] at numbers
  refine ⟨?_, data, ?_⟩
  · rw [replyFrame_eq, List.length_append, List.length_append, List.length_append, six, be_length, List.length_cons,
      List.length_singleton]
    omega
  · have sync : field rep.frame 0 2 = 0xC33C := by rw [replyFrame_eq]; rfl
    simp only [replyNumbers, rowsFrom, List.length_cons, List.length_nil, carries, List.forall_mem_cons, List.not_mem_nil,
      false_imp_iff, implies_true, and_true] at numbers
    obtain ⟨len, level', kind, tag, status, clamped⟩ := numbers
    simp only [carries, List.forall_mem_cons, List.not_mem_nil, false_imp_iff, implies_true, and_true, covered, ← code]
    exact ⟨sync, len, level', kind, tag, status, clamped, check⟩

end Sys2Proof.Proofs
end

section
/-! PROOFS. The STATUS reply data, and the snapshot read back from its records (2.6, 11.5). -/

namespace Sys2Proof.Proofs

open Sys2Proof.Machine Sys2Proof.Laws

/-! ## STATUS (R170, R174) -/

theorem chain_code_eq (x : ChainState) : x.code = chainCodes.idxOf x ∧ x.code ≤ 3 := by cases x <;> decide
theorem detector_code_eq (x : DetState) : x.code = detectorCodes.idxOf x ∧ x.code ≤ 4 := by cases x <;> decide
theorem slot_code_eq (x : SlotState) : x.code = slotCodes.idxOf x ∧ x.code ≤ 4 := by cases x <;> decide
theorem exportState_code_eq (x : ExportState) : x.code = exportCodes.idxOf x ∧ x.code ≤ 2 := by cases x <;> decide

theorem importState_code_eq {x : ImportState} (counted : x.counted = true) : x.code = importCode x ∧ x.code ≤ 8 := by
  cases x with
  | importing k =>
    simp only [ImportState.counted, Bool.and_eq_true, decide_eq_true_eq] at counted
    exact ⟨rfl, by simp only [ImportState.code]; omega⟩
  | idle => decide
  | valid => decide
  | invalid => decide

/-- One detector's numbers. -/
def detectorNumbers (p : DetParams) (d : Detector) : List (Nat × Nat) := [(1, d.st.code), (2, ratioOf p d)]

theorem detectorRows_eq (off : Nat) (p : DetParams) (d : Detector) :
    rowsFrom off (detectorNumbers p d) = detectorRows off p d := by
  rw [detectorNumbers, (detector_code_eq d.st).1]
  rfl

theorem detectorNumbers_fit (p : DetParams) (d : Detector) : ∀ x ∈ detectorNumbers p d, x.2 < 256 ^ x.1 := by
  have code := (detector_code_eq d.st).2
  have ratio : ratioOf p d ≤ 65535 := Nat.min_le_right _ _
  simp only [detectorNumbers, List.forall_mem_cons, List.not_mem_nil, false_imp_iff, implies_true, and_true]
  omega

/-- One slot's numbers: fields that do not apply are 0 (R78). -/
def slotNumbers (x : Slot) : List (Nat × Nat) :=
  [(1, x.st.code), (1, if x.st = .free then 0 else x.cls.code), (4, if x.st = .free then 0 else x.trigger.toNat),
    (4, if x.st = .opened then x.close.toNat else 0), (2, if x.st = .opened then x.peak else 0)]

theorem slotBytes_eq (x : Slot) : x.statusBytes = lay (slotNumbers x) := by
  cases st : x.st <;> simp [Slot.statusBytes, slotNumbers, lay, st]

theorem slotRows_eq (off : Nat) (x : Slot) : rowsFrom off (slotNumbers x) = slotRows off x := by
  rw [slotNumbers, (slot_code_eq x.st).1, (SlotClass_code_eq x.cls).1]
  rfl

theorem slotNumbers_fit {x : Slot} (counted : x.counted = true) : ∀ y ∈ slotNumbers x, y.2 < 256 ^ y.1 := by
  have code := (slot_code_eq x.st).2
  have cls := (SlotClass_code_eq x.cls).2
  have trigger := x.trigger.isLt
  have close := x.close.isLt
  simp only [Slot.counted, Bool.and_eq_true, decide_eq_true_eq] at counted
  simp only [slotNumbers, List.forall_mem_cons, List.not_mem_nil, false_imp_iff, implies_true, and_true]
  refine ⟨by omega, ?_, ?_, ?_, ?_⟩ <;> split <;> omega

/-- The refinement queue's numbers: its length and its eight places (R174). -/
def queueNumbers (q : List (Fin 8)) : List (Nat × Nat) :=
  (1, q.length) :: ((List.range 8).map fun j => (q[j]?.map (·.val)).getD 0).map fun x => (1, x)

theorem queueBytes_eq (q : List (Fin 8)) : queueBytes q = lay (queueNumbers q) := by
  have ones (xs : List Nat) : xs.flatMap (be 1) = xs.map (BitVec.ofNat 8) := by
    induction xs with
    | nil => rfl
    | cons x xs ih => rw [List.flatMap_cons, ih, be_one]; rfl
  have zeros : be 8 0 = List.replicate 8 0#8 := by decide
  rw [queueBytes, queueNumbers, lay_cons, lay_map, ones, zeros]
  congr 1
  refine List.ext_getElem (by simp) fun j hj _ => ?_
  have inside : j < 8 := by simpa using hj
  rw [List.getElem_take, List.getElem_map, List.getElem_map, List.getElem_range]
  by_cases held : j < q.length
  · rw [List.getElem_append_left (by simpa using held), List.getElem_map, List.getElem?_eq_getElem held]
    rfl
  · rw [List.getElem_append_right (by simpa using held), List.getElem_replicate, List.getElem?_eq_none (not_lt.mp held)]
    rfl

theorem queueNumbers_fit {q : List (Fin 8)} (short : q.length ≤ 8) : ∀ x ∈ queueNumbers q, x.2 < 256 ^ x.1 := by
  intro x mem
  rcases List.mem_cons.mp mem with rfl | mem
  · exact lt_of_le_of_lt short (by norm_num)
  · obtain ⟨v, value, rfl⟩ := List.mem_map.mp mem
    obtain ⟨j, -, rfl⟩ := List.mem_map.mp value
    cases q[j]? with
    | none => exact Nat.zero_lt_succ _
    | some i => exact i.isLt.trans (by norm_num)

/-- The numbers of the STATUS data before the slots, and behind them. -/
def statusHead (s : State) : List (Nat × Nat) :=
  (1, s.chain.st.code) :: (detectorNumbers (s.params .z) s.det.z ++ detectorNumbers (s.params .h) s.det.h)

def statusTail (s : State) : List (Nat × Nat) :=
  [(1, (s.unit.map (·.slot.val)).getD 255), (1, s.reports.queue.length), (1, (s.slotsIn .done).length), (1, pendingKeys s),
    (1, bitsOf [s.reports.blocked]), (1, s.time.st.code), (1, bitsOf [s.time.lastLabel.isSome]),
    (5, s.time.lastLabel.getD 0), (2, s.time.missed), (1, bitsOf [s.store.writing.isSome, s.store.defaulted]),
    (1, bitsOf [s.intake.link == .up, s.newest.isSome]), (4, (s.newest.getD 0).toNat), (1, s.floor), (1, s.revert.length),
    (1, s.chain.expSt.code), (1, s.chain.impSt.code)] ++
  [s.table.lost.z, s.table.lost.h, s.intake.stale, s.intake.bad, s.intake.filled, s.intake.gaps, s.port.discarded].map
    fun x => (2, x)

def statusNumbers (s : State) : List (Nat × Nat) :=
  statusHead s ++ (eight.flatMap (fun i => slotNumbers (s.slot i)) ++ (queueNumbers s.table.queue ++ statusTail s))

theorem lay_flatMap {α : Type} (l : List α) (f : α → List (Nat × Nat)) : lay (l.flatMap f) = l.flatMap fun x => lay (f x) := by
  rw [lay, List.flatMap_assoc]
  rfl

theorem detectorBytes_eq (p : DetParams) (d : Detector) : detectorBytes p d = lay (detectorNumbers p d) := by
  simp [detectorBytes, detectorNumbers, lay]

theorem statusTail_eq (s : State) : lay (statusTail s) = be 1 ((s.unit.map (·.slot.val)).getD 255) ++
    (be 1 s.reports.queue.length ++ (be 1 (s.slotsIn .done).length ++ (be 1 (pendingKeys s) ++
    (be 1 (bitsOf [s.reports.blocked]) ++
    (be 1 s.time.st.code ++ (be 1 (bitsOf [s.time.lastLabel.isSome]) ++ (be 5 (s.time.lastLabel.getD 0) ++
    (be 2 s.time.missed ++ (be 1 (bitsOf [s.store.writing.isSome, s.store.defaulted]) ++
    (be 1 (bitsOf [s.intake.link == .up, s.newest.isSome]) ++ (be 4 (s.newest.getD 0).toNat ++
    (be 1 s.floor ++ (be 1 s.revert.length ++ (be 1 s.chain.expSt.code ++ (be 1 s.chain.impSt.code ++
    (be 2 s.table.lost.z ++ (be 2 s.table.lost.h ++ (be 2 s.intake.stale ++ (be 2 s.intake.bad ++
    (be 2 s.intake.filled ++ (be 2 s.intake.gaps ++ be 2 s.port.discarded))))))))))))))))))))) := by
  rw [statusTail, lay_append]
  simp only [lay, List.flatMap_cons, List.flatMap_nil, List.map_cons, List.map_nil, List.append_assoc, List.append_nil]

theorem statusBytes_eq (s : State) : statusBytes s = lay (statusNumbers s) := by
  have slots : lay (eight.flatMap fun i => slotNumbers (s.slot i)) = eight.flatMap fun i => (s.slot i).statusBytes := by
    rw [lay_flatMap]
    simp only [slotBytes_eq]
  have head : lay (statusHead s) = be 1 s.chain.st.code ++ (detectorBytes (s.params .z) s.det.z ++
      detectorBytes (s.params .h) s.det.h) := by
    rw [statusHead, lay_cons, lay_append, detectorBytes_eq, detectorBytes_eq]
  rw [statusNumbers, lay_append, lay_append, lay_append, slots, ← queueBytes_eq, head, statusTail_eq]
  unfold statusBytes
  simp only [List.append_assoc]

theorem bitsOf_one (a : Bool) : bitsOf [a] = a.toNat := by cases a <;> rfl

theorem bitsOf_two (a b : Bool) : bitsOf [a, b] = a.toNat + 2 * b.toNat := by cases a <;> cases b <;> rfl

theorem pendingKeys_eq (s : State) : pendingKeys s = s.reports.notices[0].isSome.toNat + 2 * (s.reports.notices[1].isSome.toNat +
    2 * (s.reports.notices[2].isSome.toNat + 2 * (s.reports.notices[3].isSome.toNat + 2 * (s.reports.notices[4].isSome.toNat +
    2 * (s.reports.notices[5].isSome.toNat + 2 * (s.reports.notices[6].isSome.toNat +
    2 * s.reports.notices[7].isSome.toNat)))))) := rfl

theorem pendingKeys_lt (s : State) : pendingKeys s < 256 := by
  have a := Bool.toNat_le s.reports.notices[0].isSome
  have b := Bool.toNat_le s.reports.notices[1].isSome
  have c := Bool.toNat_le s.reports.notices[2].isSome
  have d := Bool.toNat_le s.reports.notices[3].isSome
  have e := Bool.toNat_le s.reports.notices[4].isSome
  have f := Bool.toNat_le s.reports.notices[5].isSome
  have g := Bool.toNat_le s.reports.notices[6].isSome
  have h := Bool.toNat_le s.reports.notices[7].isSome
  rw [pendingKeys_eq]
  omega

theorem statusTail_fit {s : State} (held : s.withinCapacity) (time : s.timeAgrees) : ∀ x ∈ statusTail s, x.2 < 256 ^ x.1 := by
  obtain ⟨-, queue, revert, floor, bad, stale, filled, gaps, discarded, z, h, missed, -, -, -, imported⟩ := held
  have imported := (importState_code_eq imported).2
  have exported := (exportState_code_eq s.chain.expSt).2
  have state := (TimeState_code_eq s.time.st).2
  have newest := (s.newest.getD 0).isLt
  have keys := pendingKeys_lt s
  have done' : (s.slotsIn .done).length ≤ 8 := List.length_filter_le _ eight
  have unit : (s.unit.map (·.slot.val)).getD 255 ≤ 255 := by
    cases s.unit with
    | none => exact le_rfl
    | some u => exact (u.slot.isLt.trans (by decide)).le
  have label : s.time.lastLabel.getD 0 < 2 ^ 40 := by
    obtain ⟨-, -, -, -, -, label, -⟩ := time
    cases last : s.time.lastLabel with
    | none => exact Nat.two_pow_pos 40
    | some l =>
      rw [last] at label
      exact of_decide_eq_true label
  simp only [Config.queueCap, Config.stackCap] at queue revert
  have bit (b : Bool) := Bool.toNat_le b
  have a := bit s.reports.blocked
  have b := bit s.time.lastLabel.isSome
  have c := bit s.store.writing.isSome
  have d := bit s.store.defaulted
  have e := bit (s.intake.link == .up)
  have f := bit s.newest.isSome
  simp only [statusTail, bitsOf_one, bitsOf_two, List.map_cons, List.map_nil, List.forall_mem_append, List.forall_mem_cons,
    List.not_mem_nil, false_imp_iff, implies_true, and_true]
  refine ⟨⟨?_, ?_, ?_, ?_, ?_, ?_, ?_, ?_, ?_, ?_, ?_, ?_, ?_, ?_, ?_, ?_⟩, ?_, ?_, ?_, ?_, ?_, ?_, ?_⟩ <;> omega

theorem statusNumbers_fit {s : State} (held : s.withinCapacity) (time : s.timeAgrees) (short : s.table.queue.length ≤ 8) :
    ∀ x ∈ statusNumbers s, x.2 < 256 ^ x.1 := by
  have tail := statusTail_fit held time
  obtain ⟨-, -, -, -, -, -, -, -, -, -, -, -, -, -, ⟨slots, -⟩, -⟩ := held
  have chain := (chain_code_eq s.chain.st).2
  rw [statusNumbers, List.forall_mem_append, List.forall_mem_append, List.forall_mem_append, statusHead, List.forall_mem_cons,
    List.forall_mem_append]
  refine ⟨⟨?_, detectorNumbers_fit _ _, detectorNumbers_fit _ _⟩, fun x mem => ?_, queueNumbers_fit short, tail⟩
  · dsimp only
    omega
  · obtain ⟨i, -, mem⟩ := List.mem_flatMap.mp mem
    exact slotNumbers_fit (slots i) x mem

theorem rowsFrom_part {xs ys : List (Nat × Nat)} {off size next : Nat} (is : widthOf xs = size) (from' : off + size = next) :
    rowsFrom off (xs ++ ys) = rowsFrom off xs ++ rowsFrom next ys := by
  rw [rowsFrom_append, is, from']

/-- The rows of the STATUS data, section by section. -/
theorem statusRows (s : State) : rowsFrom 0 (statusNumbers s) = rowsFrom 0 (statusHead s) ++
    (rowsFrom 7 (eight.flatMap fun i => slotNumbers (s.slot i)) ++
      (rowsFrom 103 (queueNumbers s.table.queue) ++ rowsFrom 112 (statusTail s))) := by
  have head : widthOf (statusHead s) = 7 := by simp [widthOf, statusHead, detectorNumbers]
  have slots : widthOf (eight.flatMap fun i => slotNumbers (s.slot i)) = 96 := by
    simp [widthOf, eight, slotNumbers]
  have queue : widthOf (queueNumbers s.table.queue) = 9 := rfl
  rw [statusNumbers, rowsFrom_part head rfl, rowsFrom_part slots rfl, rowsFrom_part queue rfl]

/-- Of sections of one size each stands at its multiple. -/
theorem rowsFrom_uniform {α : Type} {f : α → List (Nat × Nat)} {size : Nat} (one : ∀ x, widthOf (f x) = size) (l : List α) :
    ∀ (off : Nat) {j : Nat} {x : α}, l[j]? = some x →
      ∀ r ∈ rowsFrom (off + size * j) (f x), r ∈ rowsFrom off (l.flatMap f) := by
  induction l with
  | nil => intro off j x none'; cases none'
  | cons y l ih =>
    intro off j x at' r mem
    rw [List.flatMap_cons, rowsFrom_part (one y) rfl, List.mem_append]
    cases j with
    | zero =>
      rw [List.getElem?_cons_zero, Option.some.injEq] at at'
      exact .inl (at' ▸ mem)
    | succ j =>
      rw [Nat.mul_succ, Nat.add_comm (size * j), ← Nat.add_assoc] at mem
      exact .inr (ih (off + size) at' r mem)

theorem slotRows_among (s : State) (i : Fin 8) : ∀ r ∈ slotRows (7 + 12 * i.val) (s.slot i),
    r ∈ rowsFrom 7 (eight.flatMap fun i => slotNumbers (s.slot i)) := by
  have one (i : Fin 8) : widthOf (slotNumbers (s.slot i)) = 12 := by simp [widthOf, slotNumbers]
  have place : eight[i.val]? = some i := by revert i; decide
  intro r mem
  rw [← slotRows_eq] at mem
  exact rowsFrom_uniform one eight 7 place r mem

theorem statusNumbers_size (s : State) : widthOf (statusNumbers s) = 150 := by
  have append (xs ys : List (Nat × Nat)) : widthOf (xs ++ ys) = widthOf xs + widthOf ys := by
    rw [widthOf, List.map_append, List.sum_append]
    rfl
  have slots : widthOf (eight.flatMap fun i => slotNumbers (s.slot i)) = 96 := by
    simp [widthOf, eight, slotNumbers]
  have head : widthOf (statusHead s) = 7 := by simp [widthOf, statusHead, detectorNumbers]
  have queue : widthOf (queueNumbers s.table.queue) = 9 := rfl
  have tail : widthOf (statusTail s) = 38 := by simp [widthOf, statusTail]
  rw [statusNumbers, append, append, append, head, slots, queue, tail]

theorem statusHead_rows (s : State) : rowsFrom 0 (statusHead s) =
    [(0, 1, chainCodes.idxOf s.chain.st)] ++ detectorRows 1 s.active.det.z s.det.z ++ detectorRows 4 s.active.det.h s.det.h := by
  have three : widthOf (detectorNumbers (s.params .z) s.det.z) = 3 := by simp [widthOf, detectorNumbers]
  rw [statusHead, rowsFrom, rowsFrom_part three rfl, detectorRows_eq, detectorRows_eq, (chain_code_eq s.chain.st).1]
  rfl

theorem queueNumbers_rows (q : List (Fin 8)) : rowsFrom 103 (queueNumbers q) =
    [(103, 1, q.length)] ++ inTurn 104 1 ((List.range 8).map fun j => (q[j]?.map (·.val)).getD 0) := by
  rw [queueNumbers, rowsFrom, rowsFrom_inTurn]
  rfl

/-- The rows behind the slots and the refinement queue. -/
theorem statusTail_rows (s : State) : rowsFrom 112 (statusTail s) =
    [(112, 1, (s.unit.map (·.slot.val)).getD 255), (113, 1, s.reports.queue.length),
      (114, 1, (eight.filter fun i => (s.slot i).st == .done).length),
      (115, 1, pendingKeys s), (116, 1, s.reports.blocked.toNat), (117, 1, s.time.st.code),
      (118, 1, s.time.lastLabel.isSome.toNat), (119, 5, s.time.lastLabel.getD 0), (124, 2, s.time.missed),
      (126, 1, s.store.writing.isSome.toNat + 2 * s.store.defaulted.toNat),
      (127, 1, (s.intake.link == .up).toNat + 2 * s.newest.isSome.toNat), (128, 4, (s.newest.getD 0).toNat),
      (132, 1, s.floor), (133, 1, s.revert.length), (134, 1, s.chain.expSt.code), (135, 1, s.chain.impSt.code)] ++
    inTurn 136 2 [s.table.lost.z, s.table.lost.h, s.intake.stale, s.intake.bad, s.intake.filled, s.intake.gaps,
      s.port.discarded] := by
  rw [statusTail, rowsFrom_append, rowsFrom_inTurn, bitsOf_one, bitsOf_one, bitsOf_two, bitsOf_two]
  simp [rowsFrom, widthOf, State.slotsIn]

/-- The bits of a number of eight. -/
theorem eight_bits {n a b c d e f g h : Nat} (ha : a ≤ 1) (hb : b ≤ 1) (hc : c ≤ 1) (hd : d ≤ 1) (he : e ≤ 1) (hf : f ≤ 1)
    (hg : g ≤ 1) (hh : h ≤ 1) (number : n = a + 2 * (b + 2 * (c + 2 * (d + 2 * (e + 2 * (f + 2 * (g + 2 * h))))))) :
    n / 2 ^ 0 % 2 ^ (0 + 1 - 0) = a ∧ n / 2 ^ 1 % 2 ^ (1 + 1 - 1) = b ∧ n / 2 ^ 2 % 2 ^ (2 + 1 - 2) = c ∧
      n / 2 ^ 3 % 2 ^ (3 + 1 - 3) = d ∧ n / 2 ^ 4 % 2 ^ (4 + 1 - 4) = e ∧ n / 2 ^ 5 % 2 ^ (5 + 1 - 5) = f ∧
      n / 2 ^ 6 % 2 ^ (6 + 1 - 6) = g ∧ n / 2 ^ 7 % 2 ^ (7 + 1 - 7) = h := by
  refine ⟨?_, ?_, ?_, ?_, ?_, ?_, ?_, ?_⟩ <;> omega

theorem keys_packed {s : State} {bs : List Byte} (keys : field bs 115 1 = pendingKeys s) :
    packs bs 115 1 (eight.map fun k => (k.val, k.val, s.reports.notices[k].isSome.toNat)) := by
  have bits := eight_bits (Bool.toNat_le _) (Bool.toNat_le _) (Bool.toNat_le _) (Bool.toNat_le _) (Bool.toNat_le _)
    (Bool.toNat_le _) (Bool.toNat_le _) (Bool.toNat_le _) (keys.trans (pendingKeys_eq s))
  simp only [packs, eight, List.map_cons, List.map_nil, List.forall_mem_cons, List.not_mem_nil, false_imp_iff,
    implies_true, and_true]
  exact bits

theorem statusBytes_laidOut {s : State} (held : s.withinCapacity) (queue : s.queueAgrees) (time : s.timeAgrees) :
    s.statusLaidOut (statusBytes s) := by
  have short : s.table.queue.length ≤ 8 := by
    obtain ⟨-, once, -⟩ := queue
    simpa using once.length_le_card
  have fit := statusNumbers_fit held time short
  obtain ⟨-, -, -, -, -, -, -, -, -, -, -, -, -, -, -, imported⟩ := held
  have carried (rows : List (Nat × Nat × Nat)) (among : ∀ r ∈ rows, r ∈ rowsFrom 0 (statusNumbers s)) :
      carries (statusBytes s) rows := by
    have all := carries_of_lay [] fit among
    rwa [List.append_nil, ← statusBytes_eq] at all
  rw [statusRows] at carried
  have head (rows : List (Nat × Nat × Nat)) (among : ∀ r ∈ rows, r ∈ rowsFrom 0 (statusHead s)) :=
    carried rows fun r mem => List.mem_append_left _ (among r mem)
  have slots (rows : List (Nat × Nat × Nat))
      (among : ∀ r ∈ rows, r ∈ rowsFrom 7 (eight.flatMap fun i => slotNumbers (s.slot i))) :=
    carried rows fun r mem => List.mem_append_right _ (List.mem_append_left _ (among r mem))
  have behind (rows : List (Nat × Nat × Nat))
      (among : ∀ r ∈ rows, r ∈ rowsFrom 103 (queueNumbers s.table.queue) ++ rowsFrom 112 (statusTail s)) :=
    carried rows fun r mem => List.mem_append_right _ (List.mem_append_right _ (among r mem))
  have tail (rows : List (Nat × Nat × Nat)) (among : ∀ r ∈ rows, r ∈ rowsFrom 112 (statusTail s)) :=
    behind rows fun r mem => List.mem_append_right _ (among r mem)
  rw [statusTail_rows] at tail
  have keys := tail [(115, 1, pendingKeys s)] (by simp) _ List.mem_cons_self
  have store := tail [(126, 1, s.store.writing.isSome.toNat + 2 * s.store.defaulted.toNat)] (by simp) _ List.mem_cons_self
  have link := tail [(127, 1, (s.intake.link == .up).toNat + 2 * s.newest.isSome.toNat)] (by simp) _ List.mem_cons_self
  dsimp only at keys store link
  have bit (b : Bool) := Bool.toNat_le b
  refine ⟨?_, ?_, fun i => slots _ (slotRows_among s i), ?_, ?_, ?_, ?_, ?_, ?_⟩
  · rw [statusBytes_eq, lay_length]
    exact statusNumbers_size s
  · refine head _ ?_
    rw [statusHead_rows]
    exact fun r mem => mem
  · refine behind _ ?_
    rw [queueNumbers_rows, statusTail_rows, List.forall_mem_append]
    refine ⟨fun r mem => List.mem_append_left _ mem, fun r mem => List.mem_append_right _ (List.mem_append_left _ ?_)⟩
    simp only [List.mem_cons, List.not_mem_nil, or_false] at mem ⊢
    rcases mem with same | same | same
    · exact .inl same
    · exact .inr (.inl same)
    · exact .inr (.inr (.inl same))
  · exact keys_packed keys
  · refine tail _ ?_
    rw [← (TimeState_code_eq s.time.st).1]
    simp
  · have a := bit s.store.writing.isSome
    have b := bit s.store.defaulted
    simp only [packs, List.forall_mem_cons, store, List.not_mem_nil, false_imp_iff, implies_true, and_true]
    omega
  · have a := bit s.newest.isSome
    have up : (s.intake.link == .up).toNat = if s.intake.link = .up then 1 else 0 := by
      cases s.intake.link <;> rfl
    have b := bit (s.intake.link == .up)
    simp only [packs, List.forall_mem_cons, link, ← up, List.not_mem_nil, false_imp_iff, implies_true, and_true]
    omega
  · refine tail _ ?_
    rw [← (exportState_code_eq s.chain.expSt).1, ← (importState_code_eq imported).1]
    rw [List.forall_mem_append]
    exact ⟨by simp, fun r mem => List.mem_append_right _ mem⟩

end Sys2Proof.Proofs
end

section
/-! PROOFS. The snapshot read back from its records (2.6, 11.5), and the layouts together. -/

namespace Sys2Proof.Proofs

open Sys2Proof.Machine Sys2Proof.Laws

/-! ## A snapshot's records (2.6) -/

/-- The numbers of record 1. -/
def headerNumbers (h : Header) : List (Nat × Nat) :=
  [(2, h.rate), (1, mapCode h.map), (1, h.hp), (1, h.cf), (1, h.blk), (1, h.sta.z), (1, h.sta.h), (1, h.lta.z), (1, h.lta.h),
    (6, 0)]

theorem importHeader_bytes {sn : Snapshot} (legal : sn.header.legal = true) (x : Snapshot) :
    importRecord 1 (sn.bytes 1) x = some { x with header := sn.header } := by
  set h := sn.header with header
  have ranges := legal
  simp only [Header.legal, Bool.and_eq_true, inRange_bounds, Item.lo, Item.hi] at ranges
  obtain ⟨⟨⟨⟨⟨⟨⟨⟨rate, -⟩, hp⟩, cf⟩, blk⟩, sz⟩, sh⟩, lz⟩, lh⟩ := ranges
  have rate : h.rate ≤ 500 := by
    have listed : ∀ r ∈ rates, r ≤ 500 := by decide
    exact listed _ (List.contains_iff_mem.mp rate)
  have z := (position_code h.map.z).2
  have n := (position_code h.map.n).2
  have e := (position_code h.map.e).2
  have fit : ∀ y ∈ headerNumbers h, y.2 < 256 ^ y.1 := by
    simp only [headerNumbers, mapCode, List.forall_mem_cons, List.not_mem_nil, false_imp_iff, implies_true, and_true]
    omega
  have bytes : sn.bytes 1 = lay (headerNumbers h) ++ [] := by
    simp [Snapshot.bytes, headerNumbers, lay, header]
  have rows := carries_lay (headerNumbers h) [] [] fit
  rw [List.nil_append, ← bytes] at rows
  simp only [headerNumbers, rowsFrom, List.length_nil, carries, List.forall_mem_cons, List.not_mem_nil, false_imp_iff,
    implies_true, and_true, Nat.zero_add, Nat.reduceAdd] at rows
  obtain ⟨r0, r2, r3, r4, r5, r6, r7, r8, r9, -⟩ := rows
  have read : headerOf (sn.bytes 1) h.map = h := by
    rw [headerOf, r0, r3, r4, r5, r6, r7, r8, r9]
  change importHeader (sn.bytes 1) x = _
  rw [importHeader, r2, mapOf_mapCode]
  dsimp only
  rw [read, if_pos legal]

theorem importMean_bytes {m : Int} (legal : meanLegal m = true) (behind : List Byte) (put : Int → Trio Int) (x : Snapshot) :
    importMean (fieldInt (beInt 4 m ++ behind) 0 4) put x = some { x with mean := put m } := by
  have run := slice_at [] (beInt 4 m) behind
  rw [beInt_length] at run
  have range := legal
  simp only [meanLegal, Bool.and_eq_true, decide_eq_true_eq] at range
  rw [fieldInt, show slice (beInt 4 m ++ behind) 0 4 = beInt 4 m from run,
    unbeInt_signed (half := 2 ^ 31) (by norm_num) (by norm_num; omega) (by norm_num; omega), importMean, if_pos legal]

theorem importAverages_bytes {w : Det} {a : Averages} {x : Snapshot} (sta : a.sta ≤ avgBound w x.header.cf)
    (lta : a.lta ≤ avgBound w x.header.cf) :
    importAverages w (be 8 a.sta ++ be 8 a.lta) x = some { x with avg := x.avg.set w a } := by
  have most : avgBound w x.header.cf < 256 ^ 8 := by
    cases w with
    | z => exact (Nat.pow_le_pow_right (by decide) (Nat.sub_le 54 _)).trans_lt (by norm_num)
    | h => exact (Nat.pow_le_pow_right (by decide) (Nat.sub_le 55 _)).trans_lt (by norm_num)
  have first : field (be 8 a.sta ++ be 8 a.lta) 0 8 = a.sta := field_be _ (sta.trans_lt most)
  have second : field (be 8 a.sta ++ be 8 a.lta) 8 8 = a.lta := by
    have behind := field_behind (be 8 a.sta) (be 8 a.lta ++ []) 0 8
    rw [be_length, List.append_nil] at behind
    rw [behind]
    have read := field_be (k := 8) [] (lta.trans_lt most)
    rwa [List.append_nil] at read
  rw [importAverages]
  dsimp only
  rw [first, second, if_pos ⟨sta, lta⟩]

/-- The seven records of a legal snapshot, taken in order, leave it in the import buffer (R39, R40). -/
theorem snapshot_taken {sn old : Snapshot} (legal : sn.header.legal = true) (count : sn.count = 7)
    (z : meanLegal sn.mean.z = true) (n : meanLegal sn.mean.n = true) (e : meanLegal sn.mean.e = true)
    (zs : sn.avg.z.sta ≤ avgBound .z sn.header.cf) (zl : sn.avg.z.lta ≤ avgBound .z sn.header.cf)
    (hs : sn.avg.h.sta ≤ avgBound .h sn.header.cf) (hl : sn.avg.h.lta ≤ avgBound .h sn.header.cf) :
    [1, 2, 3, 4, 5, 6, 7].foldl (fun acc k => acc.bind (importRecord k (sn.bytes k))) (some old) = some sn := by
  have second (x : Snapshot) : importRecord 2 (sn.bytes 2) x = some { x with mean := { x.mean with z := sn.mean.z } } :=
    importMean_bytes z (be 12 0) (fun m => { x.mean with z := m }) x
  have third (x : Snapshot) : importRecord 3 (sn.bytes 3) x = some { x with mean := { x.mean with n := sn.mean.n } } :=
    importMean_bytes n (be 12 0) (fun m => { x.mean with n := m }) x
  have fourth (x : Snapshot) : importRecord 4 (sn.bytes 4) x = some { x with mean := { x.mean with e := sn.mean.e } } :=
    importMean_bytes e (be 12 0) (fun m => { x.mean with e := m }) x
  have fifth (x : Snapshot) (cf : x.header = sn.header) :
      importRecord 5 (sn.bytes 5) x = some { x with avg := x.avg.set .z sn.avg.z } :=
    importAverages_bytes (by rwa [cf]) (by rwa [cf])
  have sixth (x : Snapshot) (cf : x.header = sn.header) :
      importRecord 6 (sn.bytes 6) x = some { x with avg := x.avg.set .h sn.avg.h } :=
    importAverages_bytes (by rwa [cf]) (by rwa [cf])
  have seventh (x : Snapshot) : importRecord 7 (sn.bytes 7) x = some { x with count := 7, sample := sn.sample } := by
    have bytes : sn.bytes 7 = lay [(1, 7), (4, sn.sample.toNat), (11, 0)] ++ [] := by
      simp [Snapshot.bytes, lay, count]
    have rows := carries_lay [(1, 7), (4, sn.sample.toNat), (11, 0)] [] [] (by
      have sample := sn.sample.isLt
      simp only [List.forall_mem_cons, List.not_mem_nil, false_imp_iff, implies_true, and_true]
      omega)
    rw [List.nil_append, ← bytes] at rows
    have number : field (sn.bytes 7) 0 1 = 7 := rows _ List.mem_cons_self
    have sample : field (sn.bytes 7) 1 4 = sn.sample.toNat := rows _ (List.mem_cons_of_mem _ List.mem_cons_self)
    rw [importRecord, number, sample, if_pos rfl, BitVec.ofNat_toNat, BitVec.setWidth_eq]
  simp only [List.foldl_cons, List.foldl_nil, Option.bind_some]
  rw [importHeader_bytes legal, Option.bind_some, second, Option.bind_some, third, Option.bind_some, fourth, Option.bind_some,
    fifth _ (by rfl), Option.bind_some, sixth _ (by rfl), Option.bind_some, seventh, ← count]
  rfl

/-- Settles O51: frames and snapshots read back, and what the host reads by its rows. -/
theorem bytesFollowTheirLayouts : Obligations.BytesFollowTheirLayouts := by
  refine ⟨fun f fits => ⟨?_, ?_, sampleBytes_length f⟩, fun sn old => snapshot_taken, fun q fits => record_laidOut fits,
    fun rep => replyFrame_laidOut, fun s => statusBytes_laidOut, fun s legal => ?_⟩
  · rw [sampleBytes_eq]
    exact sampleFields_of fits _
  · have two : (be 2 (crc16 (sampleMiddle f))).length = 2 := be_length 2 _
    rw [sampleBytes_eq, sampleCheck_eq, List.take_left' (sampleMiddle_length f), List.drop_left' (sampleMiddle_length f),
      List.take_of_length_le two.le, unbe_crc, beq_self_eq_true]
  · obtain ⟨profiles, station, gates, -⟩ := legal
    exact ⟨fun e => profileBytes_laidOut (profiles e).1, stationBytes_laidOut station,
      fun k => gateReadBytes_laidOut (gates k).2⟩

end Sys2Proof.Proofs
end

section
/-! PROOFS. What every conditioned frame does to the part (1.2, 1.3): the ring's write, and the frame in every recipient's
hands. -/

namespace Sys2Proof.Proofs

open Sys2Proof.Machine Sys2Proof.Laws

/-- A pin older than a ring's oldest sample is advanced to it, with HISTORY_SHORT (R18). -/
def advancedIn (ring : List RingEntry) (x : Slot) : Slot :=
  match x.pin, ring.head? with
  | some q, some o =>
    if 0 < distance q o.n then { x with pin := some o.n, flags := { x.flags with historyShort := true } } else x
  | _, _ => x

theorem union_historyShort (f : Flags) : f.union { historyShort := true } = { f with historyShort := true } := by
  simp [Flags.union]

/-- The slots as a conditioned frame finds them: a full ring has advanced the pins. -/
def slotsWritten (c : Conditioned) (s : State) : State :=
  if decide (16384 ≤ s.ring.length) = true then s.mapSlots fun _ x => advancedIn (pushed s.ring c) x else s

theorem pushed_eq (c : Conditioned) (ring : List RingEntry) : pushed ring c =
    (if decide (16384 ≤ ring.length) = true then ring.drop 1 else ring) ++ [⟨c.n, c.d, c.clip, c.filled⟩] := by
  unfold pushed
  by_cases room : ring.length < Config.ringCap
  · rw [if_pos room, if_neg (by rw [decide_eq_true_eq]; exact not_le.2 room)]
  · have full : 16384 ≤ ring.length := not_lt.1 room
    rw [if_neg room, if_pos (decide_eq_true full)]

theorem pushed_head (c : Conditioned) (ring : List RingEntry) : ∃ o, (pushed ring c).head? = some o := by
  unfold pushed
  cases (if ring.length < Config.ringCap then ring else ring.drop 1) with
  | nil => exact ⟨_, rfl⟩
  | cons o rest => exact ⟨o, rfl⟩

theorem advancePins_eq {o : RingEntry} {ring : List RingEntry} (is : ring.head? = some o) (s : State) :
    advancePins o.n s = s.mapSlots fun _ x => advancedIn ring x := by
  have moved (x : Slot) : (match x.pin with
      | some q => if 0 < distance q o.n then { x with pin := some o.n }.raise { historyShort := true } else x
      | none => x) = advancedIn ring x := by
    unfold advancedIn
    rw [is]
    cases x.pin with
    | none => rfl
    | some q => exact if_congr Iff.rfl (by rw [Slot.raise, union_historyShort]) rfl
  unfold advancePins
  refine congrArg s.mapSlots ?_
  funext _ x
  exact moved x

/-- The ring's write, with the pins that a full ring advances (R18). -/
theorem ringWrite_eq (c : Conditioned) (s : State) :
    ringWrite c s = { slotsWritten c s with ring := pushed s.ring c } := by
  unfold slotsWritten
  by_cases room : s.ring.length < 16384
  · have notFull : ¬ decide (16384 ≤ s.ring.length) = true := by
      rw [decide_eq_true_eq]
      exact not_le.2 room
    have kept : pushed s.ring c = s.ring ++ [⟨c.n, c.d, c.clip, c.filled⟩] := by
      rw [pushed_eq, if_neg notFull]
    rw [if_neg notFull, kept]
    exact if_pos room
  · have full : decide (16384 ≤ s.ring.length) = true := decide_eq_true (not_lt.1 room)
    have dropped : pushed s.ring c = s.ring.drop 1 ++ [⟨c.n, c.d, c.clip, c.filled⟩] := by
      rw [pushed_eq, if_pos full]
    obtain ⟨o, is⟩ := pushed_head c s.ring
    have write : ringWrite c s = advancePins (((pushed s.ring c).head?.map (·.n)).getD c.n)
        { s with ring := pushed s.ring c } := by
      rw [dropped]
      exact if_neg room
    rw [if_pos full, write, is]
    exact advancePins_eq is _

/-- The state in which a conditioned frame's recipients take it. -/
def conditionedAt (f : RawFrame) (filled : Bool) (drawn : Nat) (s : State) : State :=
  { slotsWritten (conditioned s f filled).1 s with
    newest := some f.seq
    dc := (conditioned s f filled).2
    ring := pushed s.ring (conditioned s f filled).1
    due := ⟨false, true, true⟩
    choices := s.choices + drawn }

/-- A raw frame is conditioned, written into the ring and handed to every recipient in some order (R16). -/
theorem conditionFrame_eq (f : RawFrame) (filled : Bool) (s : State) : ∃ order drawn, delivers order ∧ drawn ≤ 1 ∧
    conditionFrame f filled s =
      order.foldl (receive (conditioned s f filled).1) (conditionedAt f filled drawn s) := by
  obtain ⟨order, drawn, order', le, is⟩ := deliver_shape (conditioned s f filled).1
    (ringWrite (conditioned s f filled).1
      { s with dc := (conditioned s f filled).2, newest := some f.seq, due := ⟨false, true, true⟩ })
  refine ⟨order, drawn, order', le, is.trans (congrArg (order.foldl _) ?_)⟩
  rw [ringWrite_eq]
  unfold conditionedAt slotsWritten
  by_cases full : decide (16384 ≤ s.ring.length) = true
  · rw [if_pos full]
    simp only [if_pos full]
    rfl
  · rw [if_neg full]
    simp only [if_neg full]

/-- A conditioned frame is handed to every recipient once (R16). -/
theorem conditionFrame_handedOn (f : RawFrame) (filled : Bool) (s : State) :
    handedOn s (conditionFrame f filled s) f filled := by
  obtain ⟨order, drawn, ⟨perm, ahead, behind, split, mem⟩, le, is⟩ := conditionFrame_eq f filled s
  refine ⟨order, ahead, behind, drawn, perm, split, mem, le, is.trans (congrArg (order.foldl _) ?_)⟩
  unfold conditionedAt slotsWritten
  rw [pushed_eq]
  rfl

end Sys2Proof.Proofs
end

section
/-! PROOFS. A short gap (1.1, 1.2): the filled frames, each with the means that the one before it left. -/

namespace Sys2Proof.Proofs

open Sys2Proof.Machine Sys2Proof.Laws

/-! ## What trials that expire leave as it is (9.1, 10.5) -/

theorem put_live {i : Item} (live : i.live = true) (p : Profile) (v : Nat) :
    (p.put i v).hp = p.hp ∧ (p.put i v).blk = p.blk := by
  cases i with
  | hp | blk => exact absurd live (by decide)
  | _ => exact ⟨rfl, rfl⟩

/-- Station, active pointer and the active entry's filter and block length are those of s, and every trial is on a live
parameter. -/
structure worksAs (s t : State) : Prop where
  station : t.settings.station = s.settings.station
  active : t.settings.active = s.settings.active
  hp : t.active.hp = s.active.hp
  blk : t.active.blk = s.active.blk
  live : t.trialsLive

theorem worksAs_refl {s : State} (live : s.trialsLive) : worksAs s s := ⟨rfl, rfl, rfl, rfl, live⟩

theorem worksAs_trans {s t u : State} (a : worksAs s t) (b : worksAs t u) : worksAs s u :=
  ⟨b.station.trans a.station, b.active.trans a.active, b.hp.trans a.hp, b.blk.trans a.blk, b.live⟩

/-- What touches neither settings nor stack leaves the part working as before. -/
theorem worksAs_of_same {s t : State} (settings : t.settings = s.settings) (stack : t.revert = s.revert)
    (live : s.trialsLive) : worksAs s t := by
  have active : t.active = s.active := by simp only [State.active, settings]
  exact ⟨by rw [settings], by rw [settings], by rw [active], by rw [active], fun x is => live x (stack ▸ is)⟩

/-- An old value restored is a live parameter's. -/
theorem popTrial_worksAs {s : State} {t : Trial} {rest : List Trial} (stack : s.revert = t :: rest) (live : s.trialsLive) :
    worksAs s (popTrial t rest s) := by
  have top := live t (by rw [stack]; exact List.mem_cons_self)
  obtain ⟨hp, blk⟩ := put_live top s.settings.profiles[t.entry] t.old
  have active : (popTrial t rest s).active =
      if s.settings.active = t.entry then s.settings.profiles[t.entry].put t.item t.old else s.active :=
    active_setProfile _ _ _
  refine ⟨rfl, rfl, ?_, ?_, fun t' is => live t' ?_⟩
  · rw [active]
    split
    next here => simp only [hp, State.active, here]
    next => rfl
  · rw [active]
    split
    next here => simp only [blk, State.active, here]
    next => rfl
  · rw [stack]
    exact List.mem_cons_of_mem _ is

theorem popExpired_worksAs (n : Sample) (ts : List Trial) : ∀ {s : State}, s.revert = ts → s.trialsLive →
    worksAs s (popExpired n ts s) := by
  induction ts with
  | nil => exact fun _ live => worksAs_refl live
  | cons t rest ih =>
    intro s stack live
    unfold popExpired
    split
    · have popped := popTrial_worksAs stack live
      obtain ⟨tb, a, r, shape⟩ := raise_shape (trialNotice t) (popTrial t rest s)
      have raised : worksAs (popTrial t rest s) (raise (trialNotice t) (popTrial t rest s)) :=
        worksAs_of_same (by rw [shape]) (by rw [shape]) popped.live
      have before := worksAs_trans popped raised
      exact worksAs_trans before (ih (by rw [shape]; rfl) before.live)
    · exact worksAs_refl live

/-- Only the Revert Stack among a frame's recipients touches settings or stack. -/
theorem receive_settings {f : Conditioned} {s : State} {r : Recipient} (other : r ≠ .stack) :
    (receive f s r).settings = s.settings ∧ (receive f s r).revert = s.revert := by
  cases r with
  | stack => exact absurd rfl other
  | detector w =>
    obtain ⟨tb, u, a, re, c, p, shape⟩ := detectorFrame_shape w f s
    rw [receive, shape]
    exact ⟨rfl, rfl⟩
  | recentre =>
    obtain ⟨t, u, d, b, p, shape⟩ := readRecentre_shape f s
    rw [receive, shape]
    exact ⟨rfl, rfl⟩
  | after =>
    obtain ⟨t, d, c, a, re, du, shape⟩ := afterDetectors_shape f s
    rw [receive, shape]
    exact ⟨rfl, rfl⟩
  | assoc =>
    obtain ⟨a, du, shape⟩ := entryTests_shape f.n s
    rw [receive, shape]
    exact ⟨rfl, rfl⟩

theorem receive_worksAs (f : Conditioned) {s : State} (r : Recipient) (live : s.trialsLive) :
    worksAs s (receive f s r) := by
  by_cases other : r = .stack
  · rw [other, receive]
    unfold trialTests
    split
    · have noted : worksAs s { s with due := { s.due with trials := false } } := worksAs_of_same rfl rfl live
      exact worksAs_trans noted (popExpired_worksAs f.n s.revert rfl live)
    · exact worksAs_refl live
  · obtain ⟨settings, stack⟩ := receive_settings (f := f) (s := s) other
    exact worksAs_of_same settings stack live

theorem foldl_worksAs (f : Conditioned) (order : List Recipient) : ∀ {s : State}, s.trialsLive →
    worksAs s (order.foldl (receive f) s) := by
  induction order with
  | nil => exact fun live => worksAs_refl live
  | cons r rest ih =>
    intro s live
    have first := receive_worksAs f r live
    exact worksAs_trans first (ih first.live)

theorem slotsWritten_shape (c : Conditioned) (s : State) : ∃ t, slotsWritten c s = { s with table := t } := by
  unfold slotsWritten
  split
  · exact ⟨_, rfl⟩
  · exact ⟨s.table, rfl⟩

theorem conditionedAt_shape (f : RawFrame) (filled : Bool) (drawn : Nat) (s : State) : ∃ t,
    conditionedAt f filled drawn s = { s with
      table := t, newest := some f.seq, dc := (conditioned s f filled).2
      ring := pushed s.ring (conditioned s f filled).1, due := ⟨false, true, true⟩, choices := s.choices + drawn } := by
  obtain ⟨t, shape⟩ := slotsWritten_shape (conditioned s f filled).1 s
  exact ⟨t, by rw [conditionedAt, shape]⟩

theorem conditionFrame_worksAs (f : RawFrame) (filled : Bool) {s : State} (live : s.trialsLive) :
    worksAs s (conditionFrame f filled s) := by
  obtain ⟨order, drawn, -, -, is⟩ := conditionFrame_eq f filled s
  obtain ⟨t, shape⟩ := conditionedAt_shape f filled drawn s
  have start : worksAs s (conditionedAt f filled drawn s) :=
    worksAs_of_same (by rw [shape]) (by rw [shape]) live
  rw [is]
  exact worksAs_trans start (foldl_worksAs _ _ start.live)

/-! ## The ring and the means over several frames (1.2, 1.3) -/

/-- What a raw frame makes of ring and means under the station record and filter of s. -/
def conditions (s : State) (acc : List RingEntry × Trio (Option Int)) (x : RawFrame × Bool) :
    List RingEntry × Trio (Option Int) :=
  let c := conditioned { s with dc := acc.2 } x.1 x.2
  (pushed acc.1 c.1, c.2)

/-- Conditioning reads the station record, the active entry's filter and the means. -/
theorem conditioned_worksAs {s t : State} (works : worksAs s t) (f : RawFrame) (filled : Bool) :
    conditioned t f filled = conditioned { s with dc := t.dc } f filled := by
  unfold conditioned
  rw [works.station, works.hp]
  rfl

theorem conditionFrame_conditions {s t : State} (works : worksAs s t) (f : RawFrame) (filled : Bool) :
    ((conditionFrame f filled t).ring, (conditionFrame f filled t).dc) = conditions s (t.ring, t.dc) (f, filled) := by
  obtain ⟨tb, _, _, _, _, _, _, _, _, _, _, shape⟩ := conditionFrame_handled f filled t
  rw [shape]
  unfold conditions
  rw [← conditioned_worksAs works]

/-- The filled frames of a short gap from sequence number n on (R4). -/
def fillsFrom (raw : RawFrame) (j : Nat) (n : Sample) : List (RawFrame × Bool) :=
  (List.range j).map fun i => ({ raw with seq := n + BitVec.ofNat 32 i }, true)

theorem fillsFrom_succ (raw : RawFrame) (j : Nat) (n : Sample) :
    fillsFrom raw (j + 1) n = ({ raw with seq := n }, true) :: fillsFrom raw j (n + 1) := by
  have next (i : Nat) : n + BitVec.ofNat 32 (i + 1) = n + 1 + BitVec.ofNat 32 i := by
    rw [BitVec.ofNat_add, BitVec.add_assoc, BitVec.add_comm (BitVec.ofNat 32 i)]
    rfl
  have first : n + BitVec.ofNat 32 0 = n := BitVec.add_zero n
  unfold fillsFrom
  rw [List.range_succ_eq_map, List.map_cons, List.map_map, first]
  refine congrArg _ (List.map_congr_left fun i _ => ?_)
  rw [Function.comp_apply, Nat.succ_eq_add_one, next]

theorem fillFrames_handedOnAll (raw : RawFrame) (j : Nat) : ∀ (n : Sample) (s : State),
    handedOnAll (fillsFrom raw j n) s (fillFrames raw j n s) := by
  induction j with
  | zero => exact fun _ _ => rfl
  | succ j ih =>
    intro n s
    rw [fillsFrom_succ]
    exact ⟨_, conditionFrame_handedOn _ true s, ih (n + 1) _⟩

theorem fillFrames_conditions {s : State} (raw : RawFrame) (j : Nat) : ∀ (n : Sample) {t : State}, worksAs s t →
    worksAs s (fillFrames raw j n t) ∧ ((fillFrames raw j n t).ring, (fillFrames raw j n t).dc) =
      (fillsFrom raw j n).foldl (conditions s) (t.ring, t.dc) := by
  induction j with
  | zero => exact fun _ _ works => ⟨works, rfl⟩
  | succ j ih =>
    intro n t works
    have next := worksAs_trans works (conditionFrame_worksAs { raw with seq := n } true works.live)
    obtain ⟨works', is⟩ := ih (n + 1) next
    refine ⟨works', ?_⟩
    rw [fillsFrom_succ, List.foldl_cons, ← conditionFrame_conditions works]
    exact is

/-- What a conditioned frame leaves besides ring, means and recipients. -/
theorem conditionFrame_time (f : RawFrame) (filled : Bool) (s : State) :
    (conditionFrame f filled s).time = s.time ∧ (conditionFrame f filled s).newest = some f.seq := by
  obtain ⟨_, _, _, _, _, _, _, _, _, _, _, shape⟩ := conditionFrame_handled f filled s
  rw [shape]
  exact ⟨rfl, rfl⟩

theorem fillFrames_time (raw : RawFrame) (j : Nat) : ∀ (n : Sample) (s : State), (fillFrames raw j n s).time = s.time := by
  induction j with
  | zero => exact fun _ _ => rfl
  | succ j ih => exact fun n s => (ih _ _).trans (conditionFrame_time _ _ _).1

theorem goodFrame_up {s : State} {f : RawFrame} {e : Sample} {now : Nat} (up : s.intake.link = .up)
    (expected : s.intake.expected = some e) : goodFrame now f s = classify now f e s := by
  rw [goodFrame, up, expected]

/-- Settles O28: the filled frames by induction on the jump, then the arriving one. -/
theorem shortGapIsFilled : Obligations.ShortGapIsFilled := by
  unfold Obligations.ShortGapIsFilled
  intro s f raw tick j e on empty quiet fits up expected lastRaw jump some' short live fills frames push take
  set filledUp := fillFrames raw j e { s with clock := tick } with filledUp_eq
  set arriving := { filledUp with
    intake := { s.intake with lastRaw := some f, expected := some (f.seq + 1), silence := some tick
                              filled := min (s.intake.filled + j) 65535 }
    time := { s.time with lastFrame := some (f.seq, tick) } } with arriving_eq
  have link : filledUp.intake = s.intake := (fillFrames_link raw j e _).1
  have time : filledUp.time = s.time := fillFrames_time raw j e _
  obtain ⟨works, filledRing⟩ := fillFrames_conditions (s := s) raw j e
    (t := { s with clock := tick }) (worksAs_of_same rfl rfl live)
  have row : exec (.sampleFrame (sampleBytes f) tick) s = .next (conditionFrame f false arriving) := by
    rw [sampleFrame_whole on empty quiet fits, goodFrame_up (s := { s with clock := tick }) up expected, classify, jump]
    dsimp only
    rw [if_neg (by omega), if_neg (by omega), if_pos (by exact_mod_cast short), Int.toNat_natCast, shortGap]
    dsimp only
    rw [lastRaw]
    dsimp only
    rw [acceptFrame, ← filledUp_eq, link, time]
    rfl
  have takes : take = conditions s := by
    funext acc x
    simp only [take, conditions, push, pushed]
    rfl
  refine ⟨conditionFrame f false arriving, row, ⟨filledUp, fillFrames_handedOnAll raw j e _, ?_⟩, ?_,
    (conditionFrame_link f false arriving).1, (conditionFrame_time f false arriving).1, (conditionFrame_time f false arriving).2⟩
  · rw [(conditionFrame_link f false arriving).1, (conditionFrame_time f false arriving).1]
    exact conditionFrame_handedOn f false arriving
  · rw [takes, List.foldl_append]
    have last := conditionFrame_conditions (s := s) (t := arriving) ⟨works.station, works.active, works.hp, works.blk, works.live⟩
      f false
    exact last.trans (congrArg (conditions s · (f, false)) filledRing)

end Sys2Proof.Proofs
end

section
/-! PROOFS. The bytes that the intake still holds are nothing to the frame it has taken: what the frame does to the part and
what is held commute (1.1). -/

namespace Sys2Proof.Proofs

open Sys2Proof.Machine Sys2Proof.Laws

/-- State s with the bytes l held by the intake. -/
abbrev holding (l : List Byte) (s : State) : State := { s with intake := { s.intake with rx := l } }

variable (l : List Byte)

theorem closeSlot_holding (close : Sample) (f : Flags) (i : Fin 8) (s : State) :
    closeSlot close f i (holding l s) = holding l (closeSlot close f i s) := by
  obtain ⟨t, u, shape⟩ := closeSlot_shape close f i s
  refine (closeSlot_reads close f i (holding l s) s).trans ?_
  rw [shape]

theorem closeAll_holding (f : Flags) (s : State) : closeAll f (holding l s) = holding l (closeAll f s) := by
  obtain ⟨t, u, shape⟩ := closeAll_shape f s
  refine (closeAll_reads f (holding l s) s).trans ?_
  rw [shape]

theorem raise_holding (d : NoticeData) (s : State) : raise d (holding l s) = holding l (raise d s) := by
  obtain ⟨t, a, r, shape⟩ := raise_shape d s
  refine (raise_reading (holding l s) s d).trans ?_
  rw [shape]

theorem autoClose_holding (w : Det) (n : Sample) (s : State) :
    autoClose w n (holding l s) = holding l (autoClose w n s) := by
  have same (is : List (Fin 8)) : byTrigger (holding l s) is = byTrigger s is :=
    byTrigger_congr (s := s) (t := holding l s) (fun _ => rfl) is
  unfold autoClose
  rw [same]
  change List.foldl _ (holding l s) (byTrigger s (eight.filter fun i => s.owns w i && (s.slot i).close == n)) = _
  generalize byTrigger s _ = order
  clear same
  induction order generalizing s with
  | nil => rfl
  | cons i rest ih =>
    rw [List.foldl_cons, List.foldl_cons, closeSlot_holding]
    exact ih _

theorem crossing_holding (w : Det) (t : Sample) (eff ratio : Nat) (s : State) :
    crossing w t eff ratio (holding l s) = holding l (crossing w t eff ratio s) := by
  have again' : (holding l s).retriggered w t = s.retriggered w t := rfl
  have free' : (holding l s).freeSlot? = s.freeSlot? := rfl
  unfold crossing
  rw [again', free']
  cases s.retriggered w t with
  | some i => rfl
  | none => cases s.freeSlot? <;> rfl

theorem reportSteps_holding (w : Det) (n : Sample) (ratio : Nat) (s : State) :
    reportSteps w n ratio (holding l s) = holding l (reportSteps w n ratio s) :=
  autoClose_holding l w n (raisePeaks w ratio s)

theorem crossingReport_holding (w : Det) (n : Sample) (eff ratio : Nat) (s : State) :
    crossingReport w n eff ratio (holding l s) = holding l (crossingReport w n eff ratio s) := by
  have last (v : State) : crossing w n eff ratio (reportSteps w n ratio (holding l v)) =
      holding l (crossing w n eff ratio (reportSteps w n ratio v)) := by
    rw [reportSteps_holding, crossing_holding]
  have first (v : State) : reportSteps w n ratio (crossing w n eff ratio (holding l v)) =
      holding l (reportSteps w n ratio (crossing w n eff ratio v)) := by
    rw [crossing_holding, reportSteps_holding]
  have again' : (holding l s).retriggered w n = s.retriggered w n := rfl
  have slot (i : Fin 8) : (holding l s).slot i = s.slot i := rfl
  have draws : (holding l s).draw = (s.draw.1, holding l s.draw.2) := rfl
  unfold crossingReport
  rw [again', draws, last]
  cases s.retriggered w n with
  | none => rfl
  | some i =>
    dsimp only
    rw [slot, last s.draw.2, first]
    split
    · split <;> rfl
    · rfl

theorem processed_holding (w : Det) (f : Conditioned) (s : State) :
    processed w f (holding l s) = holding l (processed w f s) := by
  have out : (holding l s).outOf w f = s.outOf w f := rfl
  unfold processed
  rw [out]
  split
  · exact raise_holding l (.baselineForced w f.n) (flagForced w (s.setDet w (s.outOf w f).det))
  · rfl

theorem detectorFrame_holding (w : Det) (f : Conditioned) (s : State) :
    detectorFrame w f (holding l s) = holding l (detectorFrame w f s) := by
  have out : (holding l s).outOf w f = s.outOf w f := rfl
  by_cases run : s.chain.st = .run
  · rw [detectorFrame_run run, detectorFrame_run (s := holding l s) run, out, processed_holding]
    split
    · exact crossingReport_holding l w f.n _ _ _
    · exact reportSteps_holding l w f.n _ _
  · rw [detectorFrame_away run, detectorFrame_away (s := holding l s) run, processed_holding]

theorem readRecentre_holding (f : Conditioned) (s : State) :
    readRecentre f (holding l s) = holding l (readRecentre f s) := by
  have active : (holding l s).active = s.active := rfl
  have blank (e : Sample) : blankTo e (holding l s) = holding l (blankTo e s) := by
    cases blanked : s.chain.blankEnd with
    | some cur => rw [blankTo_extended blanked, blankTo_extended (s := holding l s) blanked]
    | none =>
      rw [blankTo_new blanked, blankTo_new (s := holding l s) blanked, closeAll_holding]
  unfold readRecentre
  rw [active, blank, apply_ite (holding l)]
  refine if_congr Iff.rfl ?_ rfl
  cases s.chain.st <;> simp only
  rfl

theorem completionTest_holding (n : Sample) (s : State) :
    completionTest n (holding l s) = holding l (completionTest n s) := by
  unfold completionTest
  rw [apply_ite (holding l)]
  refine if_congr Iff.rfl ?_ rfl
  dsimp only
  rw [apply_ite (holding l)]
  exact if_congr Iff.rfl (raise_holding l (.warmupDone n) (enterRun { s with due := { s.due with completion := false } })) rfl

theorem afterDetectors_holding (f : Conditioned) (s : State) :
    afterDetectors f (holding l s) = holding l (afterDetectors f s) := by
  have captured : capture f.n (holding l s) = holding l (capture f.n s) := by
    unfold capture
    dsimp only
    split <;> rfl
  have ran : afterRunFrame f (holding l s) = holding l (afterRunFrame f s) := by
    have first : (if isBlockEnd (holding l s).active.blk f.n then capture f.n (holding l s) else holding l s) =
        holding l (if isBlockEnd s.active.blk f.n then capture f.n s else s) := by
      rw [captured, apply_ite (holding l)]
      rfl
    have last (v : State) : (if isAt (holding l v).chain.blankEnd f.n then endBlanking (holding l v) else holding l v) =
        holding l (if isAt v.chain.blankEnd f.n then endBlanking v else v) := by
      rw [apply_ite (holding l)]
      rfl
    unfold afterRunFrame
    dsimp only
    rw [first]
    exact last _
  have warmed : afterWarmupFrame f (holding l s) = holding l (afterWarmupFrame f s) := by
    unfold afterWarmupFrame
    cases s.chain.pauseEnd with
    | some e =>
      dsimp only
      rw [apply_ite (holding l)]
      exact if_congr Iff.rfl rfl rfl
    | none =>
      dsimp only
      rw [apply_ite (holding l)]
      exact if_congr Iff.rfl (completionTest_holding l f.n (countBlock s)) rfl
  unfold afterDetectors
  rw [ran, warmed]
  cases s.chain.st <;> simp only

theorem popExpired_holding (n : Sample) (ts : List Trial) : ∀ s : State,
    popExpired n ts (holding l s) = holding l (popExpired n ts s) := by
  induction ts with
  | nil => exact fun _ => rfl
  | cons t rest ih =>
    intro s
    unfold popExpired
    split
    · refine (congrArg (popExpired n rest) ?_).trans (ih _)
      exact raise_holding l (.trialExpired t.entry t.item t.old) (popTrial t rest s)
    · rfl

theorem receive_holding (f : Conditioned) (s : State) (r : Recipient) :
    receive f (holding l s) r = holding l (receive f s r) := by
  cases r with
  | detector w => exact detectorFrame_holding l w f s
  | recentre => exact readRecentre_holding l f s
  | after => exact afterDetectors_holding l f s
  | stack =>
    change trialTests f.n (holding l s) = holding l (trialTests f.n s)
    unfold trialTests
    dsimp only
    split
    · exact popExpired_holding l f.n s.revert { s with due := { s.due with trials := false } }
    · rfl
  | assoc =>
    change freeRenumbered f.n (entryTests f.n (holding l s)) = holding l (freeRenumbered f.n (entryTests f.n s))
    unfold entryTests
    dsimp only
    split <;> rfl

theorem foldl_holding (f : Conditioned) (order : List Recipient) : ∀ s : State,
    order.foldl (receive f) (holding l s) = holding l (order.foldl (receive f) s) := by
  induction order with
  | nil => exact fun _ => rfl
  | cons r rest ih =>
    intro s
    rw [List.foldl_cons, List.foldl_cons, receive_holding, ih]

theorem deliver_holding (f : Conditioned) (s : State) : deliver f (holding l s) = holding l (deliver f s) := by
  have matters : (holding l s).orderMatters f = s.orderMatters f := rfl
  unfold deliver
  rw [matters, foldl_holding]
  split
  · exact foldl_holding l f _ s.draw.2
  · rfl

theorem conditionFrame_holding (f : RawFrame) (filled : Bool) (s : State) :
    conditionFrame f filled (holding l s) = holding l (conditionFrame f filled s) := by
  have same : conditioned (holding l s) f filled = conditioned s f filled := rfl
  have written (c : Conditioned) (v : State) : ringWrite c (holding l v) = holding l (ringWrite c v) := by
    rw [ringWrite_eq, ringWrite_eq]
    unfold slotsWritten
    dsimp only
    split <;> rfl
  unfold conditionFrame
  dsimp only
  rw [same, ← deliver_holding, ← written]

end Sys2Proof.Proofs
end

section
/-! PROOFS. A frame in the hands of its recipients (R16): what each leaves of the detectors, the chain and the active entry,
and what an order of them does to a detector. -/

namespace Sys2Proof.Proofs

open Sys2Proof.Machine Sys2Proof.Laws

/-! ## A detector's own act -/

/-- The pending lost-trigger counts that a crossing may leave of p (R59, R60, R62). -/
def lostAfter (p : Nat) : List Nat := [p, 0, min (p + 1) 65535]

theorem crossing_lost (w : Det) (t : Sample) (eff ratio : Nat) (s : State) : ∃ tb, ∃ p ∈ lostAfter (s.det.get w).pendLost,
    crossing w t eff ratio s = { s with table := tb, det := s.det.set w { s.det.get w with pendLost := p } } := by
  cases again : s.retriggered w t with
  | some i =>
    exact ⟨_, _, List.mem_cons_self, by rw [crossing_of_retriggered again, pair_set_get]; rfl⟩
  | none =>
    cases free : s.freeSlot? with
    | some i => exact ⟨_, 0, List.mem_cons_of_mem _ List.mem_cons_self, crossing_of_freeSlot again free eff ratio⟩
    | none => exact ⟨_, _, by simp only [lostAfter, List.mem_cons, List.not_mem_nil, or_false]; exact .inr (.inr rfl),
        crossing_of_full again free eff ratio⟩

theorem crossingReport_lost (w : Det) (n : Sample) (eff ratio : Nat) (s : State) :
    ∃ tb u c, ∃ p ∈ lostAfter (s.det.get w).pendLost, crossingReport w n eff ratio s =
      { s with table := tb, unit := u, choices := c, det := s.det.set w { s.det.get w with pendLost := p } } := by
  have last (s : State) : ∃ tb u, ∃ p ∈ lostAfter (s.det.get w).pendLost, crossing w n eff ratio (reportSteps w n ratio s) =
      { s with table := tb, unit := u, det := s.det.set w { s.det.get w with pendLost := p } } := by
    obtain ⟨tb, u, h⟩ := reportSteps_shape w n ratio s
    obtain ⟨tb', p, mem, h'⟩ := crossing_lost w n eff ratio (reportSteps w n ratio s)
    rw [h] at mem h'
    exact ⟨tb', u, p, mem, by rw [h]; exact h'⟩
  have first (s : State) : ∃ tb u, ∃ p ∈ lostAfter (s.det.get w).pendLost,
      reportSteps w n ratio (crossing w n eff ratio s) =
      { s with table := tb, unit := u, det := s.det.set w { s.det.get w with pendLost := p } } := by
    obtain ⟨tb, p, mem, h⟩ := crossing_lost w n eff ratio s
    obtain ⟨tb', u, h'⟩ := reportSteps_shape w n ratio (crossing w n eff ratio s)
    exact ⟨tb', u, p, mem, by rw [h', h]⟩
  rcases crossingReport_outcomes w n eff ratio s with h | ⟨-, h | h⟩
  · obtain ⟨tb, u, p, mem, h'⟩ := last s
    exact ⟨tb, u, s.choices, p, mem, by rw [h, h']⟩
  · obtain ⟨tb, u, p, mem, h'⟩ := last s.draw.2
    exact ⟨tb, u, _, p, mem, by rw [h, h']; rfl⟩
  · obtain ⟨tb, u, p, mem, h'⟩ := first s.draw.2
    exact ⟨tb, u, _, p, mem, by rw [h, h']; rfl⟩

/-- A detector's act leaves it what its own processing leaves, but for the count that a crossing moves. -/
theorem detectorFrame_takes (w : Det) (f : Conditioned) (s : State) :
    ∃ p, (detectorFrame w f s).det = s.det.set w { (s.outOf w f).det with pendLost := p } ∧
      (s.chain.st ≠ .run ∨ (s.outOf w f).crossed = false → p = (s.outOf w f).det.pendLost) ∧
      p ∈ lostAfter (s.outOf w f).det.pendLost := by
  obtain ⟨t, a, r, shape⟩ := processed_shape w f s
  by_cases run : s.chain.st = .run
  · rw [detectorFrame_run run]
    split
    next crossed =>
      obtain ⟨tb, u, c, p, mem, is⟩ := crossingReport_lost w f.n (s.outOf w f).eff (s.outOf w f).ratio (processed w f s)
      rw [shape] at mem is
      dsimp only at mem
      rw [pair_get_set] at mem
      refine ⟨p, ?_, fun quiet => ?_, mem⟩
      · rw [shape, is]
        simp only [pair_get_set, pair_set_set]
      · rcases quiet with away | quiet
        · exact absurd run away
        · rw [crossed] at quiet
          cases quiet
    next =>
      obtain ⟨tb, u, is⟩ := reportSteps_shape w f.n (s.outOf w f).ratio (processed w f s)
      exact ⟨(s.outOf w f).det.pendLost, by rw [is, shape], fun _ => rfl, List.mem_cons_self⟩
  · rw [detectorFrame_away run]
    exact ⟨(s.outOf w f).det.pendLost, by rw [shape], fun _ => rfl, List.mem_cons_self⟩

theorem detectorFrame_chain (w : Det) (f : Conditioned) (s : State) : (detectorFrame w f s).chain = s.chain := by
  obtain ⟨_, _, _, _, _, _, shape⟩ := detectorFrame_shape w f s
  rw [shape]

/-! ## What the other recipients leave of a detector -/

theorem readRecentre_clear {f : Conditioned} (clear : f.recentre = false) (s : State) : readRecentre f s = s := by
  rw [readRecentre, clear]
  rfl

/-- Who neither is the detector nor acts for the chain leaves both as they are. -/
theorem receive_apart {f : Conditioned} {s : State} {w : Det} {r : Recipient} (detector : r ≠ .detector w)
    (last : r ≠ .after) (recentre : r = .recentre → f.recentre = false) :
    (receive f s r).det.get w = s.det.get w ∧ (receive f s r).chain = s.chain := by
  cases r with
  | after => exact absurd rfl last
  | detector v =>
    have other : w ≠ v := fun same => detector (by rw [same])
    obtain ⟨p, det, -, -⟩ := detectorFrame_takes v f s
    exact ⟨by rw [receive, det, pair_get_set_ne _ _ other], detectorFrame_chain v f s⟩
  | recentre =>
    rw [receive, readRecentre_clear (recentre rfl)]
    exact ⟨rfl, rfl⟩
  | stack =>
    obtain ⟨_, _, _, _, _, _, shape⟩ := trialTests_shape f.n s
    rw [receive, shape]
    exact ⟨rfl, rfl⟩
  | assoc =>
    obtain ⟨a, du, shape⟩ := entryTests_shape f.n s
    rw [receive, shape]
    exact ⟨rfl, rfl⟩

theorem foldl_apart {f : Conditioned} {w : Det} (order : List Recipient) :
    (∀ r ∈ order, r ≠ .detector w ∧ r ≠ .after ∧ (r = .recentre → f.recentre = false)) →
    ∀ s : State, (order.foldl (receive f) s).det.get w = s.det.get w ∧ (order.foldl (receive f) s).chain = s.chain := by
  induction order with
  | nil => exact fun _ _ => ⟨rfl, rfl⟩
  | cons r rest ih =>
    intro apart s
    obtain ⟨detector, last, recentre⟩ := apart r List.mem_cons_self
    obtain ⟨det, chain⟩ := receive_apart (s := s) detector last recentre
    obtain ⟨det', chain'⟩ := ih (fun r mem => apart r (List.mem_cons_of_mem _ mem)) (receive f s r)
    exact ⟨det'.trans det, chain'.trans chain⟩

theorem foldl_settings {f : Conditioned} (order : List Recipient) :
    .stack ∉ order → ∀ s : State, (order.foldl (receive f) s).settings = s.settings := by
  induction order with
  | nil => exact fun _ _ => rfl
  | cons r rest ih =>
    intro absent s
    have first : r ≠ .stack := fun same => absent (same ▸ List.mem_cons_self)
    exact (ih (fun mem => absent (List.mem_cons_of_mem _ mem)) _).trans (receive_settings first).1

/-! ## An order of delivery, taken apart -/

/-- The Chain Controller's last act behind the detectors and the recentre flag; behind it the stack and the table alone. -/
structure split (order ahead behind : List Recipient) : Prop where
  whole : order = ahead ++ .after :: behind
  once : order.Nodup
  detector : ∀ w, .detector w ∈ ahead
  recentre : .recentre ∈ ahead

theorem delivers_split {order : List Recipient} (delivery : delivers order) : ∃ ahead behind, split order ahead behind := by
  obtain ⟨perm, ahead, behind, whole, z, h, recentre⟩ := delivery
  refine ⟨ahead, behind, whole, perm.nodup_iff.mpr (by decide), fun w => ?_, recentre⟩
  cases w
  · exact z
  · exact h

namespace split

variable {order ahead behind : List Recipient}

theorem after_ahead (parts : split order ahead behind) {r : Recipient} (mem : r ∈ ahead) : r ≠ .after := by
  rintro rfl
  have once := parts.once
  rw [parts.whole] at once
  exact (List.nodup_append.mp once).2.2 _ mem _ List.mem_cons_self rfl

theorem behind_apart (parts : split order ahead behind) {r : Recipient} (mem : r ∈ behind) :
    (∀ w, r ≠ .detector w) ∧ r ≠ .after ∧ r ≠ .recentre := by
  have once := parts.once
  rw [parts.whole] at once
  obtain ⟨-, later, apart⟩ := List.nodup_append.mp once
  have elsewhere {q : Recipient} (inAhead : q ∈ ahead) : r ≠ q := fun same =>
    apart q inAhead r (List.mem_cons_of_mem _ mem) same.symm
  exact ⟨fun w => elsewhere (parts.detector w), fun same => (List.nodup_cons.mp later).1 (same ▸ mem),
    elsewhere parts.recentre⟩

/-- One recipient ahead of the chain's last act, with the others before and behind it. -/
theorem around (parts : split order ahead behind) {r : Recipient} (mem : r ∈ ahead) : ∃ a b, ahead = a ++ r :: b ∧
    (∀ q ∈ a, q ≠ r ∧ q ≠ .after) ∧ ∀ q ∈ b, q ≠ r ∧ q ≠ .after := by
  obtain ⟨a, b, is⟩ := List.append_of_mem mem
  have once : ahead.Nodup := by
    have once := parts.once
    rw [parts.whole] at once
    exact (List.nodup_append.mp once).1
  have inAhead {q : Recipient} (here : q ∈ a ∨ q ∈ b) : q ∈ ahead := by
    rw [is, List.mem_append, List.mem_cons]
    exact here.imp_right .inr
  rw [is] at once
  obtain ⟨-, later, apart⟩ := List.nodup_append.mp once
  exact ⟨a, b, is, fun q here => ⟨apart q here r List.mem_cons_self, parts.after_ahead (inAhead (.inl here))⟩,
    fun q here => ⟨fun same => (List.nodup_cons.mp later).1 (same ▸ here), parts.after_ahead (inAhead (.inr here))⟩⟩

end split

/-- The stack's act alone changes settings, so at every recipient they are those before or those behind the frame. -/
theorem settings_among {f : Conditioned} {order a b : List Recipient} (whole : order = a ++ b) (once : order.Nodup)
    (s : State) : (a.foldl (receive f) s).settings = s.settings ∨
      (a.foldl (receive f) s).settings = (order.foldl (receive f) s).settings := by
  by_cases stack : .stack ∈ a
  · refine .inr ?_
    rw [whole] at once
    have absent : .stack ∉ b := fun mem => (List.nodup_append.mp once).2.2 _ stack _ mem rfl
    rw [whole, List.foldl_append]
    exact (foldl_settings b absent _).symm
  · exact .inl (foldl_settings a stack s)

theorem active_among {f : Conditioned} {order a b : List Recipient} (whole : order = a ++ b) (once : order.Nodup)
    (s : State) : (a.foldl (receive f) s).active ∈ [s.active, (order.foldl (receive f) s).active] := by
  rw [List.mem_cons, List.mem_singleton]
  exact (settings_among (f := f) whole once s).imp (fun same => by simp only [State.active, same])
    fun same => by simp only [State.active, same]

/-- Behind the chain's last act neither detectors nor chain change. -/
theorem foldl_behind {f : Conditioned} {order ahead behind : List Recipient} (parts : split order ahead behind) (s : State) :
    (order.foldl (receive f) s).det = (afterDetectors f (ahead.foldl (receive f) s)).det ∧
      (order.foldl (receive f) s).chain = (afterDetectors f (ahead.foldl (receive f) s)).chain := by
  have behind' (w : Det) := foldl_apart (f := f) (w := w) behind
    (fun r mem => ⟨(parts.behind_apart mem).1 w, (parts.behind_apart mem).2.1,
      fun same => absurd same (parts.behind_apart mem).2.2⟩) (afterDetectors f (ahead.foldl (receive f) s))
  have whole : order.foldl (receive f) s = behind.foldl (receive f) (afterDetectors f (ahead.foldl (receive f) s)) := by
    rw [parts.whole, List.foldl_append, List.foldl_cons]
    rfl
  rw [whole]
  refine ⟨?_, (behind' .z).2⟩
  have z := (behind' .z).1
  have h := (behind' .h).1
  generalize (behind.foldl (receive f) (afterDetectors f (ahead.foldl (receive f) s))).det = d at z h ⊢
  exact congrArg₂ Pair.mk z h

/-- A frame without the recentre flag, up to the chain's last act: the chain stands, and each detector is what its own
processing of the frame leaves, by the active entry before or behind the trials that end at the frame. -/
theorem foldl_ahead {f : Conditioned} {order ahead behind : List Recipient} (parts : split order ahead behind)
    (clear : f.recentre = false) (s : State) :
    (ahead.foldl (receive f) s).chain = s.chain ∧ ∀ w : Det, ∃ prof ∈ [s.active, (order.foldl (receive f) s).active],
      let out := detStep w prof s.chain.pauseEnd.isSome f (s.det.get w)
      ∃ p, (ahead.foldl (receive f) s).det.get w = { out.det with pendLost := p } ∧
        (s.chain.st ≠ .run ∨ out.crossed = false → p = out.det.pendLost) ∧ p ∈ lostAfter out.det.pendLost := by
  have around (w : Det) := parts.around (parts.detector w)
  have acts (w : Det) {a b : List Recipient} (is : ahead = a ++ .detector w :: b)
      (before : ∀ q ∈ a, q ≠ .detector w ∧ q ≠ .after) (behind : ∀ q ∈ b, q ≠ .detector w ∧ q ≠ .after) :
      (a.foldl (receive f) s).det.get w = s.det.get w ∧ (a.foldl (receive f) s).chain = s.chain ∧
      (ahead.foldl (receive f) s).det.get w = (detectorFrame w f (a.foldl (receive f) s)).det.get w ∧
      (ahead.foldl (receive f) s).chain = s.chain := by
    obtain ⟨det, chain⟩ := foldl_apart a (fun q mem => ⟨(before q mem).1, (before q mem).2, fun _ => clear⟩) s
    obtain ⟨det', chain'⟩ := foldl_apart b (fun q mem => ⟨(behind q mem).1, (behind q mem).2, fun _ => clear⟩)
      (detectorFrame w f (a.foldl (receive f) s))
    have whole : ahead.foldl (receive f) s = b.foldl (receive f) (detectorFrame w f (a.foldl (receive f) s)) := by
      rw [is, List.foldl_append, List.foldl_cons]
      rfl
    rw [whole]
    exact ⟨det, chain, det', chain'.trans ((detectorFrame_chain w f _).trans chain)⟩
  refine ⟨?_, fun w => ?_⟩
  · obtain ⟨a, b, is, before, behind⟩ := around .z
    exact (acts .z is before behind).2.2.2
  · obtain ⟨a, b, is, before, behind'⟩ := around w
    obtain ⟨det, chain, det', -⟩ := acts w is before behind'
    refine ⟨(a.foldl (receive f) s).active, active_among (b := .detector w :: b ++ .after :: behind) ?_ parts.once s, ?_⟩
    · rw [parts.whole, is, List.append_assoc]
    · intro out
      have same : (a.foldl (receive f) s).outOf w f = out := by
        rw [State.outOf, State.detector, det, chain]
      obtain ⟨p, took, quiet, mem⟩ := detectorFrame_takes w f (a.foldl (receive f) s)
      rw [same] at took quiet mem
      rw [chain] at quiet
      exact ⟨p, by rw [det', took, pair_get_set], quiet, mem⟩

end Sys2Proof.Proofs
end

section
/-! PROOFS. A sample frame in sequence (1.1 to 1.3, 2.2, 2.5, 3.4). -/

namespace Sys2Proof.Proofs

open Sys2Proof.Machine Sys2Proof.Laws

/-! ## What the chain's last act leaves of a detector (R33, R57, R58) -/

theorem afterDetectors_away {f : Conditioned} {s : State} (away : s.chain.st = .hold ∨ s.chain.st = .resync) :
    afterDetectors f s = s := by
  rcases away with hold | resync
  · simp only [afterDetectors, hold]
  · simp only [afterDetectors, resync]

/-- The detectors behind a RUN frame: at blanking's end each BLANKED one makes its entry test. -/
theorem afterDetectors_run_det {f : Conditioned} {s : State} (run : s.chain.st = .run) (w : Det) :
    (afterDetectors f s).det.get w =
      if s.chain.blankEnd = some f.n ∧ (s.det.get w).st = .blanked then entryTested (s.active.det.get w) (s.det.get w)
      else s.det.get w := by
  rw [afterDetectors_run run, afterRunFrame_eq]
  by_cases ends : s.chain.blankEnd = some f.n
  · rw [if_pos ends, endBlanking_eq]
    cases w
    · exact if_congr (by simp only [ends, true_and]; rfl) rfl rfl
    · exact if_congr (by simp only [ends, true_and]; rfl) rfl rfl
  · rw [if_neg ends]
    exact (if_neg (fun both => ends both.1)).symm

theorem afterDetectors_run_chain {f : Conditioned} {s : State} (run : s.chain.st = .run) :
    (afterDetectors f s).chain.st = .run ∧
      (afterDetectors f s).chain.blankEnd = if s.chain.blankEnd = some f.n then none else s.chain.blankEnd := by
  rw [afterDetectors_run run, afterRunFrame_eq]
  dsimp only
  split
  · rw [endBlanking_eq]
    dsimp only
    split <;> exact ⟨run, rfl⟩
  · dsimp only
    split <;> exact ⟨run, rfl⟩

/-- A counted block sets the averages, and completes warm-up by the entry tests once W blocks are counted (R33). -/
theorem warmupBlock_det (n : Sample) (s : State) (w : Det) :
    let mean := { s.det.get w with lta := 256 * (s.det.get w).learn / (s.chain.k + 1) }
    (warmupBlock n s).det.get w = if s.active.warm ≤ s.chain.k + 1 then entryTested (s.active.det.get w) mean else mean := by
  intro mean
  have averaged : (countBlock s).det.get w = mean := by
    cases w <;> rfl
  have counted := completionTest_due (s := countBlock s) n rfl
  rw [warmupBlock, counted, apply_ite State.det, apply_ite (Pair.get · w)]
  refine if_congr Iff.rfl ?_ averaged
  rw [raise_det, ← averaged]
  cases w <;> rfl

theorem afterDetectors_warm_det {f : Conditioned} {s : State} (warm : s.chain.st = .warmup) (w : Det) :
    let mean := { s.det.get w with lta := 256 * (s.det.get w).learn / (s.chain.k + 1) }
    (s.chain.pauseEnd = some f.n → (afterDetectors f s).det.get w = { s.det.get w with learn := 0 }) ∧
    (∀ e, s.chain.pauseEnd = some e → e ≠ f.n → (afterDetectors f s).det.get w = s.det.get w) ∧
    (s.chain.pauseEnd = none →
      (f.n.toNat % 2 ^ s.active.blk ≠ 2 ^ s.active.blk - 1 → (afterDetectors f s).det.get w = s.det.get w) ∧
      (f.n.toNat % 2 ^ s.active.blk = 2 ^ s.active.blk - 1 → (afterDetectors f s).det.get w =
        if s.active.warm ≤ s.chain.k + 1 then entryTested (s.active.det.get w) mean else mean)) := by
  intro mean
  have warm' : afterDetectors f s = afterWarmupFrame f s := receive_after_warm warm f
  rw [warm']
  refine ⟨fun ends => ?_, fun e pause other => ?_, fun clear => ⟨fun inside => ?_, fun ends => ?_⟩⟩
  · rw [afterWarmupFrame_paused (ends ▸ rfl), if_pos ends]
    cases w <;> rfl
  · rw [afterWarmupFrame_paused (pause ▸ rfl), if_neg (by rw [pause, Option.some_inj]; exact other)]
  · rw [afterWarmupFrame_counts clear, if_neg inside]
  · rw [afterWarmupFrame_counts clear, if_pos ends]
    exact warmupBlock_det f.n s w

/-! ## The frame in sequence -/

/-- State s as a frame of arrival tick `now` is accepted. -/
def arriving (now : Nat) (f : RawFrame) (s : State) : State :=
  { s with
    clock := now
    intake := { s.intake with lastRaw := some f, expected := some (f.seq + 1), silence := some now }
    time := { s.time with lastFrame := some (f.seq, now) } }

theorem goodFrame_next {s : State} {f : RawFrame} {now : Nat} (up : s.intake.link = .up)
    (next : s.intake.expected = some f.seq) :
    goodFrame now f { s with clock := now } = conditionFrame f false (arriving now f s) := by
  rw [goodFrame_up (s := { s with clock := now }) up next, classify, distance_self]
  rfl

/-- A crossing leaves its detector TRIGGERED. -/
theorem detStep_crossed {w : Det} {prof : Profile} {paused : Bool} {f : Conditioned} {d : Detector}
    (crossed : (detStep w prof paused f d).crossed = true) : (detStep w prof paused f d).det.st = .triggered := by
  obtain ⟨quiet, clear⟩ := detStep_marks.1 crossed
  rw [detStep_quiet quiet clear] at crossed ⊢
  obtain ⟨-, -, -, -, -, -, on, below⟩ := quietStep_det (p := prof.det.get w) (e := cfValue w prof.cf f.d)
    (last := isBlockEnd prof.blk f.n) quiet
  rcases le_or_gt ((prof.det.get w).on * effLta (prof.det.get w)
      (settledQuiet (prof.det.get w) (cfValue w prof.cf f.d) (isBlockEnd prof.blk f.n) d))
    (16 * (settledQuiet (prof.det.get w) (cfValue w prof.cf f.d) (isBlockEnd prof.blk f.n) d).sta) with met | short
  · exact (on met).2.1
  · rw [(below short).1] at crossed
    cases crossed

/-- Saturation to 24 bits in the statement's words. -/
theorem sat24_eq (x : Int) : sat24 x = max (-8388608) (min 8388607 x) := by
  rw [sat24, min_comm]

/-- One component's output, clip mark and mean, written out (R11 to R15). -/
theorem conditionOne_eq (h : Nat) (f : RawFrame) (pos : LinkPos) (inverted : Bool) (g level : Nat) (mean : Option Int) :
    let sat (x : Int) : Int := max (-8388608) (min 8388607 x)
    let sample : Int := match pos with | .a => f.a | .b => f.b | .c => f.c
    let ranged : Bool :=
      match pos with | .a => f.status.getLsbD 1 | .b => f.status.getLsbD 2 | .c => f.status.getLsbD 3
    let x : Int := sat ((if inverted then sat (-sample) else sample) * g / 32768)
    conditionOne h f pos inverted g level mean =
      (match mean with | none => 0 | some m => sat (x - m), decide (level ≤ sample.natAbs) || ranged,
        match mean with | none => x | some m => m + sat (x - m) / (2 ^ h : Nat)) := by
  intro sat sample ranged x
  have saturates : sat24 = sat := funext sat24_eq
  have trims : trimmed g (polarize inverted (f.raw pos)) = x := by
    rw [trimmed, polarize, saturates]
    cases pos <;> rfl
  have raw : f.raw pos = sample := by cases pos <;> rfl
  have over' : f.overRange pos = ranged := by cases pos <;> rfl
  unfold conditionOne
  dsimp only
  rw [trims, raw, over']
  cases mean with
  | none => rfl
  | some m =>
    rw [removeDc, saturates]
    rfl

/-- Bytes behind a whole frame are taken next (R1; log 26). -/
theorem sampleFrame_more {s t : State} {f : RawFrame} {tick : Nat} (on : s.power = true) (empty : s.intake.rx = [])
    (quiet : s.quietUntil tick) (fits : f.in24) (up : s.intake.link = .up) (next : s.intake.expected = some f.seq)
    (is : t = conditionFrame f false (arriving tick f s)) (more : List Byte) :
    exec (.sampleFrame (sampleBytes f ++ more) tick) s = exec (.sampleFrame more tick) t := by
  obtain ⟨link, power⟩ := conditionFrame_link f false (arriving tick f s)
  have time := (conditionFrame_time f false (arriving tick f s)).1
  obtain ⟨_, _, _, _, _, _, _, _, _, _, _, shape⟩ := conditionFrame_handled f false (arriving tick f s)
  have clock : t.clock = tick := by rw [is, shape]; rfl
  rw [← is] at link power time
  have quiet' : t.quietUntil tick := by
    refine ⟨clock.le, ?_, ?_⟩
    · have due : t.silenceDue = some (tick + Config.silenceTicks) := by
        rw [State.silenceDue, link]
        simp only [arriving, up]
      rw [due]
      exact decide_eq_true (Nat.le_add_right tick _)
    · rw [time]
      exact quiet.2.2
  have held : (holding (sampleBytes f ++ more) { s with clock := tick }).intake.rx = sampleBytes f ++ more := rfl
  have whole : goodFrame tick f { holding more s with clock := tick } = { holding more t with clock := tick } := by
    rw [goodFrame_next (s := holding more s) up next, is]
    have arrives : arriving tick f (holding more s) = holding more (arriving tick f s) := rfl
    rw [arrives, conditionFrame_holding, shape]
    rfl
  rw [sampleFrame_quiet on quiet, sampleFrame_quiet (power.trans on) quiet', empty, List.nil_append,
    taken_sample (s := holding (sampleBytes f ++ more) { s with clock := tick }) fits held, link]
  refine congrArg Host.Outcome.next (congrArg (taken tick) (whole.trans ?_))
  rw [holding, link]
  rw [show (arriving tick f s).intake.rx = [] from empty, List.nil_append]

/-- Settles O26: the frame conditioned, then what its recipients leave of the detectors, by the chain's state. -/
theorem inOrderFrameIsConditioned : Obligations.InOrderFrameIsConditioned := by
  refine ⟨fun s bs tick on => ?_, ?_⟩
  · refine timersFirst_of_advances
      (f := fun v => takeBytes (max v.clock tick) bs { v with clock := max v.clock tick }) on fun v on => ?_
    change Host.Outcome.next (if v.power then _ else v) = _
    rw [if_pos on]
    rfl
  intro s f tick on empty quiet fits up next st sat sample ranged trim output moved clip z n e c full ring advanced start
  set t := conditionFrame f false (arriving tick f s) with t_eq
  have frame : conditioned (arriving tick f s) f false = (c, (start 0).dc) := by
    unfold conditioned
    dsimp only
    rw [conditionOne_eq, conditionOne_eq, conditionOne_eq]
    rfl
  have newRing : pushed s.ring c = ring := pushed_eq c s.ring
  have written : slotsWritten c (arriving tick f s) =
      if full = true then (arriving tick f s).mapSlots fun _ x => advanced x else arriving tick f s := by
    change (if full = true then (arriving tick f s).mapSlots fun _ x => advancedIn (pushed s.ring c) x
      else arriving tick f s) = _
    rw [newRing]
    rfl
  have begun (drawn : Nat) : conditionedAt f false drawn (arriving tick f s) = start drawn := by
    have begins : conditionedAt f false drawn (arriving tick f s) = { slotsWritten c (arriving tick f s) with
        newest := some f.seq, dc := (start 0).dc, ring := ring, due := ⟨false, true, true⟩, choices := s.choices + drawn } := by
      rw [conditionedAt, frame, ← newRing]
      rfl
    rw [begins, written]
    cases isFull : full with
    | false => simp only [start, isFull, Bool.false_eq_true, if_false]; rfl
    | true => simp only [start, isFull, if_true]; rfl
  obtain ⟨order, drawn, delivery, le, is⟩ := conditionFrame_eq f false (arriving tick f s)
  obtain ⟨ahead, behind, parts⟩ := delivers_split delivery
  have whole : t = order.foldl (receive c) (start drawn) := by rw [t_eq, is, frame, begun]
  have untouched : (start drawn).det = s.det ∧ (start drawn).chain = s.chain ∧ (start drawn).settings = s.settings := by
    obtain ⟨tb, shape⟩ := conditionedAt_shape f false drawn (arriving tick f s)
    rw [← begun, shape]
    exact ⟨rfl, rfl, rfl⟩
  obtain ⟨det0, chain0, settings0⟩ := untouched
  have active0 : (start drawn).active = s.active := by simp only [State.active, settings0]
  obtain ⟨link, -⟩ := conditionFrame_link f false (arriving tick f s)
  obtain ⟨time, newest⟩ := conditionFrame_time f false (arriving tick f s)
  obtain ⟨_, _, _, _, _, _, _, _, _, _, _, shape⟩ := conditionFrame_handled f false (arriving tick f s)
  refine ⟨t, ?_, newest, ?_, ?_, link, time, ?_, ?_, ?_, ?_, ?_, ?_, ?_, fun clear => ?_,
    sampleFrame_more on empty quiet fits up next t_eq⟩
  · rw [sampleFrame_whole on empty quiet fits, goodFrame_next up next]
  · rw [t_eq, shape, frame]
  · rw [t_eq, shape, frame]
    exact newRing
  · rw [t_eq, shape]; rfl
  · rw [t_eq, shape]; rfl
  · rw [t_eq, shape]; rfl
  · rw [t_eq, shape]; rfl
  · rw [t_eq, shape]; rfl
  · rw [t_eq, shape]; rfl
  · obtain ⟨perm, ahead, behind, split', mem⟩ := delivery
    exact ⟨order, ahead, behind, drawn, perm, split', mem, le, whole⟩
  · set m := ahead.foldl (receive c) (start drawn) with m_eq
    obtain ⟨chain1, took⟩ := foldl_ahead parts clear (start drawn)
    obtain ⟨det2, chain2⟩ := foldl_behind (f := c) parts (start drawn)
    rw [← whole, ← m_eq] at det2 chain2
    rw [← m_eq] at chain1 took
    rw [← whole, det0, chain0, active0] at took
    rw [chain0] at chain1
    have pa : m.active ∈ [s.active, t.active] := by
      have among := active_among (f := c) (b := .after :: behind) parts.whole parts.once (start drawn)
      rwa [← whole, active0] at among
    refine ⟨m.active, pa, fun w => ?_⟩
    obtain ⟨prof, mem, p, det1, quiet', lost⟩ := took w
    refine ⟨prof, mem, ?_⟩
    intro out d x mean
    have x_eq : x = (afterDetectors c m).det.get w := by rw [← det2]
    have stands (away : s.chain.st ≠ .run) : m.det.get w = d := by
      rw [det1, quiet' (.inl away)]
    refine ⟨fun away => ?_, fun run ends blanked => ?_, fun run goes => ?_, fun warm ends => ?_, fun warm e pause other => ?_,
      fun warm none' => ?_⟩
    · have away' : s.chain.st ≠ .run := by rcases away with st | st <;> rw [st] <;> nofun
      rw [x_eq, afterDetectors_away (chain1 ▸ away), stands away']
    · have same : m.det.get w = d := by
        rw [det1, quiet' (.inr ?_)]
        refine Bool.eq_false_iff.mpr fun crossed => ?_
        rw [detStep_crossed crossed] at blanked
        cases blanked
      rw [x_eq, afterDetectors_run_det (chain1 ▸ run), same, chain1, if_pos ⟨ends, blanked⟩]
    · have kept : x = { d with pendLost := p } := by
        rw [x_eq, afterDetectors_run_det (chain1 ▸ run), det1, chain1, if_neg]
        rintro ⟨ends, blanked⟩
        exact goes.elim (fun other => other ends) fun other => other blanked
      rw [kept]
      exact ⟨rfl, fun uncrossed => quiet' (.inr uncrossed), fun _ => lost⟩
    · have away : s.chain.st ≠ .run := by rw [warm]; nofun
      rw [x_eq, (afterDetectors_warm_det (chain1 ▸ warm) w).1 (chain1 ▸ ends), stands away]
    · have away : s.chain.st ≠ .run := by rw [warm]; nofun
      rw [x_eq, (afterDetectors_warm_det (chain1 ▸ warm) w).2.1 e (chain1 ▸ pause) other, stands away]
    · have away : s.chain.st ≠ .run := by rw [warm]; nofun
      obtain ⟨inside, ends⟩ := (afterDetectors_warm_det (f := c) (chain1 ▸ warm) w).2.2 (chain1 ▸ none')
      rw [stands away] at inside ends
      rw [chain1] at ends
      exact ⟨fun h => x_eq.trans (inside h), fun h => x_eq.trans (ends h)⟩

end Sys2Proof.Proofs
end

section
/-! PROOFS. A flagged frame in the hands of its recipients (2.5, 3.4): detectors and chain. -/

namespace Sys2Proof.Proofs

open Sys2Proof.Machine Sys2Proof.Laws

/-! ## A detector that takes a flagged frame (R28, R55, R56) -/

/-- What a flagged frame makes of a detector that follows RUN or WARMUP: BLANKED or WARMING, its averages held. -/
def heldDetector (last : Bool) (d : Detector) : Detector := (blankedDetector d).hold last

/-- A detector that is not OFF holds its averages through a flagged frame. -/
theorem detStep_flagged {w : Det} {prof : Profile} {paused : Bool} {f : Conditioned} {d : Detector}
    (flag : f.recentre = true) (started : d.st ≠ .off) :
    (detStep w prof paused f d).det = heldDetector (isBlockEnd prof.blk f.n) d := by
  cases st : d.st with
  | off => exact absurd st started
  | blanked => rw [detStep_blanked st, heldDetector, blankedDetector, st]; rfl
  | warming =>
    rw [detStep_warming st, flag, Bool.or_true, if_pos rfl, heldDetector, blankedDetector, st]
    rfl
  | quiet => rw [detStep_quiet_flagged st flag, heldDetector, blankedDetector, st]; rfl
  | triggered => rw [detStep_triggered_flagged st flag, heldDetector, blankedDetector, st]; rfl

theorem blankedDetector_st (d : Detector) :
    (blankedDetector d).st = if d.st = .quiet ∨ d.st = .triggered then .blanked else d.st := by
  unfold blankedDetector
  cases st : d.st <;> simp [st]

theorem blankedDetector_blanked {d : Detector} (st : d.st ≠ .quiet ∧ d.st ≠ .triggered) : blankedDetector d = d := by
  unfold blankedDetector
  split
  next quiet => exact absurd quiet st.1
  next triggered => exact absurd triggered st.2
  next => rfl

/-- Blanking finds a detector that holds already as it is. -/
theorem blankedDetector_held (last : Bool) (d : Detector) : blankedDetector (heldDetector last d) = heldDetector last d := by
  refine blankedDetector_blanked ?_
  rw [heldDetector, hold_st, blankedDetector_st]
  split
  next => exact ⟨nofun, nofun⟩
  next other => exact not_or.mp other

theorem heldDetector_blanked (last : Bool) (d : Detector) :
    heldDetector last (blankedDetector d) = heldDetector last d := by
  have twice : blankedDetector (blankedDetector d) = blankedDetector d := by
    refine blankedDetector_blanked ?_
    rw [blankedDetector_st]
    split
    next => exact ⟨nofun, nofun⟩
    next other => exact not_or.mp other
  rw [heldDetector, twice, heldDetector]

theorem heldDetector_fields (last : Bool) (d : Detector) :
    (heldDetector last d).sta = d.sta ∧ (heldDetector last d).lta = d.lta ∧
    (heldDetector last d).blkSum = (if last then 0 else d.blkSum) ∧
    (heldDetector last d).blkCount = (if last then 0 else d.blkCount) ∧
    (heldDetector last d).st = if d.st = .quiet ∨ d.st = .triggered then .blanked else d.st := by
  rw [heldDetector, hold_eq]
  refine ⟨?_, ?_, ?_, ?_, blankedDetector_st d⟩
  all_goals
    unfold blankedDetector
    split <;> rfl

/-- A flagged frame is no crossing, so a detector's act leaves it what it holds. -/
theorem detectorFrame_flagged {f : Conditioned} {s : State} {w : Det} (flag : f.recentre = true)
    (started : (s.det.get w).st ≠ .off) :
    (detectorFrame w f s).det.get w = heldDetector (isBlockEnd s.active.blk f.n) (s.det.get w) := by
  obtain ⟨p, det, quiet, -⟩ := detectorFrame_takes w f s
  have uncrossed : (s.outOf w f).crossed = false := by
    refine Bool.eq_false_iff.mpr fun crossed => ?_
    have clear := (detStep_marks.1 crossed).2
    rw [flag] at clear
    cases clear
  have held : (s.outOf w f).det = heldDetector (isBlockEnd s.active.blk f.n) (s.det.get w) := detStep_flagged flag started
  rw [det, pair_get_set, quiet (.inr uncrossed), ← held]

/-! ## The recentre flag among the recipients -/

/-- The end sample that a tail makes of the one in force (R54, R56, R58). -/
def endWith (cur : Option Sample) (n : Sample) (tail : Nat) : Sample :=
  match cur with
  | none => after n tail
  | some c => later c (after n tail)

/-- What the flag leaves of a detector and of the chain in RUN. -/
theorem readRecentre_run {f : Conditioned} {s : State} (flag : f.recentre = true) (run : s.chain.st = .run) :
    (readRecentre f s).chain = { s.chain with blankEnd := some (endWith s.chain.blankEnd f.n s.active.tail) } ∧
    ∀ w, (readRecentre f s).det.get w =
      if s.chain.blankEnd = none then blankedDetector (s.det.get w) else s.det.get w := by
  have reads : readRecentre f s = blankTo (after f.n s.active.tail) s := by
    rw [readRecentre, flag, if_pos rfl, run]
  rw [reads]
  cases blanked : s.chain.blankEnd with
  | none =>
    rw [blankTo_new blanked]
    refine ⟨rfl, fun w => ?_⟩
    rw [if_pos rfl]
    cases w <;> rfl
  | some cur =>
    rw [blankTo_extended blanked]
    exact ⟨rfl, fun w => (if_neg nofun).symm⟩

theorem readRecentre_warm {f : Conditioned} {s : State} (flag : f.recentre = true) (warm : s.chain.st = .warmup) :
    readRecentre f s = { s with chain := { s.chain with pauseEnd := some (endWith s.chain.pauseEnd f.n s.active.tail) } } := by
  rw [readRecentre, flag, if_pos rfl, warm]
  cases paused : s.chain.pauseEnd with
  | none => simp only [pauseTo, paused, endWith]
  | some cur => simp only [pauseTo, paused, endWith]

theorem readRecentre_away {f : Conditioned} {s : State} (away : s.chain.st = .hold ∨ s.chain.st = .resync) :
    readRecentre f s = s := by
  unfold readRecentre
  rcases away with st | st <;> simp only [st, ite_self]

/-- One detector's part of the recipients ahead of the chain's last act, when the flag leaves it g of itself: it has taken
the frame before the flag or behind it. -/
theorem foldl_flagged {f : Conditioned} {order ahead behind : List Recipient} (parts : split order ahead behind)
    (s : State) : ∃ a b, ahead = a ++ .recentre :: b ∧
    (a.foldl (receive f) s).chain = s.chain ∧
    (ahead.foldl (receive f) s).chain = (readRecentre f (a.foldl (receive f) s)).chain ∧
    ∀ w, (∃ v : State, v.active ∈ [s.active, (order.foldl (receive f) s).active] ∧ v.det.get w = s.det.get w ∧
        v.chain = s.chain ∧
        (a.foldl (receive f) s).det.get w = (detectorFrame w f v).det.get w ∧
        (ahead.foldl (receive f) s).det.get w = (readRecentre f (a.foldl (receive f) s)).det.get w) ∨
      (∃ v : State, v.active ∈ [s.active, (order.foldl (receive f) s).active] ∧
        (a.foldl (receive f) s).det.get w = s.det.get w ∧
        v.det.get w = (readRecentre f (a.foldl (receive f) s)).det.get w ∧
        (ahead.foldl (receive f) s).det.get w = (detectorFrame w f v).det.get w) := by
  obtain ⟨a, b, is, inA, inB⟩ := parts.around parts.recentre
  have apart {w : Det} {l : List Recipient} (sub : ∀ q ∈ l, (q ∈ a ∨ q ∈ b) ∧ q ≠ .detector w) (v : State) :
      (l.foldl (receive f) v).det.get w = v.det.get w ∧ (l.foldl (receive f) v).chain = v.chain := by
    refine foldl_apart l (fun q mem => ⟨(sub q mem).2, ?_, fun same => ?_⟩) v
    · exact (sub q mem).1.elim (fun h => (inA q h).2) fun h => (inB q h).2
    · exact absurd same ((sub q mem).1.elim (fun h => (inA q h).1) fun h => (inB q h).1)
  have chained {l : List Recipient} (sub : ∀ q ∈ l, q ∈ a ∨ q ∈ b) : ∀ v : State,
      (l.foldl (receive f) v).chain = v.chain := by
    induction l with
    | nil => exact fun _ => rfl
    | cons q rest ih =>
      intro v
      refine (ih (fun r mem => sub r (List.mem_cons_of_mem _ mem)) (receive f v q)).trans ?_
      have here := sub q List.mem_cons_self
      have notAfter := here.elim (fun h => (inA q h).2) fun h => (inB q h).2
      have notFlag := here.elim (fun h => (inA q h).1) fun h => (inB q h).1
      by_cases detector : ∃ w, q = .detector w
      · obtain ⟨w, rfl⟩ := detector
        exact detectorFrame_chain w f v
      · exact (receive_apart (w := .z) (fun same => detector ⟨_, same⟩) notAfter (fun same => absurd same notFlag)).2
  have whole : ahead.foldl (receive f) s = b.foldl (receive f) (readRecentre f (a.foldl (receive f) s)) := by
    rw [is, List.foldl_append, List.foldl_cons]
    rfl
  have once : ahead.Nodup := by
    have once := parts.once
    rw [parts.whole] at once
    exact (List.nodup_append.mp once).1
  refine ⟨a, b, is, chained (fun q => .inl) s, by rw [whole]; exact chained (fun q => .inr) _, fun w => ?_⟩
  obtain ⟨p, q, at', before, behind'⟩ := parts.around (parts.detector w)
  have mem : .detector w ∈ a ∨ .detector w ∈ b := by
    have mem := parts.detector w
    rw [is, List.mem_append, List.mem_cons] at mem
    exact mem.imp_right fun h => h.resolve_left nofun
  rcases mem with early | late
  · left
    obtain ⟨a1, a2, isA⟩ := List.append_of_mem early
    rw [is, isA] at once
    have onceA := (List.nodup_append.mp once).1
    obtain ⟨-, later1, apart1⟩ := List.nodup_append.mp onceA
    have first (v : State) := apart (w := w) (l := a1) (fun q mem => ⟨.inl (by rw [isA]; exact List.mem_append_left _ mem),
      apart1 q mem _ List.mem_cons_self⟩) v
    have second (v : State) := apart (w := w) (l := a2) (fun q mem =>
      ⟨.inl (by rw [isA]; exact List.mem_append_right _ (List.mem_cons_of_mem _ mem)),
        fun same => (List.nodup_cons.mp later1).1 (same ▸ mem)⟩) v
    have third (v : State) := apart (w := w) (l := b) (fun q mem => ⟨.inr mem, fun same =>
      (List.nodup_append.mp once).2.2 _ (List.mem_append_right _ List.mem_cons_self) q (List.mem_cons_of_mem _ mem) same.symm⟩) v
    refine ⟨a1.foldl (receive f) s, active_among (b := .detector w :: a2 ++ .recentre :: b ++ .after :: behind) ?_ parts.once s,
      (first s).1, (first s).2, ?_, ?_⟩
    · rw [parts.whole, is, isA]
      simp only [List.append_assoc, List.cons_append]
    · rw [isA, List.foldl_append, List.foldl_cons]
      exact (second _).1
    · rw [whole]
      exact (third _).1
  · right
    obtain ⟨b1, b2, isB⟩ := List.append_of_mem late
    rw [is, isB] at once
    obtain ⟨-, onceB, apartB⟩ := List.nodup_append.mp once
    obtain ⟨-, later1, apart1⟩ := List.nodup_append.mp (List.nodup_cons.mp onceB).2
    have first (v : State) := apart (w := w) (l := a) (fun q mem => ⟨.inl mem, fun same =>
      apartB q mem _ (List.mem_cons_of_mem _ (List.mem_append_right _ List.mem_cons_self)) same⟩) v
    have second (v : State) := apart (w := w) (l := b1) (fun q mem => ⟨.inr (by rw [isB]; exact List.mem_append_left _ mem),
      apart1 q mem _ List.mem_cons_self⟩) v
    have third (v : State) := apart (w := w) (l := b2) (fun q mem =>
      ⟨.inr (by rw [isB]; exact List.mem_append_right _ (List.mem_cons_of_mem _ mem)),
        fun same => (List.nodup_cons.mp later1).1 (same ▸ mem)⟩) v
    have upTo : (a ++ .recentre :: b1).foldl (receive f) s =
        b1.foldl (receive f) (readRecentre f (a.foldl (receive f) s)) := by
      rw [List.foldl_append, List.foldl_cons]
      rfl
    refine ⟨(a ++ .recentre :: b1).foldl (receive f) s,
      active_among (b := .detector w :: b2 ++ .after :: behind) ?_ parts.once s, (first s).1, ?_, ?_⟩
    · rw [parts.whole, is, isB]
      simp only [List.append_assoc, List.cons_append]
    · rw [upTo]
      exact (second _).1
    · rw [whole, isB, List.foldl_append, List.foldl_cons, upTo]
      exact (third _).1

end Sys2Proof.Proofs
end

section
/-! PROOFS. A flagged frame and the slots (3.4, 4.3), and the frame as a whole. -/

namespace Sys2Proof.Proofs

open Sys2Proof.Machine Sys2Proof.Laws

/-! ## What a frame's recipients other than the flag make of the slots -/

/-- An OPEN slot stays OPEN with its close sample, or has closed at n, its own; one that has closed stays as it is. -/
def heldSlot (n : Sample) (x y : Slot) : Prop :=
  (x.st = .opened → y.st = .opened ∧ y.close = x.close ∨ (y.st = .closed ∨ y.st = .refining) ∧ y.close = n ∧ x.close = n) ∧
  (x.st = .closed ∨ x.st = .refining → y = x)

theorem heldSlot_refl (n : Sample) (x : Slot) : heldSlot n x x := ⟨fun isOpen => .inl ⟨isOpen, rfl⟩, fun _ => rfl⟩

theorem heldSlot_trans {n : Sample} {x y z : Slot} (h : heldSlot n x y) (h' : heldSlot n y z) : heldSlot n x z := by
  refine ⟨fun isOpen => ?_, fun closed => ?_⟩
  · rcases h.1 isOpen with ⟨isOpen', close⟩ | ⟨closed, now, own⟩
    · rcases h'.1 isOpen' with ⟨isOpen'', close'⟩ | ⟨closed, now, own⟩
      · exact .inl ⟨isOpen'', close'.trans close⟩
      · exact .inr ⟨closed, now, close.symm.trans own⟩
    · rw [h'.2 closed]
      exact .inr ⟨closed, now, own⟩
  · have same := h.2 closed
    exact (h'.2 (same ▸ closed)).trans same

/-- An idle Unit has nothing waiting (R80). -/
abbrev idleEmpty (s : State) : Prop := s.unit = none → s.table.queue = []

/-- The slots of s held at t, an idle Unit still having nothing waiting. -/
structure slotsHeldAt (n : Sample) (s t : State) : Prop where
  idle : idleEmpty t
  slots : ∀ i, heldSlot n (s.slot i) (t.slot i)

theorem slotsHeldAt_refl {n : Sample} {s : State} (idle : idleEmpty s) : slotsHeldAt n s s :=
  ⟨idle, fun _ => heldSlot_refl n _⟩

theorem slotsHeldAt_trans {n : Sample} {s t u : State} (h : slotsHeldAt n s t) (h' : slotsHeldAt n t u) :
    slotsHeldAt n s u := ⟨h'.idle, fun i => heldSlot_trans (h.slots i) (h'.slots i)⟩

theorem slotsHeldAt_of_same {n : Sample} {s t : State} (idle : idleEmpty s) (table : t.table = s.table)
    (unit : t.unit = s.unit) : slotsHeldAt n s t := by
  refine ⟨by rw [idleEmpty, unit, table]; exact idle, fun i => ?_⟩
  have same : t.slot i = s.slot i := by simp only [State.slot, table]
  rw [same]
  exact heldSlot_refl n _

theorem slotsHeldAt_of_admitted {n : Sample} {s t : State} (idle : idleEmpty s) (h : admitted s t) : slotsHeldAt n s t := by
  have passing := passesAll_of_admitted h
  refine ⟨by rw [idleEmpty, passing.unit, passing.queue]; exact idle, fun i => ?_⟩
  rcases h.2 i with same | ⟨isDone, -⟩
  · rw [same]
    exact heldSlot_refl n _
  · exact ⟨fun isOpen => absurd (isOpen.symm.trans isDone) nofun,
      fun closed => closed.elim (fun st => absurd (st.symm.trans isDone) nofun) fun st => absurd (st.symm.trans isDone) nofun⟩

/-- Rewriting OPEN slots alone, in neither state nor close sample. -/
theorem mapSlots_held {n : Sample} {s : State} (idle : idleEmpty s) {g : Fin 8 → Slot → Slot}
    (kept : ∀ i x, (g i x).st = x.st ∧ (g i x).close = x.close ∧ (x.st ≠ .opened → g i x = x)) :
    slotsHeldAt n s (s.mapSlots g) := by
  refine ⟨idle, fun i => ?_⟩
  rw [mapSlots_slot]
  obtain ⟨st, close, others⟩ := kept i (s.slot i)
  refine ⟨fun isOpen => .inl ⟨st.trans isOpen, close⟩, fun closed => others ?_⟩
  exact fun isOpen => closed.elim (fun st => absurd (isOpen.symm.trans st) nofun) fun st => absurd (isOpen.symm.trans st) nofun

theorem closes_idle {s t : State} {order : List (Fin 8)} {close : Fin 8 → Sample} {f : Fin 8 → Flags}
    (closed : closes s t order close f) : idleEmpty t := by
  obtain ⟨-, -, -, -, taken⟩ := closed
  split at taken
  next u unit =>
    intro none'
    rw [taken.1, unit] at none'
    cases none'
  next unit =>
    intro none'
    rw [taken.1, Option.map_eq_none_iff, List.head?_eq_none_iff] at none'
    rw [taken.2.1, none', List.tail_nil]

theorem autoClose_held (w : Det) (n : Sample) {s : State} (idle : idleEmpty s) : slotsHeldAt n s (autoClose w n s) := by
  have closed := autoClose_closes w n s idle
  refine ⟨closes_idle closed, fun i => ?_⟩
  by_cases mem : i ∈ byTrigger s (eight.filter fun i => s.owns w i && (s.slot i).close == n)
  · have due := (List.mem_filter.mp ((byTrigger_perm s _).mem_iff.mp mem)).2
    simp only [State.owns, Bool.and_eq_true, beq_iff_eq] at due
    obtain ⟨⟨isOpen, -⟩, own⟩ := due
    have now : ((autoClose w n s).slot i).close = n := by rw [closed.2.2.1 i mem]
    exact ⟨fun _ => .inr ⟨closes_states closed mem, now, own⟩,
      fun st => st.elim (fun st => absurd (isOpen.symm.trans st) nofun) fun st => absurd (isOpen.symm.trans st) nofun⟩
  · rw [closed.2.1 i mem]
    exact heldSlot_refl n _

theorem processed_held (w : Det) (f : Conditioned) {s : State} (idle : idleEmpty s) :
    slotsHeldAt f.n s (processed w f s) := by
  unfold processed
  split
  · have taken : slotsHeldAt f.n s (s.setDet w (s.outOf w f).det) := slotsHeldAt_of_same idle rfl rfl
    have flagged : slotsHeldAt f.n s (flagForced w (s.setDet w (s.outOf w f).det)) := by
      refine slotsHeldAt_trans taken (mapSlots_held taken.idle fun i x => ?_)
      split
      next own =>
        have isOpen : x.st = .opened := by
          simp only [Bool.and_eq_true, beq_iff_eq] at own
          exact own.1
        exact ⟨rfl, rfl, fun other => absurd isOpen other⟩
      next => exact ⟨rfl, rfl, fun _ => rfl⟩
    exact slotsHeldAt_trans flagged (slotsHeldAt_of_admitted flagged.idle (raise_admitted _ _))
  · exact slotsHeldAt_of_same idle rfl rfl

theorem reportSteps_held (w : Det) (n : Sample) (ratio : Nat) {s : State} (idle : idleEmpty s) :
    slotsHeldAt n s (reportSteps w n ratio s) := by
  have raised : slotsHeldAt n s (raisePeaks w ratio s) := by
    refine mapSlots_held idle fun i x => ?_
    split
    next own =>
      have isOpen : x.st = .opened := by
        simp only [Bool.and_eq_true, beq_iff_eq] at own
        exact own.1
      exact ⟨rfl, rfl, fun other => absurd isOpen other⟩
    next => exact ⟨rfl, rfl, fun _ => rfl⟩
  exact slotsHeldAt_trans raised (autoClose_held w n raised.idle)

theorem popExpired_held (n : Sample) (ts : List Trial) : ∀ {s : State}, idleEmpty s →
    slotsHeldAt n s (popExpired n ts s) := by
  induction ts with
  | nil => exact fun idle => slotsHeldAt_refl idle
  | cons t rest ih =>
    intro s idle
    unfold popExpired
    split
    · have popped : slotsHeldAt n s (popTrial t rest s) := slotsHeldAt_of_same idle rfl rfl
      have raised := slotsHeldAt_trans popped (slotsHeldAt_of_admitted popped.idle (raise_admitted (trialNotice t) _))
      exact slotsHeldAt_trans raised (ih raised.idle)
    · exact slotsHeldAt_refl idle

theorem afterRunFrame_table (f : Conditioned) (s : State) :
    (afterRunFrame f s).table = s.table ∧ (afterRunFrame f s).unit = s.unit := by
  rw [afterRunFrame_eq]
  dsimp only
  split
  · exact ⟨rfl, rfl⟩
  · exact ⟨rfl, rfl⟩

/-- In RUN no recipient of a flagged frame but the flag itself does more to a slot than close one that is due. -/
theorem receive_held {f : Conditioned} {s : State} {r : Recipient} (flag : f.recentre = true) (other : r ≠ .recentre)
    (run : s.chain.st = .run) (idle : idleEmpty s) :
    slotsHeldAt f.n s (receive f s r) ∧ (receive f s r).chain.st = .run := by
  cases r with
  | recentre => exact absurd rfl other
  | detector w =>
    have uncrossed : ¬ (s.outOf w f).crossed = true := by
      intro crossed
      have clear := (detStep_marks.1 crossed).2
      rw [flag] at clear
      cases clear
    refine ⟨?_, (congrArg Chain.st (detectorFrame_chain w f s)).trans run⟩
    rw [receive, detectorFrame_run run, if_neg uncrossed]
    have taken := processed_held w f idle
    exact slotsHeldAt_trans taken (reportSteps_held w f.n _ taken.idle)
  | after =>
    refine ⟨?_, (afterDetectors_run_chain run).1⟩
    obtain ⟨table, unit⟩ := afterRunFrame_table f s
    rw [receive, afterDetectors_run run]
    exact slotsHeldAt_of_same idle table unit
  | stack =>
    have chain := (receive_apart (f := f) (s := s) (w := .z) (r := .stack) nofun nofun nofun).2
    refine ⟨?_, (congrArg Chain.st chain).trans run⟩
    rw [receive]
    unfold trialTests
    split
    · have noted : slotsHeldAt f.n s { s with due := { s.due with trials := false } } := slotsHeldAt_of_same idle rfl rfl
      exact slotsHeldAt_trans noted (popExpired_held f.n s.revert noted.idle)
    · exact slotsHeldAt_refl idle
  | assoc =>
    obtain ⟨a, du, shape⟩ := entryTests_shape f.n s
    rw [receive, shape]
    exact ⟨slotsHeldAt_of_same idle rfl rfl, run⟩

theorem foldl_held {f : Conditioned} (flag : f.recentre = true) (l : List Recipient) : .recentre ∉ l →
    ∀ {s : State}, s.chain.st = .run → idleEmpty s →
    slotsHeldAt f.n s (l.foldl (receive f) s) ∧ (l.foldl (receive f) s).chain.st = .run := by
  induction l with
  | nil => exact fun _ _ run idle => ⟨slotsHeldAt_refl idle, run⟩
  | cons r rest ih =>
    intro absent s run idle
    have other : r ≠ .recentre := fun same => absent (same ▸ List.mem_cons_self)
    obtain ⟨held, run'⟩ := receive_held flag other run idle
    obtain ⟨held', run''⟩ := ih (fun mem => absent (List.mem_cons_of_mem _ mem)) run' held.idle
    exact ⟨slotsHeldAt_trans held held', run''⟩

/-- A slot that has closed at n, with BLANKED and TRUNCATED unless n was its own close sample k. -/
def closedBy (n k : Sample) (x : Slot) : Prop :=
  (x.st = .closed ∨ x.st = .refining) ∧ x.close = n ∧ (x.flags.blanked = true ∧ x.flags.truncated = true ∨ k = n)

/-- Blanking that begins closes every slot that is still OPEN (R55). -/
theorem readRecentre_closes {f : Conditioned} {s : State} (flag : f.recentre = true) (run : s.chain.st = .run)
    (unblanked : s.chain.blankEnd = none) (newest : s.newest = some f.n) (idle : idleEmpty s) :
    idleEmpty (readRecentre f s) ∧ (readRecentre f s).chain.st = .run ∧ ∀ i,
      ((s.slot i).st = .opened → closedBy f.n (s.slot i).close ((readRecentre f s).slot i)) ∧
      ((s.slot i).st ≠ .opened → (readRecentre f s).slot i = s.slot i) := by
  have closed := closeAll_closes s { blanked := true, truncated := true } idle
  have reads : readRecentre f s = blankTo (after f.n s.active.tail) s := by
    rw [readRecentre, flag, if_pos rfl, run]
  have mem (i : Fin 8) : i ∈ byTrigger s (s.slotsIn .opened) ↔ (s.slot i).st = .opened := by
    rw [(byTrigger_perm s _).mem_iff, mem_slotsIn]
  rw [reads, blankTo_new unblanked]
  refine ⟨closes_idle (t := closeAll { blanked := true, truncated := true } s) closed, run, fun i => ⟨fun isOpen => ?_, fun other => ?_⟩⟩
  · have was := closed.2.2.1 i ((mem i).mpr isOpen)
    refine ⟨closes_states closed ((mem i).mpr isOpen), ?_, .inl ?_⟩
    · exact (congrArg Slot.close was).trans (by rw [newest]; rfl)
    · have flags := congrArg Slot.flags was
      refine ⟨(congrArg Flags.blanked flags).trans ?_, (congrArg Flags.truncated flags).trans ?_⟩
      · simp [Flags.union]
      · simp [Flags.union]
  · exact closed.2.1 i (mt (mem i).mp other)

/-- A flagged frame that starts blanking leaves every slot that was OPEN closed at it. -/
theorem flagged_closes {f : Conditioned} {order ahead behind : List Recipient} (parts : split order ahead behind)
    {s : State} (flag : f.recentre = true) (run : s.chain.st = .run) (unblanked : s.chain.blankEnd = none)
    (newest : s.newest = some f.n) (idle : idleEmpty s) {i : Fin 8} (isOpen : (s.slot i).st = .opened) :
    closedBy f.n (s.slot i).close ((order.foldl (receive f) s).slot i) := by
  obtain ⟨a, b, is, chain, -, -⟩ := foldl_flagged (f := f) parts s
  have whole : order = a ++ .recentre :: (b ++ .after :: behind) := by
    rw [parts.whole, is, List.append_assoc, List.cons_append]
  have once := parts.once
  rw [whole] at once
  obtain ⟨-, later, apart⟩ := List.nodup_append.mp once
  obtain ⟨before, run1⟩ := foldl_held flag a (fun mem => apart _ mem _ List.mem_cons_self rfl) run idle
  have newest1 : (a.foldl (receive f) s).newest = some f.n := by
    obtain ⟨_, _, _, _, _, _, _, _, _, _, shape⟩ := foldl_handled f a s
    rw [shape]
    exact newest
  obtain ⟨idle2, run2, closing⟩ := readRecentre_closes flag run1 (by rw [chain]; exact unblanked) newest1 before.idle
  obtain ⟨last, -⟩ := foldl_held flag (b ++ .after :: behind) (List.nodup_cons.mp later).1 run2 idle2
  have at' : closedBy f.n (s.slot i).close ((readRecentre f (a.foldl (receive f) s)).slot i) := by
    rcases (before.slots i).1 isOpen with ⟨stillOpen, close⟩ | ⟨closed, now, own⟩
    · exact close ▸ (closing i).1 stillOpen
    · rw [(closing i).2 (fun isOpen => closed.elim (fun st => absurd (isOpen.symm.trans st) nofun)
        fun st => absurd (isOpen.symm.trans st) nofun)]
      exact ⟨closed, now, .inr own⟩
  rw [whole, List.foldl_append, List.foldl_cons]
  exact (last.slots i).2 at'.1 ▸ at'

end Sys2Proof.Proofs
end

section
/-! PROOFS. The recentre flag of a frame in sequence (2.5, 3.4, 4.3). -/

namespace Sys2Proof.Proofs

open Sys2Proof.Machine Sys2Proof.Laws

/-- Advancing a pin changes neither a slot's state nor its close sample. -/
theorem advancedIn_fields (ring : List RingEntry) (x : Slot) :
    (advancedIn ring x).st = x.st ∧ (advancedIn ring x).close = x.close := by
  unfold advancedIn
  split
  · split <;> exact ⟨rfl, rfl⟩
  · exact ⟨rfl, rfl⟩

theorem slotsWritten_slot (c : Conditioned) (s : State) (i : Fin 8) :
    ((slotsWritten c s).slot i).st = (s.slot i).st ∧ ((slotsWritten c s).slot i).close = (s.slot i).close ∧
    (slotsWritten c s).table.queue = s.table.queue ∧ (slotsWritten c s).unit = s.unit := by
  unfold slotsWritten
  split
  · obtain ⟨st, close⟩ := advancedIn_fields (pushed s.ring c) (s.slot i)
    rw [mapSlots_slot]
    exact ⟨st, close, rfl, rfl⟩
  · exact ⟨rfl, rfl, rfl, rfl⟩

/-- A detector's part in RUN up to the chain's last act, wherever the flag stands among the recipients: its averages are
held and, if it follows RUN, it is BLANKED. -/
theorem flagged_run {f : Conditioned} {order ahead behind : List Recipient} (parts : split order ahead behind) {s : State}
    (flag : f.recentre = true) (run : s.chain.st = .run) {last : Bool} (started : ∀ w, (s.det.get w).st ≠ .off)
    (ends : ∀ prof ∈ [s.active, (order.foldl (receive f) s).active], isBlockEnd prof.blk f.n = last) :
    ∃ tail ∈ [s.active.tail, (order.foldl (receive f) s).active.tail],
      (ahead.foldl (receive f) s).chain = { s.chain with blankEnd := some (endWith s.chain.blankEnd f.n tail) } ∧
      ∀ w, (ahead.foldl (receive f) s).det.get w = heldDetector last (s.det.get w) := by
  obtain ⟨a, b, is, chainA, chainAhead, around⟩ := foldl_flagged (f := f) parts s
  obtain ⟨chain, det⟩ := readRecentre_run (s := a.foldl (receive f) s) flag (chainA ▸ run)
  have active : (a.foldl (receive f) s).active ∈ [s.active, (order.foldl (receive f) s).active] := by
    refine active_among (b := .recentre :: (b ++ .after :: behind)) ?_ parts.once s
    rw [parts.whole, is, List.append_assoc, List.cons_append]
  rw [chainA] at chain det
  refine ⟨_, List.mem_map_of_mem (f := Profile.tail) active, chainAhead.trans chain, fun w => ?_⟩
  rcases around w with ⟨v, mem, own, -, first, behind'⟩ | ⟨v, mem, first, own, behind'⟩
  · have held : (a.foldl (receive f) s).det.get w = heldDetector last (s.det.get w) := by
      rw [first, detectorFrame_flagged flag (own ▸ started w), own, ends _ mem]
    rw [behind', det, held, blankedDetector_held, ite_self]
  · have met : v.det.get w = if s.chain.blankEnd = none then blankedDetector (s.det.get w) else s.det.get w := by
      rw [own, det, first]
    have started' : (v.det.get w).st ≠ .off := by
      rw [met]
      split
      · rw [blankedDetector_st]
        split
        · nofun
        · exact started w
      · exact started w
    rw [behind', detectorFrame_flagged flag started', ends _ mem, met, apply_ite (heldDetector last), heldDetector_blanked,
      ite_self]

/-- A detector's part in WARMUP up to the chain's last act. -/
theorem flagged_warm {f : Conditioned} {order ahead behind : List Recipient} (parts : split order ahead behind) {s : State}
    (flag : f.recentre = true) (warm : s.chain.st = .warmup) {last : Bool} (warming : ∀ w, (s.det.get w).st = .warming)
    (ends : ∀ prof ∈ [s.active, (order.foldl (receive f) s).active], isBlockEnd prof.blk f.n = last) :
    ∃ tail ∈ [s.active.tail, (order.foldl (receive f) s).active.tail],
      (ahead.foldl (receive f) s).chain = { s.chain with pauseEnd := some (endWith s.chain.pauseEnd f.n tail) } ∧
      ∀ w, (ahead.foldl (receive f) s).det.get w = (s.det.get w).hold last := by
  obtain ⟨a, b, is, chainA, chainAhead, around⟩ := foldl_flagged (f := f) parts s
  have reads := readRecentre_warm (s := a.foldl (receive f) s) flag (chainA ▸ warm)
  have active : (a.foldl (receive f) s).active ∈ [s.active, (order.foldl (receive f) s).active] := by
    refine active_among (b := .recentre :: (b ++ .after :: behind)) ?_ parts.once s
    rw [parts.whole, is, List.append_assoc, List.cons_append]
  have holds (w : Det) : heldDetector last (s.det.get w) = (s.det.get w).hold last := by
    rw [heldDetector, blankedDetector_blanked (by rw [warming w]; exact ⟨nofun, nofun⟩)]
  have started (w : Det) : (s.det.get w).st ≠ .off := by rw [warming w]; nofun
  refine ⟨_, List.mem_map_of_mem (f := Profile.tail) active, ?_, fun w => ?_⟩
  · rw [chainAhead, reads]
    dsimp only
    rw [chainA]
  · rw [← holds]
    rcases around w with ⟨v, mem, own, -, first, behind'⟩ | ⟨v, mem, first, own, behind'⟩
    · rw [behind', reads]
      dsimp only
      rw [first, detectorFrame_flagged flag (own ▸ started w), own, ends _ mem]
    · have met : v.det.get w = s.det.get w := by
        rw [own, reads]
        exact first
      rw [behind', detectorFrame_flagged flag (met ▸ started w), met, ends _ mem]

/-- Settles O29: the flag among the recipients, then the chain's last act. -/
theorem recentreFlagBlanksOrPauses : Obligations.RecentreFlagBlanksOrPauses := by
  intro s f tick on empty quiet fits up next flag agrees queue live last extended
  set c := (conditioned (arriving tick f s) f false).1 with c_eq
  set t := conditionFrame f false (arriving tick f s) with t_eq
  have extends' (cur : Option Sample) (tail : Nat) : extended cur tail = endWith cur f.seq tail := by
    cases cur <;> rfl
  obtain ⟨order, drawn, delivery, -, is⟩ := conditionFrame_eq f false (arriving tick f s)
  obtain ⟨ahead, behind, parts⟩ := delivers_split delivery
  set u := conditionedAt f false drawn (arriving tick f s) with u_eq
  rw [← t_eq, ← c_eq] at is
  have works : worksAs (arriving tick f s) t := conditionFrame_worksAs f false live
  obtain ⟨tb, shape⟩ := conditionedAt_shape f false drawn (arriving tick f s)
  have chain0 : u.chain = s.chain := by rw [u_eq, shape]; rfl
  have det0 : u.det = s.det := by rw [u_eq, shape]; rfl
  have active0 : u.active = s.active := by rw [u_eq, shape]; rfl
  have newest0 : u.newest = some c.n := by rw [u_eq, shape]; rfl
  have ends : ∀ prof ∈ [u.active, (order.foldl (receive c) u).active], isBlockEnd prof.blk c.n = decide last := by
    intro prof mem
    have blk : prof.blk = s.active.blk := by
      rw [← is, active0, List.mem_cons, List.mem_singleton] at mem
      rcases mem with rfl | rfl
      · rfl
      · exact works.blk
    rw [blk]
    exact Bool.eq_iff_iff.mpr ((isBlockEnd_iff _ _).trans decide_eq_true_iff.symm)
  obtain ⟨det2, chain2⟩ := foldl_behind (f := c) parts u
  rw [← is] at det2 chain2
  have follows (w : Det) := (follows_iff _ _ _).mp (show (s.det.get w).follows s.chain.st s.chain.blankEnd.isSome by
    cases w
    · exact agrees.1
    · exact agrees.2.1)
  refine ⟨t, ?row, ?_⟩
  case row => rw [sampleFrame_whole on empty quiet fits, goodFrame_next up next]
  cases st : s.chain.st with
  | hold | resync =>
    have away : u.chain.st = .hold ∨ u.chain.st = .resync := by rw [chain0, st]; decide
    obtain ⟨a, b, -, chainA, chainAhead, -⟩ := foldl_flagged (f := c) parts u
    have stands : t.chain = s.chain := by
      rw [chain2, afterDetectors_away (by rw [chainAhead, readRecentre_away (chainA ▸ away), chainA]; exact away),
        chainAhead, readRecentre_away (chainA ▸ away), chainA, chain0]
    exact ⟨by rw [stands, st], fun _ => stands, nofun, nofun, nofun⟩
  | run =>
    have states (w : Det) : (s.det.get w).st = .blanked ∨ (s.det.get w).st = .quiet ∨ (s.det.get w).st = .triggered := by
      have now := (follows w).2.2.2 st
      split at now
      · exact .inl now
      · exact .inr now
    obtain ⟨tail, among, chain1, det1⟩ := flagged_run parts (s := u) flag (chain0 ▸ st) (last := decide last)
      (fun w => by rw [det0]; rcases states w with st | st | st <;> rw [st] <;> nofun) ends
    rw [← is, active0] at among
    rw [chain0] at chain1
    obtain ⟨runs, blankEnd⟩ := afterDetectors_run_chain (f := c) (s := ahead.foldl (receive c) u) (chain1 ▸ st)
    have blanked (w : Det) : (heldDetector (decide last) (s.det.get w)).st = .blanked := by
      rw [(heldDetector_fields _ _).2.2.2.2]
      split
      · rfl
      next other => exact (states w).resolve_right other
    refine ⟨by rw [chain2, runs], nofun, fun _ => ⟨tail, among, ?_⟩, fun _ unblanked i isOpen => ?_, nofun⟩
    · intro e
      have e_eq : e = endWith s.chain.blankEnd c.n tail := extends' _ _
      refine ⟨?_, ?_⟩
      · have each (w : Det) : let d := s.det.get w
            let x := t.det.get w
            x.sta = d.sta ∧ x.lta = d.lta ∧ (last → x.blkSum = 0 ∧ x.blkCount = 0) ∧
            (¬ last → x.blkSum = d.blkSum ∧ x.blkCount = d.blkCount) ∧
            (e ≠ f.seq → x.st = .blanked) ∧ (e = f.seq → x.st = .quiet ∨ x.st = .triggered) := by
          intro d x
          obtain ⟨sta, lta, sum, count, -⟩ := heldDetector_fields (decide last) d
          have x_eq : x = if e = f.seq then
              entryTested ((ahead.foldl (receive c) u).active.det.get w) (heldDetector (decide last) d)
              else heldDetector (decide last) d := by
            have acts := afterDetectors_run_det (f := c) (s := ahead.foldl (receive c) u) (chain1 ▸ st) w
            rw [← det2, chain1, det1, det0, ← e_eq] at acts
            refine acts.trans (if_congr ?_ rfl rfl)
            rw [Option.some_inj]
            exact and_iff_left (blanked w)
          have kept : x.sta = (heldDetector (decide last) d).sta ∧ x.lta = (heldDetector (decide last) d).lta ∧
              x.blkSum = (heldDetector (decide last) d).blkSum ∧ x.blkCount = (heldDetector (decide last) d).blkCount := by
            rw [x_eq]
            split <;> exact ⟨rfl, rfl, rfl, rfl⟩
          obtain ⟨sta', lta', sum', count'⟩ := kept
          refine ⟨sta'.trans sta, lta'.trans lta, fun ends => ⟨?_, ?_⟩, fun inside => ⟨?_, ?_⟩, fun apart => ?_, fun same => ?_⟩
          · rw [sum', sum, if_pos (decide_eq_true ends)]
          · rw [count', count, if_pos (decide_eq_true ends)]
          · rw [sum', sum, decide_eq_false inside]
            rfl
          · rw [count', count, decide_eq_false inside]
            rfl
          · rw [x_eq, if_neg apart]
            exact blanked w
          · rw [x_eq, if_pos same, entryTested]
            dsimp only
            split
            · exact .inr rfl
            · exact .inl rfl
        intro d mem
        rw [List.mem_cons, List.mem_singleton] at mem
        rcases mem with rfl | rfl
        · exact each .z
        · exact each .h
      · rw [chain2, blankEnd, chain1, ← e_eq]
        exact if_congr Option.some_inj rfl rfl
    · obtain ⟨st0, close0, queue0, unit0⟩ := slotsWritten_slot (conditioned (arriving tick f s) f false).1 (arriving tick f s) i
      have idle : idleEmpty u := fun none' => queue0.trans (queue.2.2.2 (unit0.symm.trans none'))
      have closed := flagged_closes parts flag (chain0 ▸ st) (by rw [chain0]; exact unblanked) newest0 idle
        (i := i) (st0.trans isOpen)
      rw [← is] at closed
      exact ⟨closed.1, closed.2.1, closed.2.2.imp_right fun own => close0.symm.trans own⟩
  | warmup =>
    have warming (w : Det) : (s.det.get w).st = .warming := (follows w).2.2.1 st
    obtain ⟨tail, among, chain1, det1⟩ := flagged_warm parts (s := u) flag (chain0 ▸ st) (last := decide last)
      (fun w => det0 ▸ warming w) ends
    rw [← is, active0] at among
    rw [chain0] at chain1
    have acts : afterDetectors c (ahead.foldl (receive c) u) = afterWarmupFrame c (ahead.foldl (receive c) u) :=
      receive_after_warm (chain1 ▸ st) c
    rw [afterWarmupFrame_paused (by rw [chain1]; rfl)] at acts
    set m := ahead.foldl (receive c) u with m_eq
    refine ⟨?_, nofun, nofun, nofun, fun _ => ⟨tail, among, ?_⟩⟩
    · rw [chain2, acts]
      split
      · exact (congrArg Chain.st chain1).trans st
      · exact (congrArg Chain.st chain1).trans st
    · intro e held
      have e_eq : e = endWith s.chain.pauseEnd c.n tail := extends' _ _
      have ends' : afterDetectors c m = if e = f.seq then endPause m else m := by
        refine acts.trans (if_congr ?_ rfl rfl)
        rw [chain1, e_eq]
        exact Option.some_inj
      have holds (d : Detector) : d.hold (decide last) =
          { d with blkSum := if last then 0 else d.blkSum, blkCount := if last then 0 else d.blkCount } := by
        rw [hold_eq]
        by_cases here : last
        · simp only [here, decide_true, if_true]
        · simp only [here, decide_false, Bool.false_eq_true, if_false]
      have det1' (w : Det) : m.det.get w = { s.det.get w with
          blkSum := if last then 0 else (s.det.get w).blkSum, blkCount := if last then 0 else (s.det.get w).blkCount } := by
        rw [det1, det0, holds]
      rw [det2, chain2, ends']
      by_cases here : e = f.seq
      · have held' (w : Det) : { m.det.get w with learn := 0 } = held (s.det.get w) := by
          rw [det1']
          simp only [held, if_pos here]
        rw [if_pos here]
        refine ⟨congrArg₂ Pair.mk (held' .z) (held' .h), ?_⟩
        simp only [endPause, chain1, if_pos here]
      · have held' (w : Det) : m.det.get w = held (s.det.get w) := by
          rw [det1']
          simp only [held, if_neg here]
        rw [if_neg here, chain1]
        refine ⟨congrArg₂ Pair.mk (held' .z) (held' .h), ?_⟩
        simp only [if_neg here]
        rfl

end Sys2Proof.Proofs
end

section
/-! PROOFS. The slots that complete in a given order, through the admissions that follow (4.4, 8.2): each waits in DONE or its
record has been numbered and admitted. -/

namespace Sys2Proof.Proofs

open Sys2Proof.Machine Sys2Proof.Laws

/-! ## The account of the slots that have completed -/

variable {order : List (Fin 8)} {formed : Nat → PickRecord} {date : BitVec 32}

/-- The first m slots of an order have completed, the k-th with the record formed k and the completion order date + k: one
without a number waits in DONE, one with a number is FREE, its record admitted under that number. -/
structure ledger (order : List (Fin 8)) (formed : Nat → PickRecord) (date : BitVec 32) (m : Nat)
    (seqs : Nat → Option (BitVec 32)) (s : State) : Prop where
  waits : ∀ {k : Nat} {i : Fin 8}, k < m → order[k]? = some i → seqs k = none → (s.slot i).st = .done ∧
    (s.slot i).record = some (formed k) ∧ (s.slot i).pin = none ∧ (s.slot i).order = some (date + BitVec.ofNat 32 k)
  gone : ∀ {k : Nat} {i : Fin 8} {q : BitVec 32}, k < m → order[k]? = some i → seqs k = some q → s.slot i = freeSlot ∧
    ∃ (group : Option (BitVec 8)) (role : Role),
      .pick { formed k with seq := some q, group := group, role := role } ∈ s.reports.queue
  later : ∀ {k : Nat}, m ≤ k → seqs k = none

/-- The account reads the slots and the queue. -/
theorem ledger_of_same {m : Nat} {seqs : Nat → Option (BitVec 32)} {s t : State} (slots : ∀ i, t.slot i = s.slot i)
    (queue : t.reports.queue = s.reports.queue) (h : ledger order formed date m seqs s) :
    ledger order formed date m seqs t := by
  refine ⟨fun early at' none' => ?_, fun early at' some' => ?_, h.later⟩
  · rw [slots]
    exact h.waits early at' none'
  · rw [slots, queue]
    exact h.gone early at' some'

/-- Slot i is one of the first m of the order that have no number yet. -/
def unnumbered (order : List (Fin 8)) (m : Nat) (seqs : Nat → Option (BitVec 32)) (i : Fin 8) : Prop :=
  ∃ k < m, order[k]? = some i ∧ seqs k = none

theorem index_unique {order : List (Fin 8)} (once : order.Nodup) {k l : Nat} {i : Fin 8} (hk : order[k]? = some i)
    (hl : order[l]? = some i) : k = l := by
  obtain ⟨bk, ek⟩ := List.getElem?_eq_some_iff.mp hk
  obtain ⟨bl, el⟩ := List.getElem?_eq_some_iff.mp hl
  exact (List.Nodup.getElem_inj_iff once).mp (ek.trans el.symm)

/-- What any admission leaves besides the admitted slot: the other slots, and the queue behind what it held. -/
theorem admitItem_others (w : Waiting) (s : State) :
    (∀ i, w ≠ .pick i → (admitItem w s).slot i = s.slot i) ∧
      ∃ behind, (admitItem w s).reports.queue = s.reports.queue ++ behind := by
  cases w with
  | notice k =>
    cases pending : s.reports.notices[k] with
    | none => exact ⟨fun _ _ => by simp only [admitItem, admitNotice, pending], [], by
        simp only [admitItem, admitNotice, pending, List.append_nil]⟩
    | some p =>
      rw [admitItem, admitNotice_some pending]
      exact ⟨fun _ _ => rfl, _, rfl⟩
  | pick j =>
    cases carried : (s.slot j).record with
    | none =>
      have stands : admitItem (.pick j) s = s := by simp only [admitItem, admitPick, carried]
      rw [stands]
      exact ⟨fun _ _ => rfl, [], (List.append_nil _).symm⟩
    | some p =>
      obtain ⟨role, group, behind, a, g, shape, -⟩ := admitPick_joins carried
      rw [admitItem, shape]
      exact ⟨fun i apart => setSlot_slot_ne s freeSlot (fun same => apart (congrArg Waiting.pick same.symm)), _, rfl⟩

/-- The admission of a slot of the account gives it the next number. -/
theorem ledger_admits {m : Nat} {seqs : Nat → Option (BitVec 32)} {s : State} (once : order.Nodup) {k : Nat} {i : Fin 8}
    (early : k < m) (at' : order[k]? = some i) (none' : seqs k = none) (h : ledger order formed date m seqs s) :
    ledger order formed date m (Function.update seqs k (some s.reports.pickSeq)) (admitItem (.pick i) s) := by
  obtain ⟨others, -⟩ := admitItem_others (.pick i) s
  obtain ⟨role, group, behind, a, g, shape, -⟩ := admitPick_joins (h.waits early at' none').2.1
  have own : (admitItem (.pick i) s).slot i = freeSlot := by
    rw [admitItem, shape]
    exact setSlot_slot_self s i freeSlot
  have queue : (admitItem (.pick i) s).reports.queue = s.reports.queue ++
      .pick { formed k with seq := some s.reports.pickSeq, role := role, group := group } :: behind := by
    rw [admitItem, shape]
  have apart {l : Nat} {j : Fin 8} (atL : order[l]? = some j) (ne : l ≠ k) : Waiting.pick i ≠ .pick j := by
    intro same
    injection same with same
    exact ne (index_unique once atL (same ▸ at'))
  refine ⟨fun {l j} before atL free => ?_, fun {l j q} before atL numbered => ?_, fun {l} beyond => ?_⟩
  · have ne : l ≠ k := by
      rintro rfl
      rw [Function.update_self] at free
      cases free
    rw [Function.update_of_ne ne] at free
    rw [others j (apart atL ne)]
    exact h.waits before atL free
  · by_cases same : l = k
    · subst same
      rw [Function.update_self] at numbered
      cases numbered
      rw [at'] at atL
      cases atL
      exact ⟨own, group, role, by rw [queue]; exact List.mem_append_right _ List.mem_cons_self⟩
    · rw [Function.update_of_ne same] at numbered
      obtain ⟨free, g', r', mem⟩ := h.gone before atL numbered
      rw [others j (apart atL same), queue]
      exact ⟨free, g', r', List.mem_append_left _ mem⟩
  · rw [Function.update_of_ne (by omega : l ≠ k)]
    exact h.later beyond

/-- The admission of anything else leaves the account. -/
theorem ledger_passes {m : Nat} {seqs : Nat → Option (BitVec 32)} {s : State} {w : Waiting}
    (oldest : s.oldestWaiting = some w) (apart : ∀ i, w = .pick i → ¬ unnumbered order m seqs i)
    (h : ledger order formed date m seqs s) : ledger order formed date m seqs (admitItem w s) := by
  obtain ⟨others, behind, queue⟩ := admitItem_others w s
  have kept {k : Nat} {i : Fin 8} (early : k < m) (at' : order[k]? = some i) :
      (admitItem w s).slot i = s.slot i := by
    refine others i fun same => ?_
    cases numbered : seqs k with
    | none => exact apart i same ⟨k, early, at', numbered⟩
    | some q =>
      subst same
      have waits := (oldest_waits oldest).1
      rw [(h.gone early at' numbered).1] at waits
      cases waits
  refine ⟨fun early at' none' => ?_, fun early at' some' => ?_, h.later⟩
  · rw [kept early at']
    exact h.waits early at' none'
  · obtain ⟨free, g, r, mem⟩ := h.gone early at' some'
    rw [kept early at', queue]
    exact ⟨free, g, r, List.mem_append_left _ mem⟩

/-! ## What else is known of the numbers -/

/-- A condition on the numbers given so far that every admission and every completion keeps. -/
structure accounts (order : List (Fin 8)) (formed : Nat → PickRecord) (date : BitVec 32)
    (C : Nat → (Nat → Option (BitVec 32)) → State → Prop) : Prop where
  pick : ∀ {m : Nat} {seqs : Nat → Option (BitVec 32)} {s : State} {k : Nat} {i : Fin 8},
    ledger order formed date m seqs s → s.oldestWaiting = some (.pick i) → s.placesFor (.pick i) ≤ s.places → k < m →
    order[k]? = some i → seqs k = none → C m seqs s →
    C m (Function.update seqs k (some s.reports.pickSeq)) (admitItem (.pick i) s)
  other : ∀ {m : Nat} {seqs : Nat → Option (BitVec 32)} {s : State} {w : Waiting}, ledger order formed date m seqs s →
    s.oldestWaiting = some w → (∀ i, w = .pick i → ¬ unnumbered order m seqs i) → C m seqs s → C m seqs (admitItem w s)
  same : ∀ {m : Nat} {seqs : Nat → Option (BitVec 32)} {s t : State}, (∀ i, t.slot i = s.slot i) →
    t.reports.queue = s.reports.queue → t.reports.pickSeq = s.reports.pickSeq → C m seqs s → C m seqs t
  enter : ∀ {m : Nat} {seqs : Nat → Option (BitVec 32)} {s : State} {i : Fin 8}, order[m]? = some i →
    ledger order formed date m seqs s → C m seqs s → C (m + 1) seqs (entering i (formed m) s)

/-- The account of m completed slots stands, with condition C on its numbers. -/
def accounted (order : List (Fin 8)) (formed : Nat → PickRecord) (date : BitVec 32)
    (C : Nat → (Nat → Option (BitVec 32)) → State → Prop) (m : Nat) (s : State) : Prop :=
  ∃ seqs, ledger order formed date m seqs s ∧ C m seqs s

section
variable {C : Nat → (Nat → Option (BitVec 32)) → State → Prop} {m : Nat}

theorem accounted_of_same (rule : accounts order formed date C) {s t : State} (slots : ∀ i, t.slot i = s.slot i)
    (queue : t.reports.queue = s.reports.queue) (seq : t.reports.pickSeq = s.reports.pickSeq)
    (h : accounted order formed date C m s) : accounted order formed date C m t := by
  obtain ⟨seqs, account, cond⟩ := h
  exact ⟨seqs, ledger_of_same slots queue account, rule.same slots queue seq cond⟩

theorem accounted_admits (rule : accounts order formed date C) (once : order.Nodup) {s : State} {w : Waiting}
    (oldest : s.oldestWaiting = some w) (fits : s.placesFor w ≤ s.places) (h : accounted order formed date C m s) :
    accounted order formed date C m (admitItem w s) := by
  obtain ⟨seqs, account, cond⟩ := h
  by_cases own : ∃ i, w = .pick i ∧ unnumbered order m seqs i
  · obtain ⟨i, rfl, k, early, at', none'⟩ := own
    exact ⟨_, ledger_admits once early at' none' account, rule.pick account oldest fits early at' none' cond⟩
  · have apart (i : Fin 8) (is : w = .pick i) : ¬ unnumbered order m seqs i := fun waits => own ⟨i, is, waits⟩
    exact ⟨seqs, ledger_passes oldest apart account, rule.other account oldest apart cond⟩

theorem accounted_admitAll (rule : accounts order formed date C) (once : order.Nodup) {s : State}
    (h : accounted order formed date C m s) : accounted order formed date C m (admitAll s) :=
  attempts_keeps (fun _ _ oldest fits h => accounted_admits rule once oldest fits h)
    (fun t w h => by
      obtain ⟨b, same⟩ := blockedAttempt_eq w t
      rw [same]
      exact accounted_of_same (s := t) rule (fun _ => rfl) rfl rfl h) 16 s h

theorem post_reports (d : NoticeData) (s : State) : (∀ i, (post d s).slot i = s.slot i) ∧
    (post d s).reports.queue = s.reports.queue ∧ (post d s).reports.pickSeq = s.reports.pickSeq := by
  unfold post
  split
  · exact ⟨fun _ => rfl, rfl, rfl⟩
  · exact ⟨fun _ => rfl, rfl, rfl⟩

theorem accounted_raise (rule : accounts order formed date C) (once : order.Nodup) (d : NoticeData) {s : State}
    (h : accounted order formed date C m s) : accounted order formed date C m (raise d s) := by
  obtain ⟨slots, queue, seq⟩ := post_reports d s
  have posted := accounted_of_same rule slots queue seq h
  unfold raise
  split
  · exact accounted_admitAll rule once posted
  · exact posted

/-- The next slot of the order completes. -/
theorem accounted_enterDone (rule : accounts order formed date C) (once : order.Nodup) {s : State} {i : Fin 8}
    (next : order[m]? = some i) (waiting : s.reports.waiting = date + BitVec.ofNat 32 m)
    (h : accounted order formed date C m s) : accounted order formed date C (m + 1) (enterDone i (formed m) s) := by
  obtain ⟨seqs, account, cond⟩ := h
  rw [enterDone_eq]
  refine accounted_admitAll rule once ⟨seqs, ?_, rule.enter next account cond⟩
  have apart {k : Nat} {j : Fin 8} (before : k < m) (at' : order[k]? = some j) : j ≠ i := by
    rintro rfl
    exact absurd (index_unique once at' next) (by omega)
  refine ⟨fun {k j} early at' none' => ?_, fun {k j q} early at' numbered => ?_, fun beyond => account.later (by omega)⟩
  · rcases Nat.lt_succ_iff_lt_or_eq.mp early with before | rfl
    · rw [entering_slot_ne _ _ (apart before at')]
      exact account.waits before at' none'
    · rw [next] at at'
      cases at'
      rw [entering_slot_self]
      exact ⟨rfl, rfl, rfl, congrArg some waiting⟩
  · have before : k < m := by
      by_contra beyond
      rw [account.later (not_lt.mp beyond)] at numbered
      cases numbered
    rw [entering_slot_ne _ _ (apart before at')]
    exact account.gone before at' numbered

end

/-! ## Three conditions -/

/-- Nothing further. -/
theorem accounts_any : accounts order formed date fun _ _ _ => True :=
  ⟨fun _ _ _ _ _ _ _ => trivial, fun _ _ _ _ => trivial, fun _ _ _ _ => trivial, fun _ _ _ => trivial⟩

/-- With at most one place free from the start, at most one number is given, and the queue is then full. -/
def oneNumber (_ : Nat) (seqs : Nat → Option (BitVec 32)) (s : State) : Prop :=
  31 ≤ s.reports.queue.length ∧
  ((∀ k, seqs k = none) ∨ (32 ≤ s.reports.queue.length ∧ ∃ k q, seqs k = some q ∧ ∀ l, l ≠ k → seqs l = none))

theorem accounts_oneNumber : accounts order formed date oneNumber := by
  refine ⟨fun {m seqs s k i} account oldest fits early at' none' cond => ?_, fun {m seqs s w} _ _ _ cond => ?_,
    fun {m seqs s t} slots queue seq cond => ?_, fun {m seqs s i} _ _ cond => cond⟩
  · obtain ⟨role, group, behind, a, g, shape, -⟩ := admitPick_joins (account.waits early at' none').2.1
    have room := (fits_iff s (.pick i)).mp fits
    have needs := placesFor_pos s (.pick i)
    have grown : 32 ≤ (admitItem (.pick i) s).reports.queue.length := by
      rw [admitItem, shape]
      have := cond.1
      simp only [List.length_append, List.length_cons]
      omega
    have allNone : ∀ k, seqs k = none := cond.2.resolve_right fun full => by
      have := full.1
      omega
    exact ⟨by omega, .inr ⟨grown, k, _, Function.update_self _ _ _, fun l ne => by
      rw [Function.update_of_ne ne]
      exact allNone l⟩⟩
  · obtain ⟨-, behind, queue⟩ := admitItem_others w s
    have longer : s.reports.queue.length ≤ (admitItem w s).reports.queue.length := by
      rw [queue, List.length_append]
      exact Nat.le_add_right _ _
    exact ⟨cond.1.trans longer, cond.2.imp_right fun ⟨full, rest⟩ => ⟨full.trans longer, rest⟩⟩
  · rw [oneNumber, queue]
    exact cond

/-- The slots that have completed are numbered in their order from base on, and nothing else waits in DONE. -/
def inTurn (order : List (Fin 8)) (base : BitVec 32) (m : Nat) (seqs : Nat → Option (BitVec 32)) (s : State) : Prop :=
  (∃ a, (∀ k < a, seqs k = some (base + BitVec.ofNat 32 k)) ∧ (∀ k, a ≤ k → seqs k = none) ∧
    s.reports.pickSeq = base + BitVec.ofNat 32 a) ∧
  ∀ i : Fin 8, (s.slot i).st = .done → ∃ k < m, order[k]? = some i

/-- The part of the waiting items that are slots. -/
def waitingSlots (s : State) : List (BitVec 32 × Waiting) :=
  eight.filterMap fun i => if (s.slot i).st = .done then (s.slot i).order.map fun d => (d, .pick i) else none

theorem scan_from {α : Type} (prefer : α → α → Bool) (l : List α) : ∀ b : Option α,
    (l.foldl (fun best x => match best with
      | none => some x
      | some y => if prefer y x then some x else some y) b) = b ∨
    ∃ x ∈ l, (l.foldl (fun best x => match best with
      | none => some x
      | some y => if prefer y x then some x else some y) b) = some x := by
  induction l with
  | nil => exact fun b => .inl rfl
  | cons x rest ih =>
    intro b
    rw [List.foldl_cons]
    have first : (match b with
        | none => some x
        | some y => if prefer y x then some x else some y) = b ∨
        (match b with
        | none => some x
        | some y => if prefer y x then some x else some y) = some x := by
      cases b with
      | none => exact .inr rfl
      | some y =>
        dsimp only
        split
        · exact .inr rfl
        · exact .inl rfl
    generalize (match b with
        | none => some x
        | some y => if prefer y x then some x else some y) = b' at first ⊢
    rcases ih b' with same | ⟨z, mem, is⟩
    · rcases first with keeps | takes
      · exact .inl (same.trans keeps)
      · exact .inr ⟨x, List.mem_cons_self, same.trans takes⟩
    · exact .inr ⟨z, List.mem_cons_of_mem _ mem, is⟩

/-- An oldest item that is a slot is the oldest of the slots. -/
theorem oldest_pick {s : State} {i : Fin 8} (oldest : s.oldestWaiting = some (.pick i)) : ∃ d,
    scan (fun y x => olderDate y.1 x.1) (waitingSlots s) = some (d, .pick i) := by
  rw [oldestWaiting_eq_scan, Option.map_eq_some_iff] at oldest
  obtain ⟨⟨d, w⟩, found, rfl⟩ := oldest
  refine ⟨d, ?_⟩
  rw [scan, State.waitingItems, List.foldl_append] at found
  rcases scan_from (fun y x : BitVec 32 × Waiting => olderDate y.1 x.1)
    (eight.filterMap fun k => s.reports.notices[k].map fun p => (p.date, Waiting.notice k))
    (scan (fun y x => olderDate y.1 x.1) (waitingSlots s)) with same | ⟨x, mem, is⟩
  · exact same.symm.trans found
  · obtain ⟨k, -, item⟩ := List.mem_filterMap.mp mem
    have both := is.symm.trans found
    cases pending : s.reports.notices[k] with
    | none =>
      rw [pending] at item
      cases item
    | some p =>
      rw [pending] at item
      cases item
      cases both

theorem mem_waitingSlots (s : State) (x : BitVec 32 × Waiting) : x ∈ waitingSlots s ↔
    ∃ i, x.2 = .pick i ∧ (s.slot i).st = .done ∧ (s.slot i).order = some x.1 := by
  rw [waitingSlots, List.mem_filterMap]
  constructor
  · rintro ⟨i, -, item⟩
    split at item
    next done =>
      obtain ⟨d, dated, rfl⟩ := Option.map_eq_some_iff.mp item
      exact ⟨i, rfl, done, dated⟩
    next => cases item
  · rintro ⟨i, is, done, dated⟩
    refine ⟨i, mem_eight i, ?_⟩
    rw [if_pos done, dated, Option.map_some, ← is]

theorem distance_after (n : BitVec 32) {k : Nat} (near : k < 8) : distance n (n + BitVec.ofNat 32 k) = k := by
  have gap : n + BitVec.ofNat 32 k - n = BitVec.ofNat 32 k := by bv_omega
  rw [distance, gap, BitVec.toInt_eq_toNat_cond, BitVec.toNat_ofNat, Nat.mod_eq_of_lt (by omega)]
  rw [if_pos (by omega)]

theorem index_lt {order : List (Fin 8)} (once : order.Nodup) {k : Nat} {i : Fin 8} (at' : order[k]? = some i) : k < 8 := by
  obtain ⟨bound, -⟩ := List.getElem?_eq_some_iff.mp at'
  have short := once.length_le_card
  rw [Fintype.card_fin] at short
  omega

/-- Of slots that wait in the order of their completion the oldest is the first. -/
theorem oldest_first {m : Nat} {seqs : Nat → Option (BitVec 32)} {s : State} (once : order.Nodup)
    (account : ledger order formed date m seqs s) (only : ∀ i : Fin 8, (s.slot i).st = .done → ∃ k < m, order[k]? = some i)
    {i : Fin 8} {k : Nat} (oldest : s.oldestWaiting = some (.pick i)) (at' : order[k]? = some i)
    {l : Nat} {j : Fin 8} (early : l < m) (atL : order[l]? = some j) (none' : seqs l = none) : k ≤ l := by
  have dated {x : BitVec 32 × Waiting} (mem : x ∈ waitingSlots s) : ∃ k j, k < 8 ∧ order[k]? = some j ∧ x.2 = .pick j ∧
      x.1 = date + BitVec.ofNat 32 k := by
    obtain ⟨j, is, done, ordered⟩ := (mem_waitingSlots s x).mp mem
    obtain ⟨k, early, at'⟩ := only j done
    have free : seqs k = none := by
      rw [Option.eq_none_iff_forall_ne_some]
      intro q numbered
      rw [(account.gone early at' numbered).1] at done
      cases done
    have own := (account.waits early at' free).2.2.2
    exact ⟨k, j, index_lt once at', at', is, Option.some_inj.mp (ordered.symm.trans own)⟩
  obtain ⟨d, found⟩ := oldest_pick oldest
  have near {x : BitVec 32 × Waiting} (mem : x ∈ waitingSlots s) : 0 ≤ distance date x.1 := by
    obtain ⟨k, j, bound, -, -, is⟩ := dated mem
    rw [is, distance_after date bound]
    exact Int.natCast_nonneg k
  obtain ⟨mem, best⟩ := scan_greatest (fun x : BitVec 32 × Waiting => -distance date x.1)
    (fun a ma b mb => by
      rw [olderDate, decide_eq_true_iff, distance_of_base (near mb) (near ma)]
      omega) found
  obtain ⟨done, -, -, ordered⟩ := account.waits early atL none'
  have le := best (date + BitVec.ofNat 32 l, .pick j) ((mem_waitingSlots s _).mpr ⟨j, rfl, done, ordered⟩)
  obtain ⟨k', j', bound, atK', is, own⟩ := dated mem
  cases is
  have same := index_unique once at' atK'
  dsimp only at own le
  rw [own, distance_after date bound, distance_after date (index_lt once atL)] at le
  omega

theorem accounts_inTurn (once : order.Nodup) (base : BitVec 32) : accounts order formed date (inTurn order base) := by
  refine ⟨fun {m seqs s k i} account oldest fits early at' none' cond => ?_, fun {m seqs s w} account oldest apart cond => ?_,
    fun {m seqs s t} slots queue seq cond => ?_, fun {m seqs s i} next account cond => ?_⟩
  · obtain ⟨⟨a, before, beyond, seq⟩, only⟩ := cond
    have atLeast : a ≤ k := by
      by_contra lt
      rw [before k (not_le.mp lt)] at none'
      cases none'
    have first : k = a := by
      obtain ⟨bound, -⟩ := List.getElem?_eq_some_iff.mp at'
      have atA : order[a]? = some (order[a]'(by omega)) := List.getElem?_eq_getElem _
      have le := oldest_first once account only oldest at' (l := a) (by omega) atA (beyond a le_rfl)
      omega
    subst first
    obtain ⟨role, group, behind, as, g, shape, -⟩ := admitPick_joins (account.waits early at' none').2.1
    have others := (admitItem_others (.pick i) s).1
    refine ⟨⟨k + 1, fun l le => ?_, fun l le => ?_, ?_⟩, fun j done => ?_⟩
    · rcases Nat.lt_succ_iff_lt_or_eq.mp le with lt | rfl
      · rw [Function.update_of_ne (by omega : l ≠ k)]
        exact before l lt
      · rw [Function.update_self, seq]
    · rw [Function.update_of_ne (by omega : l ≠ k)]
      exact beyond l (by omega)
    · rw [admitItem, shape]
      dsimp only
      rw [seq, BitVec.ofNat_add, BitVec.add_assoc]
      rfl
    · by_cases own : j = i
      · exact ⟨k, early, own ▸ at'⟩
      · rw [others j (fun same => own (by injection same with same; exact same.symm))] at done
        exact only j done
  · obtain ⟨numbers, only⟩ := cond
    cases w with
    | notice k =>
      obtain ⟨p, pending⟩ := Option.isSome_iff_exists.mp (oldest_waits oldest)
      rw [admitItem, admitNotice_some pending]
      exact ⟨numbers, only⟩
    | pick j =>
      have done := (oldest_waits oldest).1
      obtain ⟨k, early, at'⟩ := only j done
      cases numbered : seqs k with
      | none => exact absurd ⟨k, early, at', numbered⟩ (apart j rfl)
      | some q =>
        rw [(account.gone early at' numbered).1] at done
        cases done
  · obtain ⟨⟨a, before, beyond, number⟩, only⟩ := cond
    exact ⟨⟨a, before, beyond, seq.trans number⟩, fun i done => only i (slots i ▸ done)⟩
  · obtain ⟨numbers, only⟩ := cond
    refine ⟨numbers, fun j done => ?_⟩
    by_cases own : j = i
    · exact ⟨m, Nat.lt_succ_self m, own ▸ next⟩
    · rw [entering_slot_ne _ _ own] at done
      obtain ⟨k, early, at'⟩ := only j done
      exact ⟨k, by omega, at'⟩

end Sys2Proof.Proofs
end

section
/-! PROOFS. The completions of an emptied ring (4.4, 5.8), and a notice that stays through them (8.3). -/

namespace Sys2Proof.Proofs

open Sys2Proof.Machine Sys2Proof.Laws

/-! ## The record of a slot that an emptied ring ends (R96) -/

/-- The record of a trigger alone, converted as the Time Base stands. -/
def shortRecord (s : State) (step : Bool) (x : Slot) : PickRecord where
  seq := none
  cls := x.cls
  call := (contextCall x.cls).1
  basis := (contextCall x.cls).2.1
  profile := x.profile
  trigger := x.trigger
  onset := x.trigger
  secs := (convertTime s x.trigger).1
  us := (convertTime s x.trigger).2
  timeSt := s.time.st
  missed := s.time.missed
  rise := 0
  snr := x.peak
  weight := 3
  share := none
  sums := none
  peaks := none
  clips := 0
  fills := 0
  retrig := x.retrig
  lost := x.lost
  flags := x.flags.union { historyShort := true, contextCall := (contextCall x.cls).2.2, timeStep := step }
  group := none
  role := .none

theorem stageFlags_short (x : Slot) : stageFlags (x.raise { historyShort := true }) ⟨x.trigger, 0, false⟩
    ⟨none, none, false, false, false⟩ ⟨none, 0, 0⟩ = x.flags.union { historyShort := true } := by
  simp [stageFlags, Slot.raise, Flags.union]

theorem formRecord_short (s : State) (x : Slot) : formRecord s (x.raise { historyShort := true }) ⟨x.trigger, 0, false⟩
    ⟨none, none, false, false, false⟩ ⟨none, 0, 0⟩ = shortRecord s s.time.step x := by
  have three : (x.flags.union { historyShort := true }).forcesThree = true := by
    simp [Flags.union, Flags.forcesThree]
  have flags (b c : Bool) : (x.flags.union { historyShort := true }).union { contextCall := b, timeStep := c } =
      x.flags.union { historyShort := true, contextCall := b, timeStep := c } := by
    rw [← union_assoc]
    simp [Flags.union]
  unfold formRecord
  dsimp only
  rw [stageFlags_short, weightOf, if_pos three, flags]
  rfl

theorem setSlot_setSlot (s : State) (i : Fin 8) (x y : Slot) : (s.setSlot i x).setSlot i y = s.setSlot i y := by
  have twice : (s.table.slots.set i x).set i y = s.table.slots.set i y := Vector.set_set ..
  simp only [State.setSlot, twice]

/-- An emptied ring ends a slot by its short record alone: what it raises on the slot is in the record's flags. -/
theorem completeShort_eq (i : Fin 8) (s : State) :
    completeShort i s = enterDone i (shortRecord s s.time.step (s.slot i)) s := by
  have written (rec' : PickRecord) : entering i rec' (s.setSlot i ((s.slot i).raise { historyShort := true })) =
      entering i rec' s := by
    unfold entering
    rw [setSlot_slot_self, setSlot_setSlot]
    rfl
  unfold completeShort
  dsimp only
  rw [show ((s.slot i).raise { historyShort := true }).trigger = (s.slot i).trigger from rfl, formRecord_short,
    enterDone_eq, enterDone_eq, written]

theorem shortRecord_congr {s t : State} {b : Bool} (settings : t.settings = s.settings)
    (time : t.time = { s.time with step := b }) (step : Bool) (x : Slot) :
    shortRecord t step x = shortRecord s step x := by
  have converts : convertTime t x.trigger = convertTime s x.trigger := by
    simp only [convertTime, settings, time]
  simp only [shortRecord, converts, time]

/-! ## The completions in their order (R20, R74) -/

/-- The record of the k-th slot of an order that state s would complete. -/
def formedAt (s : State) (order : List (Fin 8)) (k : Nat) : PickRecord :=
  shortRecord s (s.time.step && decide (k = 0)) (s.slot ((order[k]?).getD 0))

/-- What the completion of the first m slots of an order leaves of state s for those behind them. -/
structure midCompletion (s : State) (order : List (Fin 8)) (m : Nat) (t : State) : Prop where
  slots : ∀ {k : Nat} {i : Fin 8}, m ≤ k → order[k]? = some i → t.slot i = s.slot i
  settings : t.settings = s.settings
  time : t.time = { s.time with step := s.time.step && decide (m = 0) }
  waiting : t.reports.waiting = s.reports.waiting + BitVec.ofNat 32 m

theorem midCompletion_next {s t : State} {order : List (Fin 8)} {m : Nat} {i : Fin 8} (once : order.Nodup)
    (notDone : ∀ i ∈ order, (s.slot i).st ≠ .done) (next : order[m]? = some i) (rec' : PickRecord)
    (h : midCompletion s order m t) : midCompletion s order (m + 1) (enterDone i rec' t) := by
  obtain ⟨eq, slots⟩ := admitAll_admitted (entering i rec' t)
  rw [enterDone_eq]
  refine ⟨fun {k j} beyond at' => ?_, ?_, ?_, ?_⟩
  · have apart : j ≠ i := by
      rintro rfl
      exact absurd (index_unique once at' next) (by omega)
    have kept : (entering i rec' t).slot j = s.slot j :=
      (entering_slot_ne rec' t apart).trans (h.slots (by omega) at')
    rcases slots j with same | ⟨done, -⟩
    · exact same.trans kept
    · rw [kept] at done
      exact absurd done (notDone j (List.mem_of_getElem? at'))
  · rw [eq]
    exact h.settings
  · rw [eq]
    change { t.time with step := false } = _
    rw [h.time]
    simp
  · rw [admitAll_waiting]
    change t.reports.waiting + 1 = _
    rw [h.waiting, BitVec.ofNat_add, BitVec.add_assoc]
    rfl

/-- The completions of a list, one behind another: each takes the next place in the account. -/
theorem completions_accounted {s : State} {order : List (Fin 8)} {C : Nat → (Nat → Option (BitVec 32)) → State → Prop}
    (rule : accounts order (formedAt s order) s.reports.waiting C) (once : order.Nodup)
    (notDone : ∀ i ∈ order, (s.slot i).st ≠ .done) (rest : List (Fin 8)) : ∀ {m : Nat} {t : State},
    m ≤ order.length → order.drop m = rest → midCompletion s order m t → accounted order (formedAt s order) s.reports.waiting C m t →
    accounted order (formedAt s order) s.reports.waiting C order.length (rest.foldl (fun s i => completeShort i s) t) ∧
    midCompletion s order order.length (rest.foldl (fun s i => completeShort i s) t) := by
  induction rest with
  | nil =>
    intro m t within left mid account
    have all : m = order.length := le_antisymm within (List.drop_eq_nil_iff.mp left)
    rw [← all]
    exact ⟨account, mid⟩
  | cons i rest ih =>
    intro m t within left mid account
    have bound : m < order.length := by
      by_contra beyond
      rw [List.drop_eq_nil_of_le (not_lt.mp beyond)] at left
      cases left
    have next : order[m]? = some i := by
      rw [← List.head?_drop, left, List.head?_cons]
    have formed : shortRecord t t.time.step (t.slot i) = formedAt s order m := by
      rw [shortRecord_congr mid.settings mid.time, mid.slots le_rfl next, mid.time, formedAt, next]
      rfl
    have tail : order.drop (m + 1) = rest := by
      rw [← List.tail_drop, left, List.tail_cons]
    rw [List.foldl_cons, completeShort_eq, formed]
    exact ih bound tail (midCompletion_next once notDone next _ mid) (accounted_enterDone rule once next mid.waiting account)

/-! ## A notice that stays -/

/-- A notice of key 1 is pending, or it is in the queue. -/
def noted (count : Nat) (first : Option Sample) (data : NoticeData) (s : State) : Prop :=
  .notice ⟨count, first, data⟩ ∈ s.reports.queue ∨ ∃ date, s.reports.notices[(1 : Fin 8)] = some ⟨date, first, count, data⟩

section
variable {count : Nat} {first : Option Sample} {data : NoticeData}

theorem noted_of_same {s t : State} (queue : t.reports.queue = s.reports.queue)
    (notices : t.reports.notices[(1 : Fin 8)] = s.reports.notices[(1 : Fin 8)]) (h : noted count first data s) :
    noted count first data t := by
  rw [noted, queue, notices]
  exact h

theorem noted_admitItem {s : State} (w : Waiting) (h : noted count first data s) : noted count first data (admitItem w s) := by
  obtain ⟨-, behind, queue⟩ := admitItem_others w s
  rcases h with mem | ⟨date, pending⟩
  · exact .inl (by rw [queue]; exact List.mem_append_left _ mem)
  · cases w with
    | pick j =>
      cases carried : (s.slot j).record with
      | none =>
        rw [show admitItem (.pick j) s = s by simp only [admitItem, admitPick, carried]]
        exact .inr ⟨date, pending⟩
      | some p =>
        obtain ⟨role, group, behind, a, g, shape, -⟩ := admitPick_joins carried
        rw [admitItem, shape]
        exact .inr ⟨date, pending⟩
    | notice k =>
      cases held : s.reports.notices[k] with
      | none =>
        rw [show admitItem (.notice k) s = s by simp only [admitItem, admitNotice, held]]
        exact .inr ⟨date, pending⟩
      | some p =>
        rw [admitItem, admitNotice_some held]
        by_cases own : k = 1
        · subst own
          rw [pending] at held
          cases held
          exact .inl (List.mem_append_right _ List.mem_cons_self)
        · have other : (s.reports.notices.set k none)[(1 : Fin 8)] = s.reports.notices[(1 : Fin 8)] := by
            rw [Fin.getElem_fin, Fin.getElem_fin, Vector.getElem_set_ne]
            exact fun same => own (Fin.ext same)
          exact .inr ⟨date, other.trans pending⟩

theorem noted_admitAll {s : State} (h : noted count first data s) : noted count first data (admitAll s) :=
  attempts_keeps (fun _ w _ _ h => noted_admitItem w h)
    (fun t w h => by
      obtain ⟨b, same⟩ := blockedAttempt_eq w t
      rw [same]
      exact noted_of_same (s := t) rfl rfl h) 16 s h

theorem noted_raise {s : State} {d : NoticeData} (other : d.key ≠ 1) (h : noted count first data s) :
    noted count first data (raise d s) := by
  have posted : noted count first data (post d s) := by
    have kept (x : Option PendingNotice) : (s.reports.notices.set d.key x)[(1 : Fin 8)] = s.reports.notices[(1 : Fin 8)] := by
      rw [Fin.getElem_fin, Fin.getElem_fin, Vector.getElem_set_ne]
      exact fun same => other (Fin.ext same)
    unfold post
    split
    · exact noted_of_same (s := s) rfl (kept _) h
    · exact noted_of_same (s := s) rfl (kept _) h
  unfold raise
  split
  · exact noted_admitAll posted
  · exact posted

theorem noted_completions (order : List (Fin 8)) : ∀ {s : State}, noted count first data s →
    noted count first data (order.foldl (fun s i => completeShort i s) s) := by
  induction order with
  | nil => exact fun h => h
  | cons i rest ih =>
    intro s h
    rw [List.foldl_cons, completeShort_eq, enterDone_eq]
    exact ih (noted_admitAll (noted_of_same (s := s) rfl rfl h))

end

end Sys2Proof.Proofs
end

section
/-! PROOFS. What a new record leaves of the one before it (1.1, 3.2, 4.3, 4.4): every slot in progress completes. -/

namespace Sys2Proof.Proofs

open Sys2Proof.Machine Sys2Proof.Laws

/-! ## The order of completion (R20, R69, R74) -/

/-- The slots in progress: the one in hand, the queue from its head, the OPEN ones in the order of their triggers. -/
def inProgress (s : State) : List (Fin 8) :=
  (s.unit.map (·.slot)).toList ++ s.table.queue ++ byTrigger s (s.slotsIn .opened)

theorem mem_byTrigger_opened (s : State) (i : Fin 8) : i ∈ byTrigger s (s.slotsIn .opened) ↔ (s.slot i).st = .opened := by
  rw [(byTrigger_perm s _).mem_iff, mem_slotsIn]

theorem mem_inProgress {s : State} (queue : s.queueAgrees) (i : Fin 8) :
    (s.slot i).st = .opened ∨ (s.slot i).st = .closed ∨ (s.slot i).st = .refining ↔ i ∈ inProgress s := by
  rw [inProgress, List.mem_append, ← (inHand_queue queue).1 i, mem_byTrigger_opened, or_comm]

theorem inProgress_nodup {s : State} (queue : s.queueAgrees) : (inProgress s).Nodup := by
  refine List.nodup_append.mpr ⟨(inHand_queue queue).2, (byTrigger_perm s _).nodup_iff.mpr (slotsIn_nodup s _),
    fun i mem j was same => ?_⟩
  subst same
  have isOpen := (mem_byTrigger_opened s i).mp was
  rcases ((inHand_queue queue).1 i).mpr mem with st | st
  · exact absurd (isOpen.symm.trans st) nofun
  · exact absurd (isOpen.symm.trans st) nofun

/-- A slot as it stands when an emptied ring ends it: an OPEN one has closed with GAP and TRUNCATED (R49). -/
def leftOpen (x y : Slot) : Prop :=
  if x.st = .opened then
    ∃ b, y.flags = (x.flags.union { gap := true, truncated := true }).union { historyShort := b } ∧ y.cls = x.cls ∧
      y.profile = x.profile ∧ y.trigger = x.trigger ∧ y.peak = x.peak ∧ y.retrig = x.retrig ∧ y.lost = x.lost ∧
      (y.st = .closed ∨ y.st = .refining)
  else y = x

/-- The closings of a long gap join the refinement queue in their order. -/
theorem chainLongGap_inProgress {s t : State} (was : admitted s t) (queue : s.queueAgrees)
    (runs : ∀ i : Fin 8, (s.slot i).st = .opened → s.chain.st = .run) :
    ((chainLongGap t).unit.map (·.slot)).toList ++ (chainLongGap t).table.queue = inProgress s ∧
    (∀ i, (s.slot i).st ≠ .done → leftOpen (s.slot i) ((chainLongGap t).slot i)) ∧
    ∀ i, (s.slot i).st ≠ .opened → (chainLongGap t).slot i = t.slot i := by
  obtain ⟨eq, slots⟩ := was
  have chain : t.chain = s.chain := by rw [eq]
  have unit : t.unit = s.unit := by rw [eq]
  have waits : t.table.queue = s.table.queue := by rw [eq]
  have kept (i : Fin 8) (notDone : (s.slot i).st ≠ .done) : t.slot i = s.slot i :=
    (slots i).resolve_right fun freed => notDone freed.1
  by_cases run : s.chain.st = .run
  · have closing := closeAll_admitted ⟨eq, slots⟩ { gap := true, truncated := true } queue.2.2.2
    have left : chainLongGap t = dropEnds (closeAll { gap := true, truncated := true } t) := by
      rw [chainLongGap, chain, run]
    obtain ⟨-, others, closed, -, taken⟩ := id closing
    rw [left]
    refine ⟨?_, fun i notDone => ?_, fun i other => others i (mt (mem_byTrigger_opened s i).mp other)⟩
    · change ((closeAll { gap := true, truncated := true } t).unit.map (·.slot)).toList ++
        (closeAll { gap := true, truncated := true } t).table.queue = _
      rw [inProgress]
      cases hand : s.unit with
      | some u =>
        rw [unit, hand] at taken
        obtain ⟨unit', queue', -⟩ := taken
        rw [unit', queue', waits]
        simp only [Option.map_some, Option.toList_some, List.append_assoc]
      | none =>
        rw [unit, hand] at taken
        obtain ⟨unit', queue', -⟩ := taken
        rw [unit', queue', queue.2.2.2 hand]
        cases byTrigger s (s.slotsIn .opened) with
        | nil => rfl
        | cons i rest => rfl
    · change leftOpen _ ((closeAll { gap := true, truncated := true } t).slot i)
      unfold leftOpen
      split
      next isOpen =>
        have mem := (mem_byTrigger_opened s i).mpr isOpen
        have shape := closed i mem
        have states := closes_states closing mem
        rw [kept i notDone, closedAs] at shape
        have part {α : Type} (field : Slot → α) := congrArg field shape
        exact ⟨_, part Slot.flags, part Slot.cls, part Slot.profile, part Slot.trigger, part Slot.peak, part Slot.retrig,
          part Slot.lost, states⟩
      next other =>
        rw [others i (mt (mem_byTrigger_opened s i).mp other), kept i notDone]
  · have noneOpen (i : Fin 8) : ¬ (s.slot i).st = .opened := fun isOpen => run (runs i isOpen)
    have none' : byTrigger s (s.slotsIn .opened) = [] := by
      rw [List.eq_nil_iff_forall_not_mem]
      exact fun i mem => noneOpen i ((mem_byTrigger_opened s i).mp mem)
    have stands : (chainLongGap t).table = t.table ∧ (chainLongGap t).unit = t.unit := by
      unfold chainLongGap
      rw [chain]
      split
      next here => exact absurd here run
      next => exact ⟨rfl, rfl⟩
      next => exact ⟨rfl, rfl⟩
    rw [stands.1, stands.2, unit, waits, inProgress, none', List.append_nil]
    have same (i : Fin 8) : (chainLongGap t).slot i = t.slot i := by rw [State.slot, State.slot, stands.1]
    refine ⟨rfl, fun i notDone => ?_, fun i _ => same i⟩
    rw [leftOpen, if_neg (noneOpen i), same, kept i notDone]

/-! ## The records (R49, R96) -/

/-- The record of a slot in progress that a new record ends, in the statement's words. -/
def endedRecord (s : State) (step : Bool) (x : Slot) : PickRecord :=
  { shortRecord s step x with
    flags := x.flags.union { historyShort := true, gap := decide (x.st = .opened), truncated := decide (x.st = .opened),
                             contextCall := decide (x.cls ≠ .forced), timeStep := step } }

theorem contextCall_flag (c : SlotClass) : (contextCall c).2.2 = decide (c ≠ .forced) := by
  cases c <;> rfl

theorem shortRecord_ended {s : State} {step : Bool} {x y : Slot} (left : leftOpen x y) :
    shortRecord s step y = endedRecord s step x := by
  unfold leftOpen at left
  split at left
  next isOpen =>
    obtain ⟨b, flags, cls, profile, trigger, peak, retrig, lost, -⟩ := left
    have joined : ((x.flags.union { gap := true, truncated := true }).union { historyShort := b }).union
        { historyShort := true, contextCall := decide (x.cls ≠ .forced), timeStep := step } =
        x.flags.union { historyShort := true, gap := true, truncated := true, contextCall := decide (x.cls ≠ .forced)
                        timeStep := step } := by
      rw [← union_assoc, ← union_assoc]
      simp [Flags.union]
    simp only [shortRecord, endedRecord, flags, cls, profile, trigger, peak, retrig, lost, contextCall_flag, joined, isOpen,
      decide_true]
  next other =>
    subst left
    simp only [shortRecord, endedRecord, contextCall_flag, other, decide_false]

/-- No slot in progress is DONE, before or after it has closed. -/
theorem leftOpen_notDone {x y : Slot} (left : leftOpen x y) (notDone : x.st ≠ .done) : y.st ≠ .done := by
  unfold leftOpen at left
  split at left
  · obtain ⟨-, -, -, -, -, -, -, -, st | st⟩ := left <;> rw [st] <;> nofun
  · rw [left]
    exact notDone

end Sys2Proof.Proofs
end

section
/-! PROOFS. The resynchronising actions (1.1, 4.4): the slots in progress completed in their order and accounted for. -/

namespace Sys2Proof.Proofs

open Sys2Proof.Machine Sys2Proof.Laws

/-- Every slot is FREE or DONE, the Unit idle and its queue empty. -/
structure atRest (s : State) : Prop where
  slots : ∀ i : Fin 8, (s.slot i).st = .free ∨ (s.slot i).st = .done
  unit : s.unit = none
  queue : s.table.queue = []

theorem atRest_of_admitted {s t : State} (was : admitted s t) (h : atRest s) : atRest t := by
  obtain ⟨eq, slots⟩ := was
  refine ⟨fun i => ?_, by rw [eq]; exact h.unit, by rw [eq]; exact h.queue⟩
  rcases slots i with same | ⟨-, free⟩
  · rw [same]
    exact h.slots i
  · rw [free]
    exact .inl rfl

theorem atRest_of_same {s t : State} (slots : ∀ i, t.slot i = s.slot i) (unit : t.unit = s.unit)
    (queue : t.table.queue = s.table.queue) (h : atRest s) : atRest t :=
  ⟨fun i => by rw [slots]; exact h.slots i, unit.trans h.unit, queue.trans h.queue⟩

/-- The completions of all that is in progress leave the slots at rest. -/
theorem completions_atRest (rest : List (Fin 8)) : ∀ {s : State},
    (∀ i : Fin 8, i ∉ rest → (s.slot i).st = .free ∨ (s.slot i).st = .done) → s.unit = none → s.table.queue = [] →
    atRest (rest.foldl (fun s i => completeShort i s) s) := by
  induction rest with
  | nil => exact fun slots unit queue => ⟨fun i => slots i List.not_mem_nil, unit, queue⟩
  | cons i rest ih =>
    intro s slots unit queue
    obtain ⟨eq, admits⟩ := admitAll_admitted (entering i (shortRecord s s.time.step (s.slot i)) s)
    rw [List.foldl_cons, completeShort_eq, enterDone_eq]
    refine ih (fun j absent => ?_) (by rw [eq]; exact unit) (by rw [eq]; exact queue)
    have entered : ((entering i (shortRecord s s.time.step (s.slot i)) s).slot j).st = .free ∨
        ((entering i (shortRecord s s.time.step (s.slot i)) s).slot j).st = .done := by
      by_cases own : j = i
      · rw [own, entering_slot_self]
        exact .inr rfl
      · rw [entering_slot_ne _ _ own]
        exact slots j (List.not_mem_cons_of_ne_of_not_mem own absent)
    rcases admits j with same | ⟨-, free⟩
    · rw [same]
      exact entered
    · rw [free]
      exact .inl rfl

/-! ## A new record's completions -/

section
variable {s t : State}

/-- The state in which the completions begin (R20). -/
def emptied (s : State) : State := { s with ring := [], unit := none, table := { s.table with queue := [] } }

theorem emptied_fields (t : State) : (emptied (chainLongGap t)).settings = t.settings ∧
    (emptied (chainLongGap t)).time = t.time ∧ (emptied (chainLongGap t)).reports = t.reports := by
  obtain ⟨tb, u, b, p, shape⟩ := chainLongGap_shape t
  rw [shape]
  exact ⟨rfl, rfl, rfl⟩

/-- The resynchronising actions are the completions of what is in progress, in order. -/
theorem resync_completes (was : admitted s t) (queue : s.queueAgrees)
    (runs : ∀ i : Fin 8, (s.slot i).st = .opened → s.chain.st = .run) : resync (chainLongGap t) =
    { (inProgress s).foldl (fun s i => completeShort i s) (emptied (chainLongGap t)) with
      dc := ⟨none, none, none⟩
      det := ((inProgress s).foldl (fun s i => completeShort i s) (emptied (chainLongGap t))).det.map Detector.endBlock } := by
  rw [← (chainLongGap_inProgress was queue runs).1]
  rfl

theorem inProgress_notDone (queue : s.queueAgrees) {i : Fin 8} (mem : i ∈ inProgress s) : (s.slot i).st ≠ .done := by
  rcases (mem_inProgress queue i).mpr mem with st | st | st <;> rw [st] <;> nofun

theorem emptied_notDone (was : admitted s t) (queue : s.queueAgrees)
    (runs : ∀ i : Fin 8, (s.slot i).st = .opened → s.chain.st = .run) {i : Fin 8} (mem : i ∈ inProgress s) :
    ((emptied (chainLongGap t)).slot i).st ≠ .done :=
  leftOpen_notDone ((chainLongGap_inProgress was queue runs).2.1 i (inProgress_notDone queue mem))
    (inProgress_notDone queue mem)

/-- Outside what is in progress a slot is FREE or DONE, and DONE only if it was. -/
theorem emptied_others (was : admitted s t) (queue : s.queueAgrees)
    (runs : ∀ i : Fin 8, (s.slot i).st = .opened → s.chain.st = .run) {i : Fin 8} (absent : i ∉ inProgress s) :
    ((emptied (chainLongGap t)).slot i).st = .free ∨
      ((emptied (chainLongGap t)).slot i).st = .done ∧ (s.slot i).st = .done := by
  have states := mt (mem_inProgress queue i).mp absent
  have kept : (emptied (chainLongGap t)).slot i = t.slot i :=
    (chainLongGap_inProgress was queue runs).2.2 i fun isOpen => states (.inl isOpen)
  rw [kept]
  rcases was.2 i with same | ⟨-, free⟩
  · rw [same]
    cases st : (s.slot i).st with
    | free => exact .inl rfl
    | done => exact .inr ⟨rfl, rfl⟩
    | opened => exact absurd (.inl st) states
    | closed => exact absurd (.inr (.inl st)) states
    | refining => exact absurd (.inr (.inr st)) states
  · rw [free]
    exact .inl rfl

/-- The records that the completions form, in the statement's words. -/
theorem formedAt_ended (was : admitted s t) (queue : s.queueAgrees)
    (runs : ∀ i : Fin 8, (s.slot i).st = .opened → s.chain.st = .run) {k : Nat} {i : Fin 8}
    (at' : (inProgress s)[k]? = some i) : formedAt (emptied (chainLongGap t)) (inProgress s) k =
      endedRecord s (s.time.step && decide (k = 0)) (s.slot i) := by
  obtain ⟨settings, time, -⟩ := emptied_fields t
  have eq := was.1
  have time' : t.time = s.time := by rw [eq]
  have settings' : t.settings = s.settings := by rw [eq]
  have left := (chainLongGap_inProgress was queue runs).2.1 i (inProgress_notDone queue (List.mem_of_getElem? at'))
  rw [formedAt, at', Option.getD_some, time, time', shortRecord_congr (b := s.time.step) (settings.trans settings')
    (time.trans time')]
  exact shortRecord_ended left

variable {C : Nat → (Nat → Option (BitVec 32)) → State → Prop}

/-- Behind the resynchronising actions the slots are at rest and every one that was in progress is accounted for. -/
theorem resync_accounted (was : admitted s t) (queue : s.queueAgrees)
    (runs : ∀ i : Fin 8, (s.slot i).st = .opened → s.chain.st = .run)
    (rule : accounts (inProgress s) (formedAt (emptied (chainLongGap t)) (inProgress s)) t.reports.waiting C)
    (start : C 0 (fun _ => none) (emptied (chainLongGap t))) :
    accounted (inProgress s) (formedAt (emptied (chainLongGap t)) (inProgress s)) t.reports.waiting C (inProgress s).length
      (resync (chainLongGap t)) ∧
    (resync (chainLongGap t)).time = { s.time with step := s.time.step && (inProgress s).isEmpty } := by
  obtain ⟨settings, time, reports⟩ := emptied_fields t
  have mid : midCompletion (emptied (chainLongGap t)) (inProgress s) 0 (emptied (chainLongGap t)) :=
    ⟨fun _ _ => rfl, rfl, by simp, by simp⟩
  have waiting : (emptied (chainLongGap t)).reports.waiting = t.reports.waiting := by rw [reports]
  rw [← waiting] at rule ⊢
  obtain ⟨account, done⟩ := completions_accounted rule (inProgress_nodup queue)
    (fun i mem => emptied_notDone was queue runs mem) (inProgress s) (Nat.zero_le _) rfl mid
    ⟨fun _ => none, ⟨fun before => absurd before (Nat.not_lt_zero _), fun before => absurd before (Nat.not_lt_zero _),
      fun _ => rfl⟩, start⟩
  rw [resync_completes was queue runs]
  refine ⟨accounted_of_same (s := (inProgress s).foldl (fun s i => completeShort i s) (emptied (chainLongGap t))) rule
    (fun _ => rfl) rfl rfl account, ?_⟩
  have eq := was.1
  have time' : t.time = s.time := by rw [eq]
  have none' : decide ((inProgress s).length = 0) = (inProgress s).isEmpty := by
    cases inProgress s <;> rfl
  exact done.time.trans (by rw [time, time', none'])

theorem resync_atRest (was : admitted s t) (queue : s.queueAgrees)
    (runs : ∀ i : Fin 8, (s.slot i).st = .opened → s.chain.st = .run) : atRest (resync (chainLongGap t)) := by
  rw [resync_completes was queue runs]
  have rest := completions_atRest (inProgress s) (s := emptied (chainLongGap t))
    (fun i absent => (emptied_others was queue runs absent).imp_right And.left) rfl rfl
  exact ⟨rest.slots, rest.unit, rest.queue⟩

theorem resync_noted {count : Nat} {first : Option Sample} {data : NoticeData} (h : noted count first data t) :
    noted count first data (resync (chainLongGap t)) := by
  have reports := (emptied_fields t).2.2
  have emptied' : noted count first data (emptied (chainLongGap t)) := noted_of_same (s := t) (by rw [reports]) (by rw [reports]) h
  exact noted_of_same (s := emptyRing (chainLongGap t)) rfl rfl (noted_completions _ emptied')

end

end Sys2Proof.Proofs
end

section
/-! PROOFS. A frame that finds the slots at rest (1.1, 8.3): its recipients raise notices and touch no slot besides the
admissions that follow. -/

namespace Sys2Proof.Proofs

open Sys2Proof.Machine Sys2Proof.Laws

/-- State t is s after changes that touch neither slots nor reports, and notices raised of keys other than 1. -/
inductive notified : State → State → Prop
  | same {s t : State} (slots : ∀ i, t.slot i = s.slot i) (reports : t.reports = s.reports) (unit : t.unit = s.unit)
      (queue : t.table.queue = s.table.queue) : notified s t
  | raise (s : State) (d : NoticeData) (other : d.key ≠ 1) : notified s (raise d s)
  | trans {s t u : State} : notified s t → notified t u → notified s u

theorem notified_refl (s : State) : notified s s := .same (fun _ => rfl) rfl rfl rfl

theorem accounted_notified {order : List (Fin 8)} {formed : Nat → PickRecord} {date : BitVec 32} {m : Nat}
    {C : Nat → (Nat → Option (BitVec 32)) → State → Prop} (rule : accounts order formed date C) (once : order.Nodup)
    {s t : State} (way : notified s t) (h : accounted order formed date C m s) : accounted order formed date C m t := by
  induction way with
  | same slots reports unit queue => exact accounted_of_same rule slots (by rw [reports]) (by rw [reports]) h
  | raise s d other => exact accounted_raise rule once d h
  | trans _ _ first second => exact second (first h)

theorem atRest_notified {s t : State} (way : notified s t) (h : atRest s) : atRest t := by
  induction way with
  | same slots reports unit queue => exact atRest_of_same slots unit queue h
  | raise s d other => exact atRest_of_admitted (raise_admitted d s) h
  | trans _ _ first second => exact second (first h)

theorem noted_notified {count : Nat} {first : Option Sample} {data : NoticeData} {s t : State} (way : notified s t)
    (h : noted count first data s) : noted count first data t := by
  induction way with
  | same slots reports unit queue => exact noted_of_same (by rw [reports]) (by rw [reports]) h
  | raise s d other => exact noted_raise other h
  | trans _ _ first second => exact second (first h)

theorem atRest_noneOpen {s : State} (h : atRest s) (i : Fin 8) : (s.slot i).st ≠ .opened := by
  rcases h.slots i with st | st <;> rw [st] <;> nofun

/-! ## The recipients of a frame outside RUN -/

theorem processed_notified (w : Det) (f : Conditioned) {s : State} (h : atRest s) : notified s (processed w f s) := by
  unfold processed
  split
  · have flagged : notified s (flagForced w (s.setDet w (s.outOf w f).det)) := by
      refine .same (fun i => ?_) rfl rfl rfl
      rw [flagForced, mapSlots_slot]
      split
      next own =>
        simp only [Bool.and_eq_true, beq_iff_eq] at own
        exact absurd own.1 (atRest_noneOpen h i)
      next => rfl
    refine flagged.trans (.raise _ (.baselineForced w f.n) ?_)
    cases w
    · exact show (3 : Fin 8) ≠ 1 by decide
    · exact show (4 : Fin 8) ≠ 1 by decide
  · exact .same (fun _ => rfl) rfl rfl rfl

theorem popExpired_notified (n : Sample) (ts : List Trial) : ∀ s : State, notified s (popExpired n ts s) := by
  induction ts with
  | nil => exact notified_refl
  | cons t rest ih =>
    intro s
    unfold popExpired
    split
    · have popped : notified s (popTrial t rest s) := .same (fun _ => rfl) rfl rfl rfl
      have raised : notified s (raise (trialNotice t) (popTrial t rest s)) :=
        popped.trans (.raise _ _ (show (7 : Fin 8) ≠ 1 by decide))
      exact raised.trans (ih _)
    · exact notified_refl s

theorem completionTest_notified (n : Sample) (s : State) : notified s (completionTest n s) := by
  unfold completionTest
  split
  · dsimp only
    split
    · have entered : notified s (enterRun { s with due := { s.due with completion := false } }) :=
        .same (fun _ => rfl) rfl rfl rfl
      exact entered.trans (.raise _ (.warmupDone n) (show (2 : Fin 8) ≠ 1 by decide))
    · exact .same (fun _ => rfl) rfl rfl rfl
  · exact notified_refl s

theorem afterDetectors_notified (f : Conditioned) (s : State) : notified s (afterDetectors f s) := by
  unfold afterDetectors
  split
  · unfold afterWarmupFrame
    split
    · split
      · exact .same (fun _ => rfl) rfl rfl rfl
      · exact notified_refl s
    · split
      · have counted : notified s (countBlock s) := .same (fun _ => rfl) rfl rfl rfl
        exact counted.trans (completionTest_notified f.n _)
      · exact notified_refl s
  · rw [afterRunFrame_eq]
    dsimp only
    split
    · exact .same (fun _ => rfl) rfl rfl rfl
    · exact .same (fun _ => rfl) rfl rfl rfl
  · exact notified_refl s

theorem readRecentre_notified {f : Conditioned} {s : State} (away : s.chain.st ≠ .run) : notified s (readRecentre f s) := by
  unfold readRecentre
  split
  · split
    next run => exact absurd run away
    next => exact .same (fun _ => rfl) rfl rfl rfl
    next => exact notified_refl s
  · exact notified_refl s

/-- A recipient that finds the slots at rest and, before the chain's last act, the chain away from RUN. -/
theorem receive_notified {f : Conditioned} {s : State} {r : Recipient} (h : atRest s)
    (away : (∃ w, r = .detector w) ∨ r = .recentre → s.chain.st ≠ .run) : notified s (receive f s r) := by
  cases r with
  | detector w =>
    rw [receive, detectorFrame_away (away (.inl ⟨w, rfl⟩))]
    exact processed_notified w f h
  | recentre => exact readRecentre_notified (away (.inr rfl))
  | after => exact afterDetectors_notified f s
  | stack =>
    rw [receive]
    unfold trialTests
    split
    · have noted : notified s { s with due := { s.due with trials := false } } := .same (fun _ => rfl) rfl rfl rfl
      exact noted.trans (popExpired_notified f.n s.revert _)
    · exact notified_refl s
  | assoc =>
    obtain ⟨a, du, shape⟩ := entryTests_shape f.n s
    rw [receive, shape]
    exact .same (fun _ => rfl) rfl rfl rfl

/-- Before its last act the chain's state stands, where it is not RUN or the flag is not read. -/
theorem receive_chainState {f : Conditioned} {s : State} {r : Recipient} (last : r ≠ .after) :
    (receive f s r).chain.st = s.chain.st := by
  by_cases flag : r = .recentre
  · obtain ⟨t, u, d, b, p, shape⟩ := readRecentre_shape f s
    rw [flag, receive, shape]
  · by_cases detector : ∃ w, r = .detector w
    · obtain ⟨w, rfl⟩ := detector
      exact congrArg Chain.st (detectorFrame_chain w f s)
    · exact congrArg Chain.st
        (receive_apart (w := .z) (fun same => detector ⟨_, same⟩) last (fun same => absurd same flag)).2

theorem foldl_ahead_notified {f : Conditioned} (l : List Recipient) : .after ∉ l → ∀ {s : State}, atRest s →
    s.chain.st ≠ .run → notified s (l.foldl (receive f) s) ∧ (l.foldl (receive f) s).chain.st = s.chain.st := by
  induction l with
  | nil => exact fun _ _ _ _ => ⟨notified_refl _, rfl⟩
  | cons r rest ih =>
    intro absent s h away
    have last : r ≠ .after := fun same => absent (same ▸ List.mem_cons_self)
    have first := receive_notified (f := f) (r := r) h fun _ => away
    have st := receive_chainState (f := f) (s := s) last
    obtain ⟨others, st'⟩ := ih (fun mem => absent (List.mem_cons_of_mem _ mem)) (atRest_notified first h) (st ▸ away)
    exact ⟨first.trans others, st'.trans st⟩

theorem foldl_behind_notified {f : Conditioned} (l : List Recipient) : (∀ r ∈ l, (∀ w, r ≠ .detector w) ∧ r ≠ .recentre) →
    ∀ {s : State}, atRest s → notified s (l.foldl (receive f) s) := by
  induction l with
  | nil => exact fun _ _ _ => notified_refl _
  | cons r rest ih =>
    intro apart s h
    obtain ⟨detector, flag⟩ := apart r List.mem_cons_self
    have first := receive_notified (f := f) (r := r) h fun own =>
      own.elim (fun ⟨w, same⟩ => absurd same (detector w)) fun same => absurd same flag
    exact first.trans (ih (fun q mem => apart q (List.mem_cons_of_mem _ mem)) (atRest_notified first h))

/-- A whole frame that finds the slots at rest and the chain away from RUN. -/
theorem conditionFrame_notified (f : RawFrame) (filled : Bool) {s : State} (h : atRest s) (away : s.chain.st ≠ .run)
    (empty : s.ring = []) : notified s (conditionFrame f filled s) := by
  obtain ⟨order, drawn, delivery, -, is⟩ := conditionFrame_eq f filled s
  obtain ⟨ahead, behind, parts⟩ := delivers_split delivery
  have unwritten : slotsWritten (conditioned s f filled).1 s = s := by
    rw [slotsWritten, empty]
    rfl
  have begun : notified s (conditionedAt f filled drawn s) := by
    rw [conditionedAt, unwritten]
    exact .same (fun _ => rfl) rfl rfl rfl
  have chain0 : (conditionedAt f filled drawn s).chain = s.chain := by
    obtain ⟨tb, shape⟩ := conditionedAt_shape f filled drawn s
    rw [shape]
  have h0 := atRest_notified begun h
  obtain ⟨first, -⟩ := foldl_ahead_notified (f := (conditioned s f filled).1) ahead
    (fun mem => parts.after_ahead mem rfl) h0 (chain0 ▸ away)
  have h1 := atRest_notified first h0
  have last := foldl_behind_notified (f := (conditioned s f filled).1) (.after :: behind) (fun r mem => by
    rcases List.mem_cons.mp mem with rfl | mem
    · exact ⟨nofun, nofun⟩
    · exact ⟨(parts.behind_apart mem).1, (parts.behind_apart mem).2.2⟩) h1
  rw [is, parts.whole, List.foldl_append]
  exact begun.trans (first.trans last)

end Sys2Proof.Proofs
end

section
/-! PROOFS. The first frame of a fresh warm-up (2.5): it counts at most one block and completes nothing. -/

namespace Sys2Proof.Proofs

open Sys2Proof.Machine Sys2Proof.Laws

/-! ## The entries stay legal while trials expire (9.1, 10.5) -/

/-- Every profile entry is legal, and so is what every trial gives back. -/
def entriesLegal (s : State) : Prop :=
  (∀ e : Fin 8, s.settings.profiles[e].legal) ∧ unwinds s.settings.profiles s.revert

theorem entriesLegal_free : FreeOfReports entriesLegal where

theorem entriesLegal_parts : KeptByParts entriesLegal where
  raise := entriesLegal_free.raise
  enterDone s i rec' _ := entriesLegal_free.enterDone (fun _ h => h) s i rec'
  popTrial s t rest top h := by
    obtain ⟨profiles, back⟩ := h
    rw [top] at back
    obtain ⟨_, restored, further⟩ := back
    exact ⟨vector_set_all profiles restored, further⟩

/-- Warm-up takes at least 16 blocks (9.1). -/
theorem warm_least {p : Profile} (legal : p.legal) : 16 ≤ p.warm := by
  have ranged : Item.inRange .warm (p.get .warm) = true := List.all_eq_true.mp legal.1 .warm (by decide)
  simp only [Item.inRange, Bool.and_eq_true, decide_eq_true_eq] at ranged
  exact ranged.1

/-! ## A fresh warm-up -/

/-- The chain is in WARMUP with no block counted and no blanking, both detectors WARMING. -/
structure freshWarmup (s : State) : Prop where
  st : s.chain.st = .warmup
  k : s.chain.k = 0
  blank : s.chain.blankEnd = none
  det : ∀ w, (s.det.get w).st = .warming

/-- A WARMING detector stays WARMING through any frame. -/
theorem detStep_warming_st {w : Det} {prof : Profile} {paused : Bool} {f : Conditioned} {d : Detector}
    (st : d.st = .warming) : (detStep w prof paused f d).det.st = .warming := by
  rw [detStep_warming st]
  split
  · exact (hold_st _ _).trans st
  · unfold settledWarming
    dsimp only [plainOut]
    split
    · exact st
    · exact st

theorem receive_freshWarmup {f : Conditioned} {s : State} {r : Recipient} (last : r ≠ .after) (h : freshWarmup s) :
    freshWarmup (receive f s r) := by
  have of {t : State} (chain : t.chain = s.chain) (det : ∀ w, (t.det.get w).st = (s.det.get w).st) : freshWarmup t :=
    ⟨by rw [chain]; exact h.st, by rw [chain]; exact h.k, by rw [chain]; exact h.blank, fun w => (det w).trans (h.det w)⟩
  by_cases flag : r = .recentre
  · subst flag
    cases set : f.recentre with
    | true =>
      rw [receive, readRecentre_warm set h.st]
      exact ⟨h.st, h.k, h.blank, h.det⟩
    | false =>
      rw [receive, readRecentre_clear set]
      exact h
  · have others (w : Det) (apart : r ≠ .detector w) := receive_apart (f := f) (s := s) apart last (fun same => absurd same flag)
    by_cases detector : ∃ w, r = .detector w
    · obtain ⟨v, rfl⟩ := detector
      refine of (detectorFrame_chain v f s) fun w => ?_
      by_cases own : w = v
      · subst own
        obtain ⟨p, det, -, -⟩ := detectorFrame_takes w f s
        rw [receive, det, pair_get_set]
        exact (detStep_warming_st (h.det w)).trans (h.det w).symm
      · rw [(others w (fun same => own (by injection same with same; exact same.symm))).1]
    · have apart (w : Det) : r ≠ .detector w := fun same => detector ⟨w, same⟩
      exact of (others .z (apart .z)).2 fun w => by rw [(others w (apart w)).1]

theorem foldl_freshWarmup {f : Conditioned} (l : List Recipient) : .after ∉ l → ∀ {s : State}, freshWarmup s →
    freshWarmup (l.foldl (receive f) s) := by
  induction l with
  | nil => exact fun _ _ h => h
  | cons r rest ih =>
    intro absent s h
    exact ih (fun mem => absent (List.mem_cons_of_mem _ mem))
      (receive_freshWarmup (fun same => absent (same ▸ List.mem_cons_self)) h)

/-- The chain's last act counts at most the first block. -/
theorem afterDetectors_freshWarmup {f : Conditioned} {s : State} (h : freshWarmup s) (long : 2 ≤ s.active.warm) :
    (afterDetectors f s).chain.st = .warmup ∧ (afterDetectors f s).chain.k ≤ 1 ∧
    (afterDetectors f s).chain.blankEnd = none ∧ ∀ w, ((afterDetectors f s).det.get w).st = .warming := by
  have acts : afterDetectors f s = afterWarmupFrame f s := receive_after_warm h.st f
  have stands : s.chain.k ≤ 1 := by rw [h.k]; exact Nat.zero_le 1
  rw [acts]
  by_cases paused : s.chain.pauseEnd.isSome
  · rw [afterWarmupFrame_paused paused]
    split
    · exact ⟨h.st, Nat.zero_le 1, h.blank, fun w => by cases w; exacts [h.det .z, h.det .h]⟩
    · exact ⟨h.st, stands, h.blank, h.det⟩
  · rw [afterWarmupFrame_counts (Option.not_isSome_iff_eq_none.mp paused)]
    split
    · have few : ¬ (countBlock s).active.warm ≤ (countBlock s).chain.k := by
        change ¬ s.active.warm ≤ s.chain.k + 1
        rw [h.k]
        omega
      rw [warmupBlock, completionTest_due (s := countBlock s) f.n rfl, if_neg few]
      refine ⟨h.st, ?_, h.blank, fun w => by cases w; exacts [h.det .z, h.det .h]⟩
      change s.chain.k + 1 ≤ 1
      rw [h.k]
    · exact ⟨h.st, stands, h.blank, h.det⟩

/-- A whole frame that finds a fresh warm-up. -/
theorem conditionFrame_freshWarmup (f : RawFrame) (filled : Bool) {s : State} (h : freshWarmup s) (legal : entriesLegal s) :
    let t := conditionFrame f filled s
    t.chain.st = .warmup ∧ t.chain.k ≤ 1 ∧ t.chain.blankEnd = none ∧ ∀ w, (t.det.get w).st = .warming := by
  intro t
  obtain ⟨order, drawn, delivery, -, is⟩ := conditionFrame_eq f filled s
  obtain ⟨ahead, behind, parts⟩ := delivers_split delivery
  obtain ⟨tb, shape⟩ := conditionedAt_shape f filled drawn s
  have h0 : freshWarmup (conditionedAt f filled drawn s) := by
    rw [shape]
    exact ⟨h.st, h.k, h.blank, h.det⟩
  have legal0 : entriesLegal (conditionedAt f filled drawn s) := by
    rw [shape]
    exact legal
  have h1 := foldl_freshWarmup (f := (conditioned s f filled).1) ahead (fun mem => parts.after_ahead mem rfl) h0
  have legal1 : entriesLegal (ahead.foldl (receive (conditioned s f filled).1) (conditionedAt f filled drawn s)) :=
    KeptByParts.fold (fun _ r => entriesLegal_parts.receive _ r) ahead _ legal0
  have long : 16 ≤ (ahead.foldl (receive (conditioned s f filled).1) (conditionedAt f filled drawn s)).active.warm :=
    warm_least (legal1.1 _)
  obtain ⟨det, chain⟩ := foldl_behind (f := (conditioned s f filled).1) parts (conditionedAt f filled drawn s)
  rw [← is] at det chain
  change t.det = _ at det
  change t.chain = _ at chain
  rw [det, chain]
  exact afterDetectors_freshWarmup h1 (le_trans (by decide) long)

/-- In HOLD a frame leaves the chain's state. -/
theorem conditionFrame_hold (f : RawFrame) (filled : Bool) {s : State} (hold : s.chain.st = .hold) :
    (conditionFrame f filled s).chain.st = .hold := by
  obtain ⟨order, drawn, delivery, -, is⟩ := conditionFrame_eq f filled s
  obtain ⟨ahead, behind, parts⟩ := delivers_split delivery
  obtain ⟨tb, shape⟩ := conditionedAt_shape f filled drawn s
  have h0 : (conditionedAt f filled drawn s).chain.st = .hold := by
    rw [shape]
    exact hold
  have ahead' (l : List Recipient) : .after ∉ l → ∀ {v : State}, v.chain.st = .hold →
      (l.foldl (receive (conditioned s f filled).1) v).chain.st = .hold := by
    induction l with
    | nil => exact fun _ _ st => st
    | cons r rest ih =>
      exact fun absent _ st => ih (fun mem => absent (List.mem_cons_of_mem _ mem))
        ((receive_chainState fun same => absent (same ▸ List.mem_cons_self)).trans st)
  have h1 := ahead' ahead (fun mem => parts.after_ahead mem rfl) h0
  obtain ⟨-, chain⟩ := foldl_behind (f := (conditioned s f filled).1) parts (conditionedAt f filled drawn s)
  rw [is, chain, afterDetectors_away (.inl h1)]
  exact h1

end Sys2Proof.Proofs
end

section
/-! PROOFS. A resynchronising frame (1.1, 2.5, 3.2, 4.4, 8.3). -/

namespace Sys2Proof.Proofs

open Sys2Proof.Machine Sys2Proof.Laws

/-! ## The numbers that the records take (8.2) -/

/-- A slot that has completed at place k waits in DONE with its record, or its record has been admitted under number q. -/
def doneOrNumbered (formed : PickRecord) (order : BitVec 32) (q : BitVec 32) (i : Fin 8) (t : State) : Prop :=
  ((t.slot i).st = .done ∧ (t.slot i).record = some formed ∧ (t.slot i).pin = none ∧ (t.slot i).order = some order) ∨
  (t.slot i = freeSlot ∧ ∃ (g : Option (BitVec 8)) (role : Role),
    .pick { formed with seq := some q, group := g, role := role } ∈ t.reports.queue)

theorem ledger_concludes {order : List (Fin 8)} {formed : Nat → PickRecord} {date : BitVec 32}
    {seqs : Nat → Option (BitVec 32)} {t : State} (h : ledger order formed date order.length seqs t) {seq : Nat → BitVec 32}
    (agree : ∀ k q, seqs k = some q → q = seq k) {k : Nat} {i : Fin 8} (at' : order[k]? = some i) :
    doneOrNumbered (formed k) (date + BitVec.ofNat 32 k) (seq k) i t := by
  obtain ⟨early, -⟩ := List.getElem?_eq_some_iff.mp at'
  cases numbered : seqs k with
  | none => exact .inl (h.waits early at' numbered)
  | some q =>
    rw [← agree k q numbered]
    exact .inr (h.gone early at' numbered)

/-- The numbers are given in the order of completion where the queue starts as its own invariant has it; otherwise some
numbers are given. -/
theorem numbers_of_accounts {s t : State} {order : List (Fin 8)} {formed : Nat → PickRecord} {date : BitVec 32}
    (base : BitVec 32) (always : accounted order formed date (fun _ _ _ => True) order.length t)
    (full : s.waitsOnlyWhenFull → ¬ s.nothingWaits → accounted order formed date oneNumber order.length t)
    (idle : s.nothingWaits → accounted order formed date (inTurn order base) order.length t) :
    ∃ seq : Nat → BitVec 32, (s.waitsOnlyWhenFull → ∃ base, ∀ k, seq k = base + BitVec.ofNat 32 k) ∧
      ∀ {k : Nat} {i : Fin 8}, order[k]? = some i →
        doneOrNumbered (formed k) (date + BitVec.ofNat 32 k) (seq k) i t := by
  by_cases nothing : s.nothingWaits
  · obtain ⟨seqs, account, ⟨a, before, beyond, -⟩, -⟩ := idle nothing
    refine ⟨fun k => base + BitVec.ofNat 32 k, fun _ => ⟨base, fun _ => rfl⟩,
      fun at' => ledger_concludes (seq := fun k => base + BitVec.ofNat 32 k) account ?_ at'⟩
    intro k q numbered
    rcases Nat.lt_or_ge k a with lt | ge
    · rw [before k lt] at numbered
      exact (Option.some_inj.mp numbered).symm
    · rw [beyond k ge] at numbered
      cases numbered
  · by_cases kept : s.waitsOnlyWhenFull
    · obtain ⟨seqs, account, -, few⟩ := full kept nothing
      rcases few with allNone | ⟨-, k0, q0, number, others⟩
      · refine ⟨fun k => 0 + BitVec.ofNat 32 k, fun _ => ⟨0, fun _ => rfl⟩,
          fun at' => ledger_concludes (seq := fun k => 0 + BitVec.ofNat 32 k) account ?_ at'⟩
        intro k q numbered
        rw [allNone k] at numbered
        cases numbered
      · refine ⟨fun k => q0 - BitVec.ofNat 32 k0 + BitVec.ofNat 32 k, fun _ => ⟨_, fun _ => rfl⟩,
          fun at' => ledger_concludes (seq := fun k => q0 - BitVec.ofNat 32 k0 + BitVec.ofNat 32 k) account ?_ at'⟩
        intro k q numbered
        by_cases own : k = k0
        · subst own
          rw [number] at numbered
          cases numbered
          exact (BitVec.sub_add_cancel _ _).symm
        · rw [others k own] at numbered
          cases numbered
    · obtain ⟨seqs, account, -⟩ := always
      refine ⟨fun k => (seqs k).getD 0, fun h => absurd h kept,
        fun at' => ledger_concludes (seq := fun k => (seqs k).getD 0) account ?_ at'⟩
      intro k q numbered
      rw [numbered, Option.getD_some]

/-! ## The frame behind the resynchronising actions -/

section
variable {s t1 w : State}

/-- State w is what a new record begins with: the chain set up, all else as the resynchronising actions leave it. -/
structure beginsRecord (t1 w : State) : Prop where
  slots : ∀ i, w.slot i = (resync (chainLongGap t1)).slot i
  queue : w.table.queue = (resync (chainLongGap t1)).table.queue
  unit : w.unit = (resync (chainLongGap t1)).unit
  reports : w.reports = (resync (chainLongGap t1)).reports
  time : w.time = (resync (chainLongGap t1)).time
  ring : w.ring = []
  dc : w.dc = ⟨none, none, none⟩
  settings : w.settings = t1.settings
  revert : w.revert = t1.revert
  away : w.chain.st ≠ .run

variable (was : admitted s t1) (queue : s.queueAgrees) (runs : ∀ i : Fin 8, (s.slot i).st = .opened → s.chain.st = .run)
  (begins : beginsRecord t1 w) (now : Nat) (f : RawFrame)
include was queue runs begins

theorem begins_way : notified (resync (chainLongGap t1)) (acceptFrame now f w) := by
  have set : notified (resync (chainLongGap t1)) { w with
      intake := { w.intake with lastRaw := some f, expected := some (f.seq + 1), silence := some now }
      time := { w.time with lastFrame := some (f.seq, now) } } :=
    .same begins.slots begins.reports begins.unit begins.queue
  have rest := resync_atRest was queue runs
  exact set.trans (conditionFrame_notified f false (atRest_notified set rest) begins.away begins.ring)

theorem accepted_atRest : atRest (acceptFrame now f w) :=
  atRest_notified (begins_way was queue runs begins now f) (resync_atRest was queue runs)

theorem accepted_noted {count : Nat} {first : Option Sample} {data : NoticeData} (h : noted count first data t1) :
    noted count first data (acceptFrame now f w) :=
  noted_notified (begins_way was queue runs begins now f) (resync_noted h)

theorem accepted_time : (acceptFrame now f w).time =
    { s.time with lastFrame := some (f.seq, now), step := s.time.step && (inProgress s).isEmpty } := by
  have left := (resync_accounted was queue runs accounts_any trivial).2
  rw [acceptFrame, (conditionFrame_time _ _ _).1]
  dsimp only
  rw [begins.time, left]

theorem accepted_accounts {C : Nat → (Nat → Option (BitVec 32)) → State → Prop}
    (rule : accounts (inProgress s) (formedAt (emptied (chainLongGap t1)) (inProgress s)) t1.reports.waiting C)
    (start : C 0 (fun _ => none) (emptied (chainLongGap t1))) :
    accounted (inProgress s) (formedAt (emptied (chainLongGap t1)) (inProgress s)) t1.reports.waiting C (inProgress s).length
      (acceptFrame now f w) :=
  accounted_notified rule (inProgress_nodup queue) (begins_way was queue runs begins now f)
    (resync_accounted was queue runs rule start).1

/-- The slots in progress, each with its record, behind the frame. -/
theorem accepted_numbers (longer : s.reports.queue.length ≤ t1.reports.queue.length) :
    ∃ seq : Nat → BitVec 32, (s.waitsOnlyWhenFull → ∃ base, ∀ k, seq k = base + BitVec.ofNat 32 k) ∧
      ∀ {k : Nat} {i : Fin 8}, (inProgress s)[k]? = some i →
        doneOrNumbered (endedRecord s (s.time.step && decide (k = 0)) (s.slot i)) (t1.reports.waiting + BitVec.ofNat 32 k)
          (seq k) i (acceptFrame now f w) := by
  have reports := (emptied_fields t1).2.2
  have account {C : Nat → (Nat → Option (BitVec 32)) → State → Prop} (rule : accounts (inProgress s) (formedAt (emptied (chainLongGap t1)) (inProgress s))
      t1.reports.waiting C) (start : C 0 (fun _ => none) (emptied (chainLongGap t1))) :=
    accepted_accounts was queue runs begins now f rule start
  have full (kept : s.waitsOnlyWhenFull) (waits : ¬ s.nothingWaits) : 31 ≤ (emptied (chainLongGap t1)).reports.queue.length := by
    have many := kept.2 waits
    unfold Config.queueCap at many
    rw [reports]
    omega
  have idle (nothing : s.nothingWaits) :
      inTurn (inProgress s) t1.reports.pickSeq 0 (fun _ => none) (emptied (chainLongGap t1)) := by
    refine ⟨⟨0, fun _ before => absurd before (Nat.not_lt_zero _), fun _ _ => rfl, ?_⟩, fun i done => ?_⟩
    · rw [reports]
      exact (BitVec.add_zero _).symm
    · by_cases mem : i ∈ inProgress s
      · exact absurd done (emptied_notDone was queue runs mem)
      · rcases emptied_others was queue runs mem with free | ⟨-, wasDone⟩
        · rw [free] at done
          cases done
        · exact absurd wasDone (nothing.1 i)
  obtain ⟨seq, based, each⟩ := numbers_of_accounts (s := s) t1.reports.pickSeq (account accounts_any trivial)
    (fun kept waits => account accounts_oneNumber ⟨full kept waits, .inl fun _ => rfl⟩)
    (fun nothing => account (accounts_inTurn (inProgress_nodup queue) _) (idle nothing))
  refine ⟨seq, based, fun at' => ?_⟩
  have own := each at'
  rwa [formedAt_ended was queue runs at'] at own

end

end Sys2Proof.Proofs
end

section
/-! PROOFS. The chain at a new record (2.5, 2.6, 3.2), and the resynchronising frame as a whole. -/

namespace Sys2Proof.Proofs

open Sys2Proof.Machine Sys2Proof.Laws

/-! ## The chain's set-up (R44, R48, R49) -/

/-- The resynchronising actions and the chain: the blocks in progress dropped, outside HOLD the end samples too. -/
theorem resync_chain (t1 : State) : ∃ b p, (resync (chainLongGap t1)).chain = { t1.chain with blankEnd := b, pauseEnd := p } ∧
    (t1.chain.st = .hold → (resync (chainLongGap t1)).chain = t1.chain) ∧
    (resync (chainLongGap t1)).det = t1.det.map Detector.endBlock ∧ (resync (chainLongGap t1)).ring = [] ∧
    (resync (chainLongGap t1)).dc = ⟨none, none, none⟩ ∧ (resync (chainLongGap t1)).settings = t1.settings ∧
    (resync (chainLongGap t1)).revert = t1.revert := by
  obtain ⟨t, u, a, r, b, be, pe, shape⟩ := newRecord_shape t1
  have held (hold : t1.chain.st = .hold) : (resync (chainLongGap t1)).chain = t1.chain := by
    rw [chainLongGap_hold hold]
    obtain ⟨_, _, _, _, kept⟩ := resync_shape t1
    rw [kept]
  rw [shape] at held ⊢
  exact ⟨be, pe, rfl, held, rfl, rfl, rfl, rfl, rfl⟩

/-- What a new record's chain is: in HOLD without an autostart it stands, otherwise warm-up begins afresh. -/
structure setsUp (s : State) (stays : Prop) (w : State) : Prop where
  held : stays → w.det = ⟨{ s.det.z with blkSum := 0, blkCount := 0 }, { s.det.h with blkSum := 0, blkCount := 0 }⟩ ∧
    w.chain = { s.chain with armed := s.chain.armed && decide (s.intake.link = .up) }
  fresh : ¬ stays → w.det = ⟨learnDetector s.det.z, learnDetector s.det.h⟩ ∧ w.chain = { s.chain with
    st := .warmup, k := 0, blankEnd := none, pauseEnd := none
    armed := s.chain.armed && decide (s.chain.st ≠ .hold)
    impSt := if s.chain.st = .hold then importLeft s.chain.impSt else s.chain.impSt }

/-- What every set-up of the chain leaves. -/
structure leavesRecord (x w : State) : Prop where
  table : w.table = x.table
  unit : w.unit = x.unit
  reports : w.reports = x.reports
  time : w.time = x.time
  ring : w.ring = x.ring
  dc : w.dc = x.dc
  settings : w.settings = x.settings
  revert : w.revert = x.revert

theorem enterWarmup_leaves (x : State) : leavesRecord x (enterWarmup x) := ⟨rfl, rfl, rfl, rfl, rfl, rfl, rfl, rfl⟩

theorem chainAfterGap_leaves (x : State) : leavesRecord x (chainAfterGap x) := by
  unfold chainAfterGap
  split
  · exact ⟨rfl, rfl, rfl, rfl, rfl, rfl, rfl, rfl⟩
  · exact enterWarmup_leaves x

theorem chainRestart_leaves (x : State) : leavesRecord x (chainRestart x) := by
  unfold chainRestart
  split
  · unfold autostart
    split
    · dsimp only
      rw [invalidateImport_eq]
      split
      · exact ⟨rfl, rfl, rfl, rfl, rfl, rfl, rfl, rfl⟩
      · exact ⟨rfl, rfl, rfl, rfl, rfl, rfl, rfl, rfl⟩
    · exact ⟨rfl, rfl, rfl, rfl, rfl, rfl, rfl, rfl⟩
  · exact enterWarmup_leaves x

theorem enterWarmup_sets {s t1 : State} {stays : Prop} (det : t1.det = s.det) (chain : t1.chain = s.chain)
    (goes : ¬ stays) (left : s.chain.st ≠ .hold) : setsUp s stays (enterWarmup (resync (chainLongGap t1))) := by
  obtain ⟨b, p, chain', -, det', -⟩ := resync_chain t1
  refine ⟨fun h => absurd h goes, fun _ => ⟨?_, ?_⟩⟩
  · simp only [enterWarmup, det', det]
    rfl
  · simp only [enterWarmup, chain', chain, if_neg left, decide_eq_true left, Bool.and_true]

/-- The chain after a long gap's resynchronising actions (R49). -/
theorem chainAfterGap_sets {s t1 : State} {stays : Prop} (det : t1.det = s.det) (chain : t1.chain = s.chain)
    (up : s.intake.link = .up) (iff : stays ↔ s.chain.st = .hold) :
    setsUp s stays (chainAfterGap (resync (chainLongGap t1))) := by
  by_cases hold : s.chain.st = .hold
  · obtain ⟨b, p, -, held, det', -⟩ := resync_chain t1
    have kept : (resync (chainLongGap t1)).chain = s.chain := (held (by rw [chain]; exact hold)).trans chain
    have stands : chainAfterGap (resync (chainLongGap t1)) = resync (chainLongGap t1) := by
      rw [chainAfterGap, kept, hold]
    rw [stands]
    refine ⟨fun _ => ⟨by rw [det', det]; rfl, ?_⟩, fun goes => absurd (iff.mpr hold) goes⟩
    rw [kept, up]
    simp only [decide_true, Bool.and_true]
  · have goes : ¬ stays := fun h => hold (iff.mp h)
    have enters : chainAfterGap (resync (chainLongGap t1)) = enterWarmup (resync (chainLongGap t1)) := by
      obtain ⟨b, p, chain', -⟩ := resync_chain t1
      unfold chainAfterGap
      split
      next here =>
        rw [chain', chain] at here
        exact absurd here hold
      next => rfl
    rw [enters]
    exact enterWarmup_sets det chain goes hold

/-- The chain after a resumption's resynchronising actions: in HOLD an armed autostart alone leaves (R44, R48). -/
theorem chainRestart_sets {s t1 : State} (det : t1.det = s.det) (chain : t1.chain = s.chain)
    (settings : t1.settings = s.settings) (down : s.intake.link = .down) :
    setsUp s (s.chain.st = .hold ∧
      ¬ (s.intake.link = .down ∧ s.chain.armed = true ∧ s.settings.station.autostart = true))
      (chainRestart (resync (chainLongGap t1))) := by
  obtain ⟨b, p, chain', held, det', -, -, settings', -⟩ := resync_chain t1
  have linkOff : decide (s.intake.link = .up) = false := by rw [down]; rfl
  by_cases hold : s.chain.st = .hold
  · have kept : (resync (chainLongGap t1)).chain = s.chain := (held (by rw [chain]; exact hold)).trans chain
    have station : (resync (chainLongGap t1)).settings = s.settings := settings'.trans settings
    have starts : chainRestart (resync (chainLongGap t1)) = autostart (resync (chainLongGap t1)) := by
      rw [chainRestart, kept, hold]
    rw [starts, autostart, kept]
    cases armed : s.chain.armed with
    | false =>
      rw [if_neg Bool.false_ne_true]
      refine ⟨fun _ => ⟨by rw [det', det]; rfl, ?_⟩, fun goes => absurd ⟨hold, fun all => nomatch all.2.1⟩ goes⟩
      have off : (s.chain.armed && decide (s.intake.link = .up)) = s.chain.armed := by rw [armed, Bool.false_and]
      rw [kept, off]
    | true =>
      rw [if_pos rfl]
      dsimp only
      have station' : (disarm (resync (chainLongGap t1))).settings.station.autostart = s.settings.station.autostart := by
        rw [← station]
        rfl
      rw [station']
      cases auto : s.settings.station.autostart with
      | false =>
        rw [if_neg Bool.false_ne_true]
        refine ⟨fun _ => ⟨by rw [disarm, det', det]; rfl, ?_⟩, fun goes => absurd ⟨hold, fun all => nomatch all.2.2⟩ goes⟩
        rw [disarm, kept, linkOff, Bool.and_false]
      | true =>
        rw [if_pos rfl, invalidateImport_eq]
        refine ⟨fun h => absurd ⟨down, rfl, rfl⟩ h.2, fun _ => ⟨?_, ?_⟩⟩
        · simp only [enterWarmup, disarm, det', det]
          rfl
        · simp only [enterWarmup, disarm, kept, hold, if_true, ne_eq, not_true_eq_false, decide_false, Bool.and_false]
  · have enters : chainRestart (resync (chainLongGap t1)) = enterWarmup (resync (chainLongGap t1)) := by
      unfold chainRestart
      split
      next here =>
        rw [chain', chain] at here
        exact absurd here hold
      next => rfl
    rw [enters]
    exact enterWarmup_sets det chain (fun h => hold h.1) hold

theorem begins_of_leaves {t1 w : State} (left : leavesRecord (resync (chainLongGap t1)) w) (away : w.chain.st ≠ .run) :
    beginsRecord t1 w := by
  obtain ⟨b, p, -, -, -, ring, dc, settings, revert⟩ := resync_chain t1
  refine ⟨fun i => by rw [State.slot, State.slot, left.table], by rw [left.table], left.unit, left.reports, left.time, ?_, ?_,
    ?_, ?_, away⟩
  · rw [left.ring, ring]
  · rw [left.dc, dc]
  · rw [left.settings, settings]
  · rw [left.revert, revert]

end Sys2Proof.Proofs
end

section
/-! PROOFS. The resynchronising frame (1.1, 3.2, 4.4, 8.3). -/

namespace Sys2Proof.Proofs

open Sys2Proof.Machine Sys2Proof.Laws

/-! ## LONG_GAP (R5, R131) -/

theorem admitAll_longer (s : State) : s.reports.queue.length ≤ (admitAll s).reports.queue.length :=
  attempts_keeps (P := fun t => s.reports.queue.length ≤ t.reports.queue.length)
    (fun t w _ _ h => by
      obtain ⟨-, behind, queue⟩ := admitItem_others w t
      rw [queue, List.length_append]
      exact h.trans (Nat.le_add_right _ _))
    (fun t w h => by
      obtain ⟨b, same⟩ := blockedAttempt_eq w t
      rw [same]
      exact h) 16 s le_rfl

/-- A raised notice of key 1, new or joined to a pending one. -/
theorem raise_longGap (e n : Sample) (s : State) :
    s.reports.queue.length ≤ (raise (.longGap e n) s).reports.queue.length ∧
    (raise (.longGap e n) s).reports.waiting =
      s.reports.waiting + (if s.reports.notices[(1 : Fin 8)] = none then 1 else 0) ∧
    ∃ (count : Nat) (first : Option Sample),
      (s.reports.notices[(1 : Fin 8)] = none → count = 1 ∧ first = s.newest) ∧
      (∀ p : PendingNotice, s.reports.notices[(1 : Fin 8)] = some p → count = min (p.count + 1) 255 ∧ first = p.first) ∧
      noted count first (.longGap e n) (raise (.longGap e n) s) := by
  have own (x : Option PendingNotice) : (s.reports.notices.set (1 : Fin 8) x)[(1 : Fin 8)] = x := by simp
  cases pending : s.reports.notices[(1 : Fin 8)] with
  | none =>
    rw [raise_new (d := .longGap e n) pending]
    set x : State := (s.setNotice (NoticeData.longGap e n).key
      (some ⟨s.reports.waiting, s.newest, 1, .longGap e n⟩)).takeDate
    refine ⟨admitAll_longer x, ?_, 1, s.newest, fun _ => ⟨rfl, rfl⟩, nofun, noted_admitAll (.inr ⟨_, own _⟩)⟩
    rw [admitAll_waiting, if_pos rfl]
    rfl
  | some p =>
    rw [raise_pending (d := .longGap e n) pending]
    refine ⟨le_rfl, ?_, min (p.count + 1) 255, p.first, nofun, fun p' is => ?_, .inr ⟨p.date, own _⟩⟩
    · rw [if_neg nofun]
      exact (BitVec.add_zero _).symm
    · cases is
      exact ⟨rfl, rfl⟩

/-! ## The frame as a new record -/

/-- In HOLD, and no autostart leaves it. -/
abbrev staysInHold (s : State) : Prop :=
  s.chain.st = .hold ∧ ¬ (s.intake.link = .down ∧ s.chain.armed = true ∧ s.settings.station.autostart = true)

/-- State w is what the frame f of arrival tick `now` is accepted on, behind the resynchronising actions that t1 finds. -/
structure newRecord (s : State) (now : Nat) (f : RawFrame) (t1 w : State) : Prop where
  goes : goodFrame now f { s with clock := now } = acceptFrame now f w
  was : ∃ i, admitted { s with clock := now, intake := i } t1
  leaves : leavesRecord (resync (chainLongGap t1)) w
  sets : setsUp s (staysInHold s) w
  longer : s.reports.queue.length ≤ t1.reports.queue.length
  waiting : t1.reports.waiting =
    s.reports.waiting + (if s.intake.link = .up ∧ s.reports.notices[(1 : Fin 8)] = none then 1 else 0)
  intake : (acceptFrame now f w).intake = { s.intake with
    link := .up, lastRaw := some f, expected := some (f.seq + 1), silence := some now
    gaps := if s.intake.link = .up then min (s.intake.gaps + 1) 65535 else s.intake.gaps }
  notice : ∀ e, s.intake.link = .up → s.intake.expected = some e → ∃ (count : Nat) (first : Option Sample),
    (s.reports.notices[(1 : Fin 8)] = none → count = 1 ∧ first = s.newest) ∧
    (∀ p : PendingNotice, s.reports.notices[(1 : Fin 8)] = some p → count = min (p.count + 1) 255 ∧ first = p.first) ∧
    noted count first (.longGap e f.seq) t1

theorem resume_newRecord {s : State} (now : Nat) (f : RawFrame) (down : s.intake.link = .down) :
    ∃ t1 w, newRecord s now f t1 w := by
  have apart : ¬ s.intake.link = .up := by rw [down]; nofun
  have goes : goodFrame now f { s with clock := now } = resume now f { s with clock := now } := by
    unfold goodFrame
    dsimp only
    rw [down]
  obtain ⟨intake, -⟩ := resume_link now f { s with clock := now }
  refine ⟨{ s with clock := now, intake := { s.intake with link := .up } },
    chainRestart (resync (chainLongGap { s with clock := now, intake := { s.intake with link := .up } })),
    goes, ⟨_, admitted_refl _⟩, chainRestart_leaves _, chainRestart_sets (s := s) rfl rfl rfl down, le_rfl, ?_, ?_,
    fun e up => absurd up apart⟩
  · rw [if_neg fun both => apart both.1]
    exact (BitVec.add_zero _).symm
  · rw [if_neg apart]
    exact intake

theorem longGap_newRecord {s : State} (now : Nat) (f : RawFrame) {e : Sample} (up : s.intake.link = .up)
    (expected : s.intake.expected = some e) (far : (s.settings.station.gap : Int) < distance e f.seq) :
    ∃ t1 w, newRecord s now f t1 w := by
  have goes : goodFrame now f { s with clock := now } = longGap now f e { s with clock := now } := by
    rw [goodFrame_up (s := { s with clock := now }) up expected, classify]
    dsimp only
    rw [if_neg (by omega), if_neg (by omega), if_neg (by omega)]
  obtain ⟨intake, -⟩ := longGap_link now f e { s with clock := now }
  set base : State := { s with clock := now, intake := { s.intake with gaps := sat16 (s.intake.gaps + 1) } } with base_eq
  obtain ⟨longer, waiting, noted'⟩ := raise_longGap e f.seq base
  have iff : staysInHold s ↔ s.chain.st = .hold :=
    ⟨And.left, fun hold => ⟨hold, fun all => absurd (up.symm.trans all.1) nofun⟩⟩
  refine ⟨raise (.longGap e f.seq) base, chainAfterGap (resync (chainLongGap (raise (.longGap e f.seq) base))),
    goes, ⟨_, raise_admitted _ base⟩, chainAfterGap_leaves _,
    chainAfterGap_sets (s := s) (by rw [raise_det]) (by rw [raise_chain]) up iff, longer, ?_, ?_, ?_⟩
  · rw [waiting]
    exact congrArg (s.reports.waiting + ·) (if_congr (and_iff_right up).symm rfl rfl)
  · rw [if_pos up]
    refine intake.trans ?_
    rw [← up]
  · intro e' _ expected'
    rw [expected] at expected'
    cases expected'
    exact noted'

theorem conditioned_fresh {s v : State} (settings : v.settings = s.settings) (dc : v.dc = ⟨none, none, none⟩) (f : RawFrame)
    (filled : Bool) : conditioned v f filled = conditioned { s with dc := ⟨none, none, none⟩ } f filled := by
  have active : v.active = s.active := by simp only [State.active, settings]
  unfold conditioned
  rw [settings, active, dc]
  rfl

/-- The call that R96 gives a class. -/
theorem endedRecord_eq (s : State) (step : Bool) (x : Slot) :
    let early := decide (x.st = .opened)
    let call : Phase × Basis :=
      match x.cls with
      | .z => (.p, .context)
      | .h => (.s, .context)
      | .forced => (.unknown, .none)
    endedRecord s step x = {
      seq := none, cls := x.cls, call := call.1, basis := call.2, profile := x.profile, trigger := x.trigger
      onset := x.trigger, secs := (convertTime s x.trigger).1, us := (convertTime s x.trigger).2
      timeSt := s.time.st, missed := s.time.missed, rise := 0, snr := x.peak, weight := 3, share := none
      sums := none, peaks := none, clips := 0, fills := 0, retrig := x.retrig, lost := x.lost
      flags := x.flags.union { historyShort := true, gap := early, truncated := early,
                               contextCall := decide (x.cls ≠ .forced), timeStep := step }
      group := none, role := .none } := by
  intro early call
  have called : (contextCall x.cls).1 = call.1 ∧ (contextCall x.cls).2.1 = call.2 := by
    simp only [call]
    cases x.cls <;> exact ⟨rfl, rfl⟩
  rw [endedRecord, shortRecord, called.1, called.2]

/-- Settles O30: the slots in progress through the resynchronising actions and the frame, the chain set up between them. -/
theorem resynchronisingFrameStartsANewRecord : Obligations.ResynchronisingFrameStartsANewRecord := by
  intro s f tick on empty quiet fits queue slots legal starts c stays order ended date
  obtain ⟨t1, w, begun⟩ : ∃ t1 w, newRecord s tick f t1 w := by
    rcases starts with down | ⟨e, up, expected, far⟩
    · exact resume_newRecord tick f down
    · exact longGap_newRecord tick f up expected far
  obtain ⟨i0, was⟩ := begun.was
  set base : State := { s with clock := tick, intake := i0 } with base_eq
  have queue' : base.queueAgrees := queue
  have runs : ∀ i : Fin 8, (base.slot i).st = .opened → base.chain.st = .run := fun i isOpen => (slots.1 i isOpen).1
  have held (hold : staysInHold s) : w.chain.st = .hold := by
    rw [(begun.sets.held hold).2]
    exact hold.1
  have left (goes : ¬ staysInHold s) : w.chain.st = .warmup := by rw [(begun.sets.fresh goes).2]
  have begins := begins_of_leaves begun.leaves fun runs => by
    by_cases hold : staysInHold s
    · exact nomatch (held hold).symm.trans runs
    · exact nomatch (left hold).symm.trans runs
  have settings : w.settings = s.settings := begins.settings.trans (by rw [was.1])
  have revert : w.revert = s.revert := begins.revert.trans (by rw [was.1])
  set v : State := { w with
    intake := { w.intake with lastRaw := some f, expected := some (f.seq + 1), silence := some tick }
    time := { w.time with lastFrame := some (f.seq, tick) } } with v_eq
  set t := acceptFrame tick f w with t_eq
  have is : t = conditionFrame f false v := rfl
  have frame : conditioned v f false = c := conditioned_fresh (v := v) settings begins.dc f false
  have warm (goes : ¬ staysInHold s) := by
    obtain ⟨det, chain⟩ := begun.sets.fresh goes
    obtain ⟨profiles, -, -, -, back, -⟩ := legal
    have legalV : entriesLegal v := by
      rw [entriesLegal, show v.settings = s.settings from settings, show v.revert = s.revert from revert]
      exact ⟨profiles, back⟩
    have fresh : freshWarmup v := by
      refine ⟨left goes, ?_, ?_, fun d => ?_⟩
      · exact (congrArg Chain.k chain :)
      · exact (congrArg Chain.blankEnd chain :)
      · rw [show v.det = w.det from rfl, det]
        cases d
        exacts [rfl, rfl]
    exact conditionFrame_freshWarmup f false fresh legalV
  have order_eq : inProgress base = order :=
    congrArg ((s.unit.map (·.slot)).toList ++ s.table.queue ++ ·)
      (byTrigger_congr (s := s) (t := base) (fun _ => rfl) (s.slotsIn .opened))
  have rest := accepted_atRest was queue' runs begins tick f
  obtain ⟨seq, based, each⟩ := accepted_numbers was queue' runs begins tick f begun.longer
  obtain ⟨_, _, _, _, _, _, _, _, _, _, _, shape⟩ := conditionFrame_handled f false v
  refine ⟨t, ?_, ?_, ?_, (conditionFrame_time f false v).2, begun.intake, ⟨v, begins.ring, begins.dc, settings, revert,
      begun.sets.held, begun.sets.fresh, conditionFrame_handedOn f false v⟩, mem_inProgress queue, inProgress_nodup queue, ?_,
    ⟨seq, based, fun k i at' => ?_⟩, rest.slots, rest.unit, rest.queue, ?_, fun leaves => ?_, fun e up expected => ?_⟩
  · rw [sampleFrame_whole on empty quiet fits, begun.goes]
  · rw [is, shape, frame]
    change pushed w.ring c.1 = _
    rw [begins.ring]
    rfl
  · rw [is, shape, frame]
  · have at' := accepted_time was queue' runs begins tick f
    rw [order_eq] at at'
    exact at'
  · have own := each (k := k) (i := i) (by rw [order_eq]; exact at')
    rw [begun.waiting, endedRecord_eq, show decide (k = 0) = (k == 0) from rfl] at own
    exact own
  · by_cases hold : staysInHold s
    · exact (conditionFrame_hold f false (s := v) (held hold)).trans (if_pos hold).symm
    · exact (warm hold).1.trans (if_neg hold).symm
  · obtain ⟨-, few, open', det⟩ := warm leaves
    exact ⟨det .z, det .h, few, open'⟩
  · obtain ⟨count, first, new, joined, kept⟩ := begun.notice e up expected
    exact ⟨count, first, new, joined, accepted_noted was queue' runs begins tick f kept⟩

end Sys2Proof.Proofs
end
